-- ==== Sys2Proof/Word.lean ====
section
/-! DEFINITION. The plain types every other file is written over: bytes, the two sides of the part, the three
variants, the access classes of Table SCOPE-3 and the description of one register field. -/

namespace Sys2Proof

/-- One byte. -/
abbrev Byte := BitVec 8

/-- The two sides of the sealed split (ch. 01): the application side and the metrology island. -/
inductive Side where
  | app
  | met
  deriving DecidableEq, Repr

/-- The value of a pair that belongs to a side. -/
def Side.pick {α : Type} (sd : Side) (a m : α) : α :=
  match sd with
  | .app => a
  | .met => m

/-- The variants of the part (R1): BST420A, BST420H, BST420C. -/
inductive Variant where
  | a
  | h
  | c
  deriving DecidableEq, Repr

/-- The domains the mode controller powers (Table MODE-3). -/
inductive Dom where
  | met
  | app
  | rf
  | loft
  deriving DecidableEq, Repr

/-- The access classes of the register tables (Table SCOPE-3). -/
inductive Acc where
  | ro
  | rw
  | rwc
  | wo
  | w1c
  | w1s
  | rc
  deriving DecidableEq, Repr

/-- How a register is reached: by handshake, read through a mirror, or through a word bridge (ch. 02, R46). -/
inductive Reach where
  | local
  | mirror
  | word
  deriving DecidableEq, Repr

/-- One field of one register: the address of its register, its lowest bit, its width, its access class and the
value its table gives for reset. -/
structure Fld where
  addr : Nat
  lsb : Nat
  width : Nat
  acc : Acc
  rst : Nat
  kind : Reach := .local
  deriving DecidableEq, Repr

/-- The key a field is stored under: address, lowest bit and width. -/
def Fld.key (f : Fld) : Nat := (f.addr * 32 + f.lsb) * 64 + f.width

/-- The collision codes of Table SCOPE-4: which of a software write and a hardware update in one handshake window a field
keeps. -/
inductive Col where
  | hw
  | sw
  | merge
  | late
  deriving DecidableEq, Repr

/-- What hardware updated in the handshake window of a software write (R185), by the bits of the register: the bits that
it touched, and at the place of a counter the number of increments (log entry 123). -/
structure Contest where
  bits : Nat
  adds : Nat
  deriving DecidableEq, Repr

/-- A window in which no hardware update falls. -/
def Contest.none : Contest := { bits := 0, adds := 0 }

/-- What meets a write in its handshake window: what the world outside adds to the register's own command (log entry 3), and
what hardware updates (R185). -/
structure WriteEnv where
  world : List Nat
  contest : Contest
  deriving DecidableEq, Repr

/-- A write that meets nothing. -/
def WriteEnv.none : WriteEnv := { world := [], contest := Contest.none }

/-- One upset of a voted field (R181): the ID of Table REG-4, which of its fields, which of the three copies, and what that
copy holds from then on. -/
structure Upset where
  id : Nat
  index : Nat
  copy : Nat
  value : Nat
  deriving DecidableEq, Repr

/-- What an access meets: whether its target is busy (R204), what has met copies of voted fields by now (R181), and how many
bits of its flash double word are found in error (R219). -/
structure AccessEnv where
  wait : Bool
  upsets : List Upset
  bits : Nat
  deriving DecidableEq, Repr

/-- An access that meets nothing. -/
def AccessEnv.none : AccessEnv := { wait := false, upsets := [], bits := 0 }

/-- What the MADC meets in one conversion (R304): the voltages across the sensor and across the reference, in one unit. -/
structure Conv where
  sensor : Int
  ref : Nat
  deriving DecidableEq, Repr

/-- What one reading of the MADC meets (R305): its conversion, and with CHOP the second, whose input polarity is reversed. -/
structure Reading where
  first : Conv
  second : Conv
  deriving DecidableEq, Repr

/-- One positive half-wave at the amplifier of the flow front-end (R328): when it rises through zero, in 8 ps from the first
drive edge, and its peak in 4 mV. -/
structure HalfWave where
  rise : Nat
  peak : Nat
  deriving DecidableEq, Repr

/-- What one of the three passes over the option area reads at a double word other than what the flash holds there (R141):
another value, or none where the read is uncorrectable. -/
structure PassRead where
  pass : Nat
  dword : Nat
  value : Option Nat
  deriving DecidableEq, Repr

/-- What a start sequence meets (R137): the disturbed reads of the option area (R141), and the wake events that come before
its step 11 (R156). -/
structure StartEnv where
  passes : List PassRead
  early : List (Side × Nat)
  deriving DecidableEq, Repr

/-- The little-endian bytes of a number, `n` of them. -/
def leBytes : Nat → Nat → List Nat
  | 0, _ => []
  | n + 1, v => v % 256 :: leBytes n (v / 256)

/-- The number that little-endian bytes spell. -/
def leNat : List Nat → Nat
  | [] => 0
  | b :: bs => b + 256 * leNat bs

/-- Bit `n` of a number. -/
def bit (v n : Nat) : Bool := v / 2 ^ n % 2 == 1

/-- The field of `w` bits at `lsb` of a number. -/
def bitsOf (v lsb w : Nat) : Nat := v / 2 ^ lsb % 2 ^ w

/-- 1 for true, 0 for false. -/
def b2n (b : Bool) : Nat := if b then 1 else 0

/-- A counter step that stops at a limit. -/
def satAdd (lim a k : Nat) : Nat := min lim (a + k)

/-- The signed value of the `w`-bit pattern `v`. -/
def sInt (w v : Nat) : Int := if v % 2 ^ w < 2 ^ (w - 1) then (v % 2 ^ w : Nat) else (v % 2 ^ w : Nat) - (2 ^ w : Nat)

/-- The `w`-bit pattern of a signed value. -/
def uInt (w : Nat) (i : Int) : Nat := (i % (2 ^ w : Nat)).toNat

end Sys2Proof
end

