-- ==== Sys2Proof/Syntax.lean ====
section
/-! DEFINITION. The commands the block takes, one constructor for each row of spec/opcode_table.json, in the order of its rows.
The table gives no operands; those here are the model's own (log entry 1): what a write carries, which instance it
concerns, and what the world outside the part decides (voltages, readings, received bytes, random draws). -/

namespace Sys2Proof

/-- The commands, one for each row of spec/opcode_table.json. -/
inductive Instr where
  /-- POR_ASSERT (R86): VBAT stays below 2.05 V for at least 5 µs and every domain, AON included, is held in reset. -/
  | porAssert
  /-- POR_RELEASE (R137): VBAT has stayed above 2.15 V for 1 ms, so POR releases and the full start sequence of Table START-3 runs. -/
  | porRelease (vmeas : List Nat) (met : StartEnv)
  /-- NRESET_ASSERT (R133): NRESET held low for at least 10 µs holds every domain in reset except the AON state that NRESET keeps. -/
  | nresetAssert (onAir : Nat)
  /-- NRESET_RELEASE (R133): Release of NRESET runs the start sequence from step 2. -/
  | nresetRelease (vmeas : List Nat) (met : StartEnv)
  /-- CLOCK_LOSS (R121): Neither TOSC nor LFXO has produced an edge for 2 ms, so the analog detector holds every domain in reset as POR does. -/
  | clockLoss
  /-- CLOCK_LOSS_RELEASE (R121): An oscillator has run for 1 ms, so the detector releases and start-up proceeds with cause POR and the clock-loss mark. -/
  | clockLossRelease (vmeas : List Nat) (met : StartEnv)
  /-- LFXO_FIRST_RUN (R139): LFXO first runs after POR, which arms loss detection and moves the RTC to LFXO at the next second boundary. -/
  | lfxoFirstRun
  /-- LFXO_START_TIMEOUT (R139): LFXO has not run within 2 s of POR release, and the node is treated as having lost LFXO. -/
  | lfxoStartTimeout
  /-- LFXO_LOST (R119): LFXO_RUN has read 0 for 1 ms while TOSC runs, so the RTC moves to TOSC after catch-up, the loss is reported and cause 0xE is raised. -/
  | lfxoLost (ticks : Option Nat)
  /-- LFXO_RESUME (R119): LFXO runs again and the RTC returns to it at the next second boundary. -/
  | lfxoResume
  /-- TOSC_FAIL (R57): Fewer than 16 TOSC ticks are counted in four consecutive LFXO periods, so TOSC_FAIL is set and bridge timeouts count in LFXO periods. -/
  | toscFail
  /-- SUPPLY_MONITOR_SAMPLE (R80): Once per second the supply monitor measures VBAT, computes V_comp and applies the ladder and vote checks. -/
  | supplyMonitorSample (vmeas : Nat) (upsets : List Upset) (onAir : Nat)
  /-- FREEZE_DONE (R85): Legal firmware signals FREEZE_DONE, so MET power is removed and the locked HIBERNATE is entered. -/
  | freezeDone
  /-- FREEZE_TIMEOUT (R85): 200 ms after the L7 wake without FREEZE_DONE, MET power is removed anyway. -/
  | freezeTimeout
  /-- UNDER (R61): VCORE falls below 0.43 V, UNDER is set and SRAM and flash handshakes on that rail are held. -/
  | under (sd : Side)
  /-- VCORE_UNDER (R61): The UNDER hold has lasted 1 ms and the event is logged. -/
  | vcoreUnder (sd : Side)
  /-- UNDER_RELEASE (R61): VCORE rises back above 0.44 V and the held handshakes resume. -/
  | underRelease (sd : Side)
  /-- PACE_UPDATE (R37): At each update period the pace loop measures RATE and moves the rail code towards the required rate. -/
  | paceUpdate (sd : Side) (rate goal : Nat)
  /-- PACE_CEILING (R40): AT_CEIL has stayed 1 for 1 ms, so CEIL_HIT is set and the event logged. -/
  | paceCeiling (sd : Side)
  /-- BIAS_REEVALUATE (R724): At each TRACK interval of a sleep the back-bias loop samples the leakage monitor and moves the bias one step. -/
  | biasReevaluate (sd : Side) (asked : Nat)
  /-- RETENTION_FLIP (R44): A retention replica cell flips and the loop reduces the bias by one step and caps it for the sleep. -/
  | retentionFlip (sd : Side)
  /-- PULSE_BRIDGE_EVENT (R47): An event reaches a pulse bridge and is delivered, merged with a pending one, or dropped towards an unpowered domain. -/
  | pulseBridgeEvent (id : Nat)
  /-- BRIDGE_ACCESS (R48): An access enters a word bridge and starts its timeout count, or faults at once towards an unpowered domain. -/
  | bridgeAccess (id req : Nat) (write : Bool) (mode addr data : Nat)
  /-- BRIDGE_FAR_LATCH (R52): The far side latches a waiting bridge access, which completes with full effect. -/
  | bridgeFarLatch (id : Nat) (env : WriteEnv)
  /-- BRIDGE_TIMEOUT (R51): A bridge access reaches its limit, is withdrawn and completes with a BRIDGE_TIMEOUT fault. -/
  | bridgeTimeout (id : Nat)
  /-- BRIDGE_LOCKUP (R56): LOCKUP_N consecutive timeouts or a near-side stall of four limits resets the APP domain, or MET for a MET-side bridge. -/
  | bridgeLockup (id : Nat) (stall : Bool) (onAir : Nat) (ops : List Nat)
  /-- CHARGER_RESTART (R72): The charger starts when VRES falls 50 mV below V_TOP in HOLD, or when a frame waits for admission in DEMAND. -/
  | chargerRestart (vres vbat : Nat)
  /-- CHARGER_STOP (R71): VRES reaches V_TOP and the charger stops. -/
  | chargerStop (vres vbat : Nat)
  /-- VRES_MEASUREMENT (R77): A periodic VRES measurement admits a waiting attempt when VRES reaches V_admit, or refuses it on headroom. -/
  | vresMeasurement (vres vbat : Nat) (temp : Int)
  /-- RES_SLOW (R77): An attempt has waited ADMIT_MAX seconds for energy and is refused. -/
  | resSlow
  /-- RES_COLLAPSE (R89): VRES falls below VSTOP during a transmission, the buck stops and the attempt fails. -/
  | resCollapse (tAir : Nat)
  /-- ACORE_WFI (R97): ACORE executes WFI, which with APP_OFF = 1 ends its execution demand. -/
  | acoreWfi (onAir : Nat)
  /-- DOMAIN_ENTRY (R112): The mode controller starts taking a domain from On to Retained or Off once every entry condition holds. -/
  | domainEntry (d : Dom) (idle : Bool)
  /-- ENTRY_HELD (R112): One entry has been held for more than 1 s and the event is logged once. -/
  | entryHeld (d : Dom)
  /-- ENTRY_COMPLETE (R116): A domain entry completes with its bias ramp, and any event latched meanwhile is replayed as an immediate exit. -/
  | entryComplete (d : Dom) (asked : Nat)
  /-- WAKE_EVENT (R116): The wake latch captures an enabled wake cause, lists it in WAKE_CAUSE and starts the destination domain's exit. -/
  | wakeEvent (sd : Side) (causes : List Nat)
  /-- EXIT_COMPLETE (R113): A domain exit completes: bias removed, rail in range, gates open, and the core resumes or RF_READY sets. -/
  | exitComplete (d : Dom) (ops : List Nat)
  /-- SHIP_REQUEST (R100): A commit of PWR with MODE_REQ.SHIP = 1 is accepted or refused under the SHIP rule. -/
  | shipRequest
  /-- SHIP_WAKE (R111): The SHIP detector sees WAKE low for 10 ms or the optical wake pattern and the node leaves SHIP through POR. -/
  | shipWake (vmeas : List Nat) (met : StartEnv)
  /-- MCTL_RUN (R129): Legal firmware writes MPWR.MCTL.RUN, ending or raising the MCORE run demand. -/
  | mctlRun (v : Bool)
  /-- MCTL_KEEP (R97): Legal firmware writes MPWR.MCTL.KEEP, setting the MET keep demand and the WATCH base. -/
  | mctlKeep (v : Bool)
  /-- SERVICE_GRANT (R101): Legal firmware writes MPWR.MCTL.SERVICE, granting or ending SERVICE, or having it refused at L5. -/
  | serviceGrant (v : Bool)
  /-- SERVICE_END (R101): SERVICE has lasted SERVICE_MAX minutes and the BST420 clears it. -/
  | serviceEnd
  /-- RF_HOLD (R107): Firmware sets or clears PWR.DOMAIN_REQ.RF_HOLD, holding the RF domain On. -/
  | rfHold (v : Bool) (onAir : Nat)
  /-- WAKE_CLR (R117): A write to WAKE_CLR empties the WAKE_CAUSE list. -/
  | wakeClr (sd : Side)
  /-- ACORE_WATCHDOG (R131): The ACORE watchdog count reaches zero and resets the APP domain. -/
  | acoreWatchdog (onAir : Nat)
  /-- MCORE_WATCHDOG (R131): The MCORE watchdog count reaches zero and resets the MET domain. -/
  | mcoreWatchdog (ops : List Nat)
  /-- SOFTWARE_RESET (R131): 0xA5 written to AON.RST_REQ.KEY resets the APP domain with cause SOFT. -/
  | softwareReset (key onAir : Nat)
  /-- WATCHDOG_FEED (R136): 0x3C written to a watchdog FEED reloads its count with the full period. -/
  | watchdogFeed (sd : Side) (key : Nat)
  /-- WDT_PERIOD_WRITE (R151): A write to MPWR.WDT.PERIOD sets the MCORE watchdog period only if it is the first since the MET reset. -/
  | wdtPeriodWrite (period : Nat)
  /-- REGISTER_WRITE (R168): A write to a register without a behaviour of its own updates a live field or the shadow of an RWC field. -/
  | registerWrite (sd : Side) (req addr data : Nat) (env : WriteEnv)
  /-- CFG_COMMIT (R169): A write of 1 to CFG_COMMIT.COMMIT copies every shadowed RWC field of the block to the committed copy in one step. -/
  | cfgCommit (sd : Side) (req addr : Nat)
  /-- CFG_DISCARD (R170): A write of 1 to CFG_COMMIT.DISCARD copies the committed values into the shadow and clears PENDING. -/
  | cfgDiscard (sd : Side) (req addr : Nat)
  /-- ALIAS_SET (R165): A write at the set alias ORs the data into the RW and RWC fields of the register in one handshake. -/
  | aliasSet (sd : Side) (req addr data : Nat) (env : WriteEnv)
  /-- ALIAS_CLEAR (R165): A write at the clear alias clears the data bits in the RW and RWC fields of the register. -/
  | aliasClear (sd : Side) (req addr data : Nat) (env : WriteEnv)
  /-- ALIAS_TOGGLE (R165): A write at the toggle alias XORs the data into the RW and RWC fields of the register. -/
  | aliasToggle (sd : Side) (req addr data : Nat) (env : WriteEnv)
  /-- COMMIT_FIRE (R172): A write to SYSCTL.COMMIT_FIRE fires the named groups in prepare, apply and release phases. -/
  | commitFire (req bits : Nat) (stopped : List Nat)
  /-- COMMIT_LATE (R175): The apply phase has lasted the bridge limit, the holds are released and LATE_APPLY is set. -/
  | commitLate
  /-- LATE_CLOCK_COMMIT (R175): A clocked block commits its latched values at its first clock edge after the clock resumes. -/
  | lateClockCommit (window : Nat)
  /-- DICT_LOCK_TIMEOUT (R177): DICT has held a shadow lock for 2 ms without its fire completing, so it discards the locked shadows. -/
  | dictLockTimeout
  /-- READ_SYNC (R179): A write to READ_SYNC.SYNC completes once AON has taken it and refreshed the whole mirror. -/
  | readSync (sd : Side)
  /-- ARBITER_DECISION (R205): A target becomes free with accesses waiting and the arbiter grants one by forcing or priority. -/
  | arbiterDecision (target : Nat) (raised : List Nat)
  /-- MEMORY_ACCESS (R201): A requester's read, write or fetch is served by its target, or completes with a bus fault of one cause. -/
  | memoryAccess (sd : Side) (req kind size addr data : Nat) (rom : Bool) (met : AccessEnv) (env : WriteEnv)
  /-- FLASH_SEQUENCE_WRITE (R224): A write to a flash array advances, binds or cancels a command sequence, or is counted as stray. -/
  | flashSequenceWrite (sd : Side) (req addr data : Nat)
  /-- FLASH_PROGRAM (R227): Command 0x11 and its fifth write start a double-word program after the protection, busy and erased checks. -/
  | flashProgram (sd : Side) (req addr data : Nat)
  /-- FLASH_PROGRAM_DONE (R228): A program ends after its verify as done, done with a correction, or failed. -/
  | flashProgramDone (sd : Side) (pulses : Nat) (verify : Nat)
  /-- FLASH_ERASE (R229): Command 0x22 and its fourth write start a block erase after the protection and busy checks. -/
  | flashErase (sd : Side) (req addr : Nat)
  /-- FLASH_ERASE_DONE (R229): An erase ends as blank or failed, and the block header is written with its count and marks. -/
  | flashEraseDone (sd : Side) (pulses : Nat) (blank header : Bool)
  /-- FLASH_ABORT (R230): Command 0x0F stops an erase in progress; during a program or while idle it has no effect. -/
  | flashAbort (sd : Side)
  /-- FLASH_ERASE_STOPPED (R230): The aborted erase has stopped, ABORTED is set and the block is left undefined. -/
  | flashEraseStopped (sd : Side)
  /-- PROTECTION_ENTRY (R260): Command 0x44 checks the password CMAC and lifts the named regions, or counts a wrong attempt. -/
  | protectionEntry (req mask : Nat)
  /-- PROT_RELOCK (R262): A write of PROT_RELOCK with key 0xD2 clears the named LIFTED bits. -/
  | protRelock (mask key : Nat)
  /-- ARB_ADVANCE (R254): A keyed write of ARB_CMD or MPWR.ARB2 blows anti-rollback steps up to TARGET, or is refused. -/
  | arbAdvance (sd : Side) (key idx target : Nat)
  /-- FUSE_BURN_DONE (R249): The fuse programmer ends a burn of a pair and serves the next request in order. -/
  | fuseBurnDone (split : Bool)
  /-- SEALSW_CHANGE (R268): SEALSW has held a new level for ten samples, so SW changes and wake cause 0x9 is raised. -/
  | sealswChange (level : Bool)
  /-- SEAL_SET (R270): SEAL_CMD 0x5 from OPEN blows the next S pair and sets SEALED when accepted. -/
  | sealSet (key : Nat)
  /-- SEAL_RESEAL (R270): SEAL_CMD 0x6 from BROKEN blows the next S pair and sets SEALED when accepted. -/
  | sealReseal (key : Nat)
  /-- MPROT_LOCK (R266): A W1S write to MPROT.LOCK protects the named MFLASH regions until the next MET-scope reset. -/
  | mprotLock (mask : Nat)
  /-- CLAIM (R284): A CLAIM makes a FREE slot owned by the acting code, subject to the reserve rule. -/
  | claim (sd : Side) (party slot : Nat)
  /-- CLAIM_ANY (R284): A CLAIM_ANY claims the lowest-numbered FREE slot, subject to the reserve rule. -/
  | claimAny (sd : Side) (party : Nat)
  /-- GIVE (R284): A GIVE hands the slot to another owner code, may freeze it, and rings the receiver's doorbell. -/
  | give (sd : Side) (party slot target len : Nat)
  /-- PUBLISH (R284): The owner sets PUBLISH so that every party may read the slot. -/
  | publish (sd : Side) (party slot len : Nat)
  /-- UNPUBLISH (R284): The owner clears PUBLISH on a slot that is not FROZEN. -/
  | unpublish (sd : Side) (party slot : Nat)
  /-- FREE (R284): The owner returns the slot to FREE with PUBLISH and FROZEN cleared. -/
  | free (sd : Side) (party slot : Nat)
  /-- LOFT_COPY (R287): A write of COPY_CTL.START starts a Loft bridge copy between a slot and APP SRAM. -/
  | loftCopy
  /-- LOFT_COPY_END (R287): A Loft copy ends with DONE, or stops with ERR at the first faulting word. -/
  | loftCopyEnd
  /-- FREE_MIN_WRITE (R295): A write to STATS.FREE_MIN loads it with FREE_NOW. -/
  | freeMinWrite (sd : Side)
  /-- ALARM_M_ARM (R282): Arming alarm M, or writing AT while armed, with AT not later than SEC sets MISSED and fires at once. -/
  | alarmMArm (time en : Nat)
  /-- RTC_ALARM (R282): The RTC reaches an alarm time, which sets FIRED, clears EN and raises the alarm's wake cause. -/
  | rtcAlarm (sd : Side)
  /-- STRIP_START (R308): STRIP.CMD.START latches the configuration and starts a strip scan, or queues it behind the MADC's other scanner. -/
  | stripStart
  /-- STRIP_SCAN_DONE (R308): A strip scan ends, excitation returns to ground and DONE and FAULT are set from DIAG. -/
  | stripScanDone (current : Nat) (cells : List Reading) (spans : List Reading) (taps : List Nat)
  /-- STRIP_CONT (R314): STRIP.CMD.CONT starts the tap continuity test. -/
  | stripCont
  /-- STRIP_CONT_DONE (R314): The continuity test ends with TAP_OPEN recorded and CONT.DONE set. -/
  | stripContDone (opens : List Nat)
  /-- STRIP_ABORT (R319): STRIP.CMD.ABORT ends a scan or test and returns excitation to ground. -/
  | stripAbort (cells : List Reading)
  /-- PT_START (R315): PT.CMD.START starts a Pt1000 pair scan, or queues it. -/
  | ptStart
  /-- PT_SCAN_DONE (R315): A PT scan ends with its readings checked, or with OPEN when no loop current flows. -/
  | ptScanDone (current : Nat) (readA readB : Reading)
  /-- PT_ABORT (R319): PT.CMD.ABORT ends a PT scan and returns excitation to ground. -/
  | ptAbort (reads : List Reading)
  /-- FLOW_START (R332): FLOW.CMD.START starts a sequence: VUS pump and TDC calibration, or waits for the MADC under EXCL. -/
  | flowStart
  /-- FLOW_CALIBRATION (R327): The TDC calibration over 8 LFXO periods ends, or fails with CAL_FAIL. -/
  | flowCalibration (count : Nat)
  /-- FLOW_VUS_LOW (R334): VUS is below 3.0 V at 400 µs after START and the sequence ends before its first shot. -/
  | flowVusLow
  /-- FLOW_SHOT (R328): A timed shot bursts, detects the first wave, time-stamps hits and takes its outcome. -/
  | flowShot (rises peaks : List Nat) (opened shorted : Bool)
  /-- FLOW_SEQUENCE_DONE (R333): The last window closes and the results are written in one step with DONE set. -/
  | flowSequenceDone
  /-- FLOW_ABORT (R339): FLOW.CMD.ABORT stops the burst and writes results over completed pairs. -/
  | flowAbort
  /-- TOUCH_SAMPLE (R348): The sequencer samples an enabled touch channel and applies the state table. -/
  | touchSample (ch raw : Nat)
  /-- TOUCH_STUCK (R349): MAX_ON expires for a touched channel, which enters STUCK. -/
  | touchStuck (ch raw : Nat)
  /-- TOUCH_CMD_RECAL (R361): A write of TOUCH.CMD.RECAL puts the channel into RECAL at its next sample. -/
  | touchCmdRecal (mask : Nat)
  /-- TAMPER_SAMPLE (R351): The sequencer samples a tamper input and debounces its condition. -/
  | tamperSample (n : Nat) (level : Bool)
  /-- LCD_READY (R355): VLCD first lies within 30 mV of target and the waveform starts at the next frame. -/
  | lcdReady (mv : Nat)
  /-- LCD_PUMP_FAIL (R355): READY is not set within 50 ms, or VLCD sags for a frame, so the outputs ground and PUMP_FAIL is set. -/
  | lcdPumpFail (mv : Nat)
  /-- LCD_PUMP_RETRY (R355): After a pump failure the pump is retried once per second while EN is 1. -/
  | lcdPumpRetry
  /-- LCD_TEMP_SAMPLE (R354): Every 8 s the contrast loop samples die temperature and retrims VLCD. -/
  | lcdTempSample (temp err : Int)
  /-- SWAP (R356): A write of CTRL.SWAP requests copying the staging segment data to the display. -/
  | swap
  /-- SWAP_COPY (R356): At the next frame boundary the staging copy becomes the displayed copy and SWAP clears. -/
  | swapCopy
  /-- ECHK_START (R367): MPWR.ECHK.START connects the 2 mA load to VBAT for the energy check. -/
  | echkStart
  /-- ECHK_DONE (R367): The check samples VLOAD and sets PASS and FRESH, or FAIL with the ECHK_FAIL event. -/
  | echkDone (vload : Nat)
  /-- ECHK_FRESH_END (R367): 2 ms after a passing check FRESH clears. -/
  | echkFreshEnd
  /-- EVQ_POP (R385): A write of EVQ_CTL.POP removes the oldest queued entry. -/
  | evqPop
  /-- MROM_CMAC (R279): The MROM CMAC routine computes an AES-CMAC over a buffer. -/
  | mromCmac (a0 a1 a2 a3 : Nat)
  /-- LIMG_CHUNK (R292): The MROM routine writes one legal image chunk from a MET-owned slot into the target slot. -/
  | limgChunk (slot : Nat) (ops : List Nat)
  /-- LIMG_CHECK (R290): The MROM routine checks a legal image slot against its trailer and K_LIM. -/
  | limgCheck (target : Nat)
  /-- LIMG_SWITCH (R293): The MROM routine checks and commits an image and appends a switch-log entry. -/
  | limgSwitch (target : Nat) (ops : List Nat)
  /-- MF_PROGRAM (R222): The MROM routine programs double words in MFLASH. -/
  | mfProgram (a0 a1 a2 : Nat) (ops : List Nat)
  /-- MF_ERASE (R222): The MROM routine erases one MFLASH block. -/
  | mfErase (block : Nat) (ops : List Nat)
  /-- JOURNAL_COMMIT (R371): The MROM routine writes a calibration journal record, switching blocks when needed. -/
  | journalCommit (a0 a1 : Nat) (ops : List Nat)
  /-- EVLOG_APPEND (R376): The MROM routine appends a legal event log entry, erasing the next block of the ring when needed. -/
  | evlogAppend (a0 a1 a2 a3 a4 : Nat) (ops : List Nat)
  /-- IMAGE_CHECK (R250): The boot ROM routine checks a twin's TAG. -/
  | imageCheck (twin : Nat)
  /-- PW_TAG (R258): The boot ROM routine returns the password check value for a password. -/
  | pwTag (a0 a1 : Nat)
  /-- KEY_UNWRAP (R600): The boot ROM routine verifies a wrapped key-load record and loads its slot. -/
  | keyUnwrap (a0 : Nat)
  /-- WMB_DECRYPT (R475): The boot ROM routine verifies and decrypts an inbound mode-7 command. -/
  | wmbDecrypt (a0 a1 : Nat)
  /-- APP_SELECT (R670): The boot ROM routine chooses the application image bank, with trial fallback. -/
  | appSelect
  /-- LOADER_INFO (R640): ROM loader command 0x01 returns the type ID, unit ID and boot status. -/
  | loaderInfo (payload : List Nat) (crc : Nat)
  /-- LOADER_UNLOCK (R640): ROM loader command 0x02 runs a protection entry with the given password. -/
  | loaderUnlock (payload : List Nat) (crc : Nat)
  /-- LOADER_ERASE (R640): ROM loader command 0x03 erases a twin's four blocks. -/
  | loaderErase (payload : List Nat) (crc : Nat) (ops : List Nat)
  /-- LOADER_WRITE (R640): ROM loader command 0x04 programs data into a twin. -/
  | loaderWrite (payload : List Nat) (crc : Nat) (ops : List Nat)
  /-- LOADER_BOOT (R640): ROM loader command 0x05 answers and repeats the boot twin choice. -/
  | loaderBoot (payload : List Nat) (crc : Nat)
  /-- LOADER_IDLE_TIMEOUT (R149): 60 s without a byte makes the boot ROM enable wake causes and sleep until a wake. -/
  | loaderIdleTimeout
  /-- TEST_CARRIER (R417): RADIO.TEST mode 1 with its key starts an unmodulated carrier test. -/
  | testCarrier (key : Nat) (temp : Int)
  /-- TEST_MODULATED (R417): RADIO.TEST mode 2 with its key starts a modulated PN9 carrier test. -/
  | testModulated (key : Nat) (temp : Int)
  /-- TEST_RX (R417): RADIO.TEST mode 3 with its key starts continuous reception. -/
  | testRx (key : Nat) (temp : Int)
  /-- TEST_STOP (R418): A write of TEST.MODE = 0 ends a test. -/
  | testStop (onAir : Nat)
  /-- SYNTH_CAL_DONE (R398): A synthesiser calibration locks and the attempt proceeds. -/
  | synthCalDone
  /-- SYNTH_CAL_TIMEOUT (R399): A calibration has not locked within 110 µs; it is retried once, then the operation is refused. -/
  | synthCalTimeout
  /-- RF_SYNTH_UNLOCK (R400): The lock detector loses lock and the operation in progress ends. -/
  | rfSynthUnlock (onAir : Nat)
  /-- RF_HFXO_FAIL (R396): HFXO stops while RF is On, so the operation ends and the front-end pins go idle. -/
  | rfHfxoFail (onAir : Nat)
  /-- TUNER_RETUNE_CMD (R412): TUNER.CMD.RETUNE marks the next transmission's band DIRTY. -/
  | tunerRetuneCmd
  /-- TUNER_FORGET (R416): TUNER.CMD.FORGET clears VALID in every band memory entry. -/
  | tunerForget
  /-- RETUNE_HOLD_END (R412): RETUNE_MIN has passed for a held mismatch trigger and the band is marked DIRTY. -/
  | retuneHoldEnd (band : Nat)
  /-- TUNE_DONE (R413): A retune search ends, storing its codes in the band memory. -/
  | tuneDone (losses : List Nat) (vres vbat : Nat)
  /-- FRAME_SUBMIT (R430): At the doorbell of a slot given to LINK the link engine checks the submission header and queues the frame. -/
  | frameSubmit (slot : Nat)
  /-- ATTEMPT_START (R433): The link engine starts an attempt of the head frame, building it at the first attempt and drawing a backoff. -/
  | attemptStart (k : Nat)
  /-- BACKOFF_END (R433): The backoff elapses with RF_READY and the duty check and energy admission run. -/
  | backoffEnd (vres vbat : Nat) (temp : Int)
  /-- TX_START (R433): The first bit goes on air at the later of the PA ramp end and the inter-frame space end. -/
  | txStart
  /-- TX_END (R448): A transmission ends and is charged to its sub-band, then the acknowledgement wait starts or the frame ends. -/
  | txEnd (rl : Nat)
  /-- ACK_TIMEOUT (R436): No matching acknowledgement arrives in time, so the attempt fails with NO_ACK and retries or ends. -/
  | ackTimeout
  /-- FRAME_RECEIVED (R440): A received frame passes the receive stages in order and is dropped, acknowledged or delivered. -/
  | frameReceived (wmb : Nat) (rssi : Nat) (bytes : List Nat)
  /-- ACK_SEND (R444): 1,000 µs after the frame the acknowledgement is checked for duty and energy and sent. -/
  | ackSend (vres vbat : Nat) (rl : Nat)
  /-- GLEAN_WINDOW (R445): At each gleaning instant the receiver opens for WIN. -/
  | gleanWindow (temp : Int)
  /-- GLEAN_WINDOW_CLOSE (R445): The window ends after WIN without a preamble, or 4 ms after a preamble without sync. -/
  | gleanWindowClose
  /-- DUTY_MINUTE_TICK (R449): At each minute tick the oldest duty bucket drops, waiting frames are rechecked and counted events are logged. -/
  | dutyMinuteTick
  /-- DONE_POP (R439): A write of DONE_CTL.POP removes the oldest DONE entry. -/
  | donePop
  /-- RXDATA_READ (R441): A read of LINK.RXDATA removes the next word of the RX FIFO. -/
  | rxdataRead
  /-- ALARM_FRAME (R453): At L4 to L6, at minute ALARM_TOD, the daily alarm frame is built and sent. -/
  | alarmFrame
  /-- RESPONSE_WINDOW_OPEN (R471): At START after a telegram with WIN the receiver is ready in the other-to-meter direction. -/
  | responseWindowOpen
  /-- RESPONSE_WINDOW_CLOSE (R471): The response window closes after LEN without a sync word and the telegram ends SENT. -/
  | responseWindowClose
  /-- WMB_MCNT_WRITE (R470): A write to WMB_MCNT loads the value unless it is below the present one. -/
  | wmbMcntWrite (v : Nat)
  /-- BEACON_SEND (R487): Every BEACON_INT a collector or relaying node places a beacon at the head of its forward queue. -/
  | beaconSend
  /-- BEACON_PROCESS (R488): The mesh function checks a beacon's MIC and updates its parent table, ring, generation and time. -/
  | beaconProcess
  /-- PARENT_AGE (R488): Each BEACON_INT without a beacon ages a parent entry, and one reaching PARENT_TTL is removed. -/
  | parentAge (n : Nat)
  /-- RESCUE_LISTEN (R489): After PARENT_TTL × BEACON_INT without a parent, the node listens continuously. -/
  | rescueListen (temp : Int)
  /-- RESCUE_LISTEN_END (R489): The rescue listen ends after BEACON_INT + 10 s, or at a usable beacon. -/
  | rescueListenEnd
  /-- MESH_GEN_WRITE (R498): A firmware write to MESH_GEN is ignored when below the value in force. -/
  | meshGenWrite (v : Nat)
  /-- FWD_PEAK_WRITE (R522): A write to a PEAK field loads it with the present fill. -/
  | fwdPeakWrite (which : Nat)
  /-- DICT_REQUEST_SERVE (R539): DICT verifies the head request, checks and applies its operations, and builds the response. -/
  | dictRequestServe
  /-- DICT_WATCH_POLL (R542): Every 100 ms a watched pair's effective entry is read, and equality ends the watch. -/
  | dictWatchPoll (n : Nat)
  /-- DICT_SETTLE_EXPIRE (R543): The settle time passes without equality and the pair is marked DIVERGED. -/
  | dictSettleExpire (n : Nat)
  /-- DICT_CALLBACK_RETURN (R544): A callback or legal slot comes back to DICT and its RESULT becomes the operation status. -/
  | dictCallbackReturn (slot : Nat)
  /-- DICT_CB_TIMEOUT (R544): CB_TIMEOUT passes without the slot's return and the operation takes TIMEOUT. -/
  | dictCbTimeout
  /-- FLOOR_WRITE (R538): A write to a replay floor loads it and clears UNSET unless it is below the present value. -/
  | floorWrite (n v : Nat)
  /-- EVLOG_SELECT (R563): A write to EVLOG_SEL copies the selected system log position into EVLOG_W0 to W5. -/
  | evlogSelect (k : Nat)
  /-- KEY_LOAD (R570): KEY_CTL with LOAD loads a key slot from KEY_DATA, or is refused. -/
  | keyLoad (ctl : Nat)
  /-- KEY_WRAPPED_LOAD (R571): KEY_CTL with LOAD and WRAP unwraps KEY_DATA with a session keystream and loads the slot. -/
  | keyWrappedLoad (ctl : Nat)
  /-- KEY_ERASE (R570): KEY_CTL with ERASE clears VALID of a slot. -/
  | keyErase (ctl : Nat)
  /-- JOB_MAC (R573): A MAC job is started or queued to compute a tag over a message. -/
  | jobMac (user : Nat)
  /-- JOB_VERIFY (R573): A VERIFY job is started or queued to compare a tag. -/
  | jobVerify (user : Nat)
  /-- JOB_CHAIN (R576): A CHAIN job is started or queued to write each chaining value as CBC output. -/
  | jobChain (user : Nat)
  /-- JOB_KSTREAM (R578): A KSTREAM job is started or queued to XOR data with the PRF keystream. -/
  | jobKstream (user : Nat)
  /-- JOB_DERIVE (R579): A DERIVE job is started or queued to place a derived key in slot 8 or 9, or export it. -/
  | jobDerive (user : Nat)
  /-- CMAC_PREEMPT (R583): An URGENT job suspends the running BACKGROUND job at its next block end. -/
  | cmacPreempt
  /-- CMAC_JOB_END (R586): A CMACE job ends with its result, and the next queued or suspended job resumes. -/
  | cmacJobEnd
  /-- CMAC_ABORT (R590): CTRL.ABORT ends the firmware job at the next block end, or removes it if queued. -/
  | cmacAbort (blocks : Nat)
  /-- FCNT_WRITE (R604): A write to FCNT2 or FCNT5 is ignored when below the present value, otherwise loaded. -/
  | fcntWrite (slot v : Nat)
  /-- DMA_ENABLE (R622): A write of CFG.EN = 1 starts a channel from its registers or loads its descriptor. -/
  | dmaEnable (ch : Nat)
  /-- DMA_DISABLE (R622): A write of CFG.EN = 0 stops the channel at a unit boundary and leaves it IDLE. -/
  | dmaDisable (ch : Nat)
  /-- DMA_PAUSE (R621): A write of CFG.PAUSE = 1 stops the channel at the next unit boundary. -/
  | dmaPause (ch : Nat)
  /-- DMA_RESUME (R621): A write of CFG.PAUSE = 0 resumes the channel from its registers. -/
  | dmaResume (ch : Nat)
  /-- DMA_TRIGGER (R616): A trigger arrives and starts a descriptor or lets one unit move. -/
  | dmaTrigger (ch : Nat)
  /-- DMA_UNIT (R618): A channel completes one unit read and write and updates SRC, DST and COUNT. -/
  | dmaUnit (ch : Nat) (env : List Nat)
  /-- DMA_RING_RECORD (R625): Channel 0 moves one receive record from the RX FIFO into the ring, or discards it when the ring is full. -/
  | dmaRingRecord
  /-- RING_RD_WRITE (R626): A write to RING_RD is ignored when it is RING_WORDS or more. -/
  | ringRdWrite (v : Nat)
  /-- PORT_CALIBRATION (R633): POSC counts over four LFXO periods and scales every bit-time divisor. -/
  | portCalibration (count : Nat)
  /-- UART_RX_BYTE (R634): A UART receives a byte and stores it, setting OVR, FE or PE where they apply. -/
  | uartRxByte (u byte : Nat) (fe pe : Bool)
  /-- UART_TX_BYTE (R634): A UART finishes sending a byte and takes the next from its TX FIFO. -/
  | uartTxByte (u : Nat)
  /-- UART_DATA_WRITE (R648): A write of DATA pushes a byte into the TX FIFO, or is dropped when full. -/
  | uartDataWrite (u byte : Nat)
  /-- UART_DATA_READ (R648): A read of DATA pops the RX FIFO. -/
  | uartDataRead (u : Nat)
  /-- SVC_CLAIM (R637): A write of SVC_CTL.CLAIM requests the controller role once the line has been idle. -/
  | svcClaim
  /-- SVC_CLAIM_SEND (R637): The line has been idle IDLE bit times and the claim byte and unit ID are sent. -/
  | svcClaimSend
  /-- SVC_CLAIM_RECEIVED (R637): A whole claim is received while not claiming, so 0x3A is sent and ROLE becomes responder. -/
  | svcClaimReceived (id : Nat)
  /-- SVC_CONFIRM_RECEIVED (R637): The claiming end receives 0x3A in time and becomes controller. -/
  | svcConfirmReceived
  /-- SVC_COLLISION (R638): A claiming end detects a collision and jams the line for 20 bit times. -/
  | svcCollision
  /-- SVC_BACKOFF_END (R639): The round wait ends with the line idle and the end claims again. -/
  | svcBackoffEnd
  /-- SPI_FRAME (R641): SPI completes an 8-bit frame, setting OVR or UNDR where they apply. -/
  | spiFrame (byte : Nat)
  /-- I2C_TRANSFER (R642): A write of I2C.CMD starts one transfer. -/
  | i2cTransfer (cmd : Nat)
  /-- I2C_TRANSFER_END (R642): A transfer ends with DONE, NACK or ARB_LOST. -/
  | i2cTransferEnd (outcome : Nat) (data : List Nat)
  /-- I2C_STUCK (R642): SCL is held low longer than 25 ms, STUCK is set and a STOP is attempted. -/
  | i2cStuck
  /-- GPIO_CONTEND (R643): A push-pull output has differed from its driven value for 10 µs and CONTEND is set. -/
  | gpioContend (pin : Nat)
  /-- FIO_READBACK (R645): A field driver reads back its pin after a change or each 1 ms while driven. -/
  | fioReadback (pin : Nat) (level : Bool)
  /-- FIO_RETRY (R645): RETRY seconds after latching, the driver is re-enabled for one readback. -/
  | fioRetry (pin : Nat) (level : Bool)
  /-- FIO_THERMAL (R645): The driver junction exceeds 165 °C and the driver turns off. -/
  | fioThermal (pin : Nat)
  /-- FIO_THERMAL_END (R645): The junction falls below 145 °C and the pin's mode resumes. -/
  | fioThermalEnd (pin : Nat)
  /-- FIO_SAMPLE (R646): AON samples a pulse input and counts a debounced falling edge, with threshold and wrap checks. -/
  | fioSample (pin : Nat) (level : Bool)
  /-- FIO_ADD (R647): A write of N to ADDn adds N pulses to PENDn. -/
  | fioAdd (pin n : Nat)
  /-- FIO_PULSE_END (R647): A pulse output ends its low time, PENDn is decremented and the next pulse follows after GAP. -/
  | fioPulseEnd (pin : Nat)
  /-- SHEAF_RECEIVED (R660): UPDATE checks a delivered sheaf and stores its payload and mark, or opens a container from its header. -/
  | sheafReceived (ops : List Nat)
  /-- UPD_APPLY (R664): CMD.APPLY, or AUTO_APPLY, starts applying a complete container into the target. -/
  | updApply
  /-- UPD_APPLY_END (R664): An apply ends as APPLIED, PART_DONE, or FAILED with its reason. -/
  | updApplyEnd (ops : List Nat)
  /-- UPD_ABANDON (R674): CMD.ABANDON erases staging and returns UPDATE to IDLE. -/
  | updAbandon (ops : List Nat)
  /-- UPD_CONFIRM (R671): CMD.CONFIRM programs TRIAL in the active slot and clears TRIAL.COUNT. -/
  | updConfirm (ops : List Nat)
  /-- UPD_DECRYPT (R672): CMD.DECRYPT writes decrypted stream bytes to APP SRAM. -/
  | updDecrypt
  /-- UPD_ACTIVE_WRITE (R677): The first write to UPDATE.ACTIVE after a reset sets the running bank and may abandon the open container. -/
  | updActiveWrite (bank : Nat) (ops : List Nat)
  /-- UTC_DAY_BOUNDARY (R500): At 00:00 UTC the RTC starts a new day, which resets the daily time-correction budget and TIME_BUDGET, clears LINK.STATUS.ALARM_DAY and re-arms the once-per-UTC-day alarm frame and TIME_REFUSED event. -/
  | utcDayBoundary
  /-- TEST_DUTY_EXHAUSTED (R418): A running carrier or modulated test uses up its sub-band's duty budget, so it ends with TEST_WHY 2, MODE returns to 0 and TEST_END is set. -/
  | testDutyExhausted (onAir : Nat)
  /-- FIO_GAP_END (R647): GAP ms after a pulse output has been released with PENDn still above 0, the pin is driven low for the next pulse. -/
  | fioGapEnd (pin : Nat)
  deriving DecidableEq, Repr

end Sys2Proof
end

