-- ==== Sys2Proof/WellFormed.lean ====
section
/-! DEFINITION. Which commands are well formed: the operands lie in the ranges that the spec gives what they name. Each
function below gathers the operands of one kind; a command that has none of that kind is under no demand of it. -/

namespace Sys2Proof

/-- The bridges of Table CLK-4 by their identifiers. -/
def bridgeIds : List Nat := [0x01, 0x02, 0x03, 0x04, 0x08, 0x09, 0x0A, 0x0B, 0x0C, 0x0D, 0x0E, 0x11, 0x12, 0x13, 0x14]

/-- The operands that are words or addresses of the part. -/
def Instr.words : Instr → List Nat
  | .registerWrite _ _ a d _ | .aliasSet _ _ a d _ | .aliasClear _ _ a d _ | .aliasToggle _ _ a d _
  | .flashSequenceWrite _ _ a d | .flashProgram _ _ a d | .bridgeAccess _ _ _ _ a d | .memoryAccess _ _ _ _ a d _ _ _
  | .pwTag a d | .wmbDecrypt a d | .journalCommit a d _ => [a, d]
  | .cfgCommit _ _ v | .cfgDiscard _ _ v | .flashErase _ _ v | .alarmMArm v _ | .keyUnwrap v | .wmbMcntWrite v | .meshGenWrite v
  | .floorWrite _ v | .keyLoad v | .keyWrappedLoad v | .keyErase v | .fcntWrite _ v | .ringRdWrite v | .i2cTransfer v => [v]
  | .mromCmac a b c d => [a, b, c, d]
  | .mfProgram a b c _ => [a, b, c]
  | .evlogAppend a b c d e _ => [a, b, c, d, e]
  | .loaderInfo _ c | .loaderUnlock _ c | .loaderErase _ c _ | .loaderWrite _ c _ | .loaderBoot _ c => [c]
  | _ => []

/-- The requester an access names, and how many its fabric has (Table MAP-7, R210; on MET 2 is MCORE in user mode, R280). -/
def Instr.requester : Instr → List (Nat × Nat)
  | .registerWrite sd r _ _ _ | .cfgCommit sd r _ | .cfgDiscard sd r _ | .aliasSet sd r _ _ _ | .aliasClear sd r _ _ _
  | .aliasToggle sd r _ _ _ | .memoryAccess sd r _ _ _ _ _ _ _ | .flashSequenceWrite sd r _ _ | .flashProgram sd r _ _
  | .flashErase sd r _ => [(r, sd.pick 15 3)]
  | .commitFire r _ _ | .protectionEntry r _ => [(r, 15)]
  | .bridgeAccess _ r _ m _ _ => [(r, 16), (m, 4)]
  | _ => []

/-- The codes of the Loft commands (R284, Table MET-10): the party that acts, the slot, the receiver and LEN. -/
def Instr.loftCodes : Instr → List (Nat × Nat)
  | .claim _ p s | .unpublish _ p s | .free _ p s => [(p, 8), (s, 32)]
  | .claimAny _ p => [(p, 8)]
  | .give _ p s t n => [(p, 8), (s, 32), (t, 8), (n, 1024)]
  | .publish _ p s n => [(p, 8), (s, 32), (n, 1024)]
  | .frameSubmit s | .dictCallbackReturn s => [(s, 32)]
  | _ => []

/-- The instance a command concerns, and how many of its kind there are. -/
def Instr.instances : Instr → List (Nat × Nat)
  | .memoryAccess _ _ k _ _ _ _ _ _ => [(k, 3)]
  | .lateClockCommit w => [(w, 22)]
  | .commitFire _ g _ => [(g, 16)]
  | .gpioContend p => [(p, 12)]
  | .touchSample n _ | .touchStuck n _ | .parentAge n | .fioReadback n _ | .fioRetry n _ | .fioThermal n | .fioThermalEnd n
  | .fioSample n _ | .fioPulseEnd n | .fioGapEnd n | .arbAdvance _ _ n _ => [(n, 4)]
  | .fioAdd n k => [(n, 4), (k, 65536)]
  | .floorWrite n _ => [(n, 5)]
  | .dmaEnable n | .dmaDisable n | .dmaPause n | .dmaResume n | .dmaTrigger n | .dmaUnit n _ | .dictWatchPoll n
  | .dictSettleExpire n => [(n, 8)]
  | .tamperSample n _ | .imageCheck n | .uartTxByte n | .uartDataRead n | .updActiveWrite n _ | .uartRxByte n _ _ _
  | .uartDataWrite n _ => [(n, 2)]
  | _ => []

/-- The operands that are single bytes: keys, levels and what a port carries. -/
def Instr.octets : Instr → List Nat
  | .softwareReset k _ | .watchdogFeed _ k | .protRelock _ k | .sealSet k | .sealReseal k | .testCarrier k _
  | .testModulated k _ | .testRx k _ | .limgChunk k _ | .uartRxByte _ k _ _ | .uartDataWrite _ k | .spiFrame k => [k]
  | .arbAdvance _ k _ t => [k, t]
  | .loaderInfo l _ | .loaderUnlock l _ | .loaderErase l _ _ | .loaderWrite l _ _ | .loaderBoot l _ | .i2cTransferEnd _ l => l
  | .frameReceived _ r l => r :: l
  | _ => []

/-- The operands that take one of a few values, with those values. -/
def Instr.choices : Instr → List (Nat × List Nat)
  | .pulseBridgeEvent id | .bridgeAccess id _ _ _ _ _ | .bridgeFarLatch id _ | .bridgeTimeout id | .bridgeLockup id _ _ _ =>
      [(id, bridgeIds)]
  | .memoryAccess _ _ _ n _ _ _ _ _ => [(n, [1, 2, 4])]
  | .fcntWrite n _ => [(n, [2, 5])]
  | .jobMac u | .jobVerify u | .jobChain u | .jobKstream u | .jobDerive u => [(u, [1, 2, 3, 4, 5, 6])]
  | .wakeEvent _ cs => cs.map (fun c => (c, [1, 2, 3, 4, 5, 6, 7, 8, 9, 10, 11, 12, 13, 14, 15]))
  | _ => []

/-- Whether a command is well formed. -/
def Instr.wf (c : Instr) : Bool :=
  c.words.all (· < 2 ^ 32) && (c.requester ++ c.loftCodes ++ c.instances).all (fun p => decide (p.1 < p.2))
    && c.octets.all (· < 256) && c.choices.all (fun p => p.2.contains p.1)

end Sys2Proof
end

