-- ==== Sys2Proof/Decode.lean ====
section
/-! DEFINITION. Decoding: the command table gives its rows no bits, so no word spells a command. -/

namespace Sys2Proof

/-- The command that a word spells by the bits of spec/opcode_table.json: none, since every row of it has an empty list of
fields. -/
def decodeTableWord (_nbits _w : Nat) : Option Instr := none

end Sys2Proof
end

