-- ==== Sys2Proof/Config.lean ====
section
/-! DEFINITION. What the spec leaves open: free values, which have no body, so that no proof can see one. -/

namespace Sys2Proof

/-- The byte that memory of undefined content holds (R104, R105, R197, R727): it depends on how often the content of
that memory has been lost and on the address.  Free value, log entry 5. -/
opaque Config.freeByte : Nat → Nat → Byte

/-- How the undefined content of a flash double word reads (R228, R230): 0 a valid word, 1 within one bit of one, 2
uncorrectable, 3 erased, modulo 4.  Free value, log entry 5. -/
opaque Config.eccOutcome : Nat → Nat → Nat

/-- A value the spec leaves undefined, one for each count of such values asked for so far.  Free value, log entry 6. -/
opaque Config.freeValue : Nat → Nat

/-- The erase count that a block header holds as shipped, less 1 and modulo 4 (R232), by the block.  Free value, log entry
9. -/
opaque Config.shippedCount : Nat → Nat

/-- Whether a quotient that is no whole number is rounded up, where the spec does not state the rounding: by the number of
the place that asks, the dividend and the divisor.  Free value, log entry 7. -/
opaque Config.roundsUp : Nat → Int → Nat → Bool

/-- A quotient whose rounding the spec leaves open: exact where it is whole, else one of its two neighbours. -/
def openDiv (place : Nat) (a : Int) (b : Nat) : Int :=
  if a % (b : Int) = 0 then a / (b : Int)
  else if Config.roundsUp place a b then a / (b : Int) + 1
  else a / (b : Int)

/-- The whole number nearest to a quotient; the spec does not state which of two that are equally near. -/
def openRound (place : Nat) (a : Int) (b : Nat) : Int :=
  let q := a / (b : Int)
  if 2 * (a % (b : Int)) < b then q
  else if (b : Int) < 2 * (a % (b : Int)) then q + 1
  else if Config.roundsUp place a b then q + 1
  else q

/-- The code of a conversion that meets no reference voltage, whose ratio R304 does not give.  Free value, log entry 133. -/
opaque Config.noReference : Int → Int

end Sys2Proof
end

