-- ==== Sys2Proof/Machine/Registers.lean ====
section
/-! DEFINITION. Every named field of every register table of the spec, one definition each, named
R.<block>.<register>.<field> as the tables spell them, and the list of the fields of each window.  A field that
exists on both sides at the same offset (R41, R123, R210, R236, R295, R726) takes its side first; a field of an
indexed register takes the index next. -/

namespace Sys2Proof

/-! ### PWR (Tables CLK-8, CLK-9, CLK-10, CLK-11, CLK-12, SUP-6, SUP-7, SUP-8, SUP-9, MODE-8, MODE-9, MODE-10, MODE-11, MODE-12, MODE-13, MODE-14) -/

def R.PWR.PACE_CTRL.TARGET (sd : Side) : Fld :=
  { addr := sd.pick 0x40001040 0x48001040, lsb := 0, width := 7, acc := .rw, rst := 8 }
def R.PWR.PACE_CTRL.MODE (sd : Side) : Fld :=
  { addr := sd.pick 0x40001040 0x48001040, lsb := 8, width := 2, acc := .rwc, rst := 0 }
def R.PWR.PACE_CTRL.FIXED_CODE (sd : Side) : Fld :=
  { addr := sd.pick 0x40001040 0x48001040, lsb := 16, width := 7, acc := .rwc, rst := 10 }
def R.PWR.PACE_CTRL.ENG_TARGET : Fld :=
  { addr := 0x40001040, lsb := 24, width := 7, acc := .rw, rst := 32 }
def R.PWR.PACE_STATUS.VCORE_CODE (sd : Side) : Fld :=
  { addr := sd.pick 0x40001044 0x48001044, lsb := 0, width := 7, acc := .ro, rst := 10 }
def R.PWR.PACE_STATUS.LOCKED (sd : Side) : Fld :=
  { addr := sd.pick 0x40001044 0x48001044, lsb := 8, width := 1, acc := .ro, rst := 0 }
def R.PWR.PACE_STATUS.AT_CEIL (sd : Side) : Fld :=
  { addr := sd.pick 0x40001044 0x48001044, lsb := 9, width := 1, acc := .ro, rst := 0 }
def R.PWR.PACE_STATUS.AT_FLOOR (sd : Side) : Fld :=
  { addr := sd.pick 0x40001044 0x48001044, lsb := 10, width := 1, acc := .ro, rst := 0 }
def R.PWR.PACE_STATUS.UNDER (sd : Side) : Fld :=
  { addr := sd.pick 0x40001044 0x48001044, lsb := 11, width := 1, acc := .ro, rst := 0 }
def R.PWR.PACE_STATUS.CEIL_HIT (sd : Side) : Fld :=
  { addr := sd.pick 0x40001044 0x48001044, lsb := 16, width := 1, acc := .w1c, rst := 0 }
def R.PWR.PACE_STATUS.RATE (sd : Side) : Fld :=
  { addr := sd.pick 0x40001044 0x48001044, lsb := 24, width := 7, acc := .ro, rst := 0 }
def R.PWR.PACE_LIMIT.VMIN_CODE (sd : Side) : Fld :=
  { addr := sd.pick 0x40001048 0x48001048, lsb := 0, width := 7, acc := .rwc, rst := 0 }
def R.PWR.PACE_LIMIT.VMAX_CODE (sd : Side) : Fld :=
  { addr := sd.pick 0x40001048 0x48001048, lsb := 8, width := 7, acc := .rwc, rst := 90 }
def R.PWR.PACE_LIMIT.PERIOD (sd : Side) : Fld :=
  { addr := sd.pick 0x40001048 0x48001048, lsb := 16, width := 4, acc := .rwc, rst := 4 }
def R.PWR.PACE_LIMIT.STEP (sd : Side) : Fld :=
  { addr := sd.pick 0x40001048 0x48001048, lsb := 20, width := 2, acc := .rwc, rst := 1 }
def R.PWR.BIAS_CTRL.EN (sd : Side) : Fld :=
  { addr := sd.pick 0x40001050 0x48001050, lsb := 0, width := 1, acc := .rwc, rst := 1 }
def R.PWR.BIAS_CTRL.MAX_RBB (sd : Side) : Fld :=
  { addr := sd.pick 0x40001050 0x48001050, lsb := 8, width := 4, acc := .rwc, rst := 10 }
def R.PWR.BIAS_CTRL.TRACK (sd : Side) : Fld :=
  { addr := sd.pick 0x40001050 0x48001050, lsb := 16, width := 2, acc := .rwc, rst := 1 }
def R.PWR.BIAS_STATUS.RBB_CODE (sd : Side) : Fld :=
  { addr := sd.pick 0x40001054 0x48001054, lsb := 0, width := 4, acc := .ro, rst := 0 }
def R.PWR.BIAS_STATUS.RET_GUARD (sd : Side) : Fld :=
  { addr := sd.pick 0x40001054 0x48001054, lsb := 8, width := 1, acc := .ro, rst := 0 }
def R.PWR.BIAS_STATUS.RET_LIMIT (sd : Side) : Fld :=
  { addr := sd.pick 0x40001054 0x48001054, lsb := 16, width := 1, acc := .w1c, rst := 0 }
def R.PWR.RES_CTRL.CHG_EN : Fld :=
  { addr := 0x40001060, lsb := 0, width := 1, acc := .rwc, rst := 1 }
def R.PWR.RES_CTRL.CHG_MODE : Fld :=
  { addr := 0x40001060, lsb := 1, width := 1, acc := .rwc, rst := 0 }
def R.PWR.RES_CTRL.ICHG : Fld :=
  { addr := 0x40001060, lsb := 8, width := 5, acc := .rwc, rst := 1 }
def R.PWR.RES_CTRL.VMAX : Fld :=
  { addr := 0x40001060, lsb := 16, width := 5, acc := .rwc, rst := 12 }
def R.PWR.RES_CTRL.VSTOP : Fld :=
  { addr := 0x40001060, lsb := 24, width := 4, acc := .rwc, rst := 4 }
def R.PWR.RES_CTRL.MARGIN : Fld :=
  { addr := 0x40001060, lsb := 28, width := 4, acc := .rwc, rst := 2 }
def R.PWR.RES_CAP.CAP : Fld :=
  { addr := 0x40001064, lsb := 0, width := 16, acc := .rwc, rst := 22 }
def R.PWR.RES_CAP.ADMIT_MAX : Fld :=
  { addr := 0x40001064, lsb := 16, width := 8, acc := .rwc, rst := 30 }
def R.PWR.RES_CAP.EXT_PWR : Fld :=
  { addr := 0x40001064, lsb := 24, width := 8, acc := .rwc, rst := 0 }
def R.PWR.RES_STATUS.VRES_MV : Fld :=
  { addr := 0x40001068, lsb := 0, width := 12, acc := .ro, rst := 0, kind := .mirror }
def R.PWR.RES_STATUS.CHARGING : Fld :=
  { addr := 0x40001068, lsb := 12, width := 1, acc := .ro, rst := 0, kind := .mirror }
def R.PWR.RES_STATUS.FULL : Fld :=
  { addr := 0x40001068, lsb := 13, width := 1, acc := .ro, rst := 0, kind := .mirror }
def R.PWR.RES_STATUS.HEADROOM : Fld :=
  { addr := 0x40001068, lsb := 14, width := 1, acc := .ro, rst := 0, kind := .mirror }
def R.PWR.RES_STATUS.TOO_BIG : Fld :=
  { addr := 0x40001068, lsb := 16, width := 1, acc := .w1c, rst := 0, kind := .mirror }
def R.PWR.RES_STATUS.SLOW : Fld :=
  { addr := 0x40001068, lsb := 17, width := 1, acc := .w1c, rst := 0, kind := .mirror }
def R.PWR.RES_STATUS.COLLAPSE : Fld :=
  { addr := 0x40001068, lsb := 18, width := 1, acc := .w1c, rst := 0, kind := .mirror }
def R.PWR.LADDER.LEVEL : Fld :=
  { addr := 0x4000106C, lsb := 0, width := 3, acc := .ro, rst := 0, kind := .mirror }
def R.PWR.LADDER.LOCK7 : Fld :=
  { addr := 0x4000106C, lsb := 3, width := 1, acc := .ro, rst := 0, kind := .mirror }
def R.PWR.LADDER.LEVEL_MAX : Fld :=
  { addr := 0x4000106C, lsb := 4, width := 3, acc := .ro, rst := 0, kind := .mirror }
def R.PWR.LADDER.CFG_DEFAULT : Fld :=
  { addr := 0x4000106C, lsb := 8, width := 1, acc := .ro, rst := 0, kind := .mirror }
def R.PWR.LADDER.VBAT_COMP : Fld :=
  { addr := 0x4000106C, lsb := 16, width := 12, acc := .ro, rst := 0, kind := .mirror }
def R.PWR.MODE_REQ.SHIP : Fld :=
  { addr := 0x40001000, lsb := 0, width := 1, acc := .rwc, rst := 0 }
def R.PWR.MODE_REQ.KEY : Fld :=
  { addr := 0x40001000, lsb := 8, width := 8, acc := .rwc, rst := 0 }
def R.PWR.MODE_STATUS.EFFECTIVE : Fld :=
  { addr := 0x40001004, lsb := 0, width := 3, acc := .ro, rst := 5, kind := .mirror }
def R.PWR.MODE_STATUS.BASE : Fld :=
  { addr := 0x40001004, lsb := 4, width := 2, acc := .ro, rst := 1, kind := .mirror }
def R.PWR.MODE_STATUS.APP_ON : Fld :=
  { addr := 0x40001004, lsb := 8, width := 1, acc := .ro, rst := 1, kind := .mirror }
def R.PWR.MODE_STATUS.MET_ON : Fld :=
  { addr := 0x40001004, lsb := 9, width := 1, acc := .ro, rst := 0, kind := .mirror }
def R.PWR.MODE_STATUS.MET_RET : Fld :=
  { addr := 0x40001004, lsb := 10, width := 1, acc := .ro, rst := 0, kind := .mirror }
def R.PWR.MODE_STATUS.RF_ON : Fld :=
  { addr := 0x40001004, lsb := 11, width := 1, acc := .ro, rst := 0, kind := .mirror }
def R.PWR.MODE_STATUS.RF_READY : Fld :=
  { addr := 0x40001004, lsb := 12, width := 1, acc := .ro, rst := 0, kind := .mirror }
def R.PWR.MODE_STATUS.REFUSED : Fld :=
  { addr := 0x40001004, lsb := 16, width := 1, acc := .w1c, rst := 0, kind := .mirror }
def R.PWR.MODE_STATUS.HELD : Fld :=
  { addr := 0x40001004, lsb := 17, width := 1, acc := .ro, rst := 0, kind := .mirror }
def R.PWR.MODE_STATUS.L5_RESTART : Fld :=
  { addr := 0x40001004, lsb := 18, width := 1, acc := .w1c, rst := 0, kind := .mirror }
def R.PWR.MODE_STATUS.LFXO_LOST : Fld :=
  { addr := 0x40001004, lsb := 19, width := 1, acc := .w1c, rst := 0, kind := .mirror }
def R.PWR.MODE_STATUS.FROM_SHIP : Fld :=
  { addr := 0x40001004, lsb := 20, width := 1, acc := .w1c, rst := 0, kind := .mirror }
def R.PWR.REST.APP_OFF : Fld :=
  { addr := 0x40001008, lsb := 0, width := 1, acc := .rwc, rst := 1 }
def R.PWR.REST.RET_BANKS : Fld :=
  { addr := 0x40001008, lsb := 4, width := 4, acc := .rwc, rst := 1 }
def R.PWR.DOMAIN_REQ.RF_HOLD : Fld :=
  { addr := 0x4000100C, lsb := 0, width := 1, acc := .rw, rst := 0 }
def R.PWR.WAKE_EN.EN (sd : Side) : Fld :=
  { addr := sd.pick 0x40001010 0x48001010, lsb := 1, width := 15, acc := .rwc, rst := sd.pick 0x2C05 0x6C02 }
def R.PWR.WAKE_CAUSE.C0 (sd : Side) : Fld :=
  { addr := sd.pick 0x40001014 0x48001014, lsb := 0, width := 4, acc := .ro, rst := 0, kind := .mirror }
def R.PWR.WAKE_CAUSE.C1 (sd : Side) : Fld :=
  { addr := sd.pick 0x40001014 0x48001014, lsb := 4, width := 4, acc := .ro, rst := 0, kind := .mirror }
def R.PWR.WAKE_CAUSE.C2 (sd : Side) : Fld :=
  { addr := sd.pick 0x40001014 0x48001014, lsb := 8, width := 4, acc := .ro, rst := 0, kind := .mirror }
def R.PWR.WAKE_CAUSE.C3 (sd : Side) : Fld :=
  { addr := sd.pick 0x40001014 0x48001014, lsb := 12, width := 4, acc := .ro, rst := 0, kind := .mirror }
def R.PWR.WAKE_CAUSE.COUNT (sd : Side) : Fld :=
  { addr := sd.pick 0x40001014 0x48001014, lsb := 16, width := 3, acc := .ro, rst := 0, kind := .mirror }
def R.PWR.WAKE_CAUSE.MORE (sd : Side) : Fld :=
  { addr := sd.pick 0x40001014 0x48001014, lsb := 19, width := 1, acc := .ro, rst := 0, kind := .mirror }
def R.PWR.WAKE_CAUSE.REPLAY (sd : Side) : Fld :=
  { addr := sd.pick 0x40001014 0x48001014, lsb := 20, width := 1, acc := .ro, rst := 0, kind := .mirror }
def R.PWR.WAKE_CAUSE.FROM (sd : Side) : Fld :=
  { addr := sd.pick 0x40001014 0x48001014, lsb := 21, width := 3, acc := .ro, rst := 0, kind := .mirror }
def R.PWR.WAKE_CLR.CLR (sd : Side) : Fld :=
  { addr := sd.pick 0x40001018 0x48001018, lsb := 0, width := 1, acc := .wo, rst := 0 }

/-! ### BRIDGE (Tables CLK-13, CLK-14, CLK-15, CLK-16, CLK-17, CLK-18, CLK-19) -/

def R.BRIDGE.STATUS.LAST_ID (sd : Side) : Fld :=
  { addr := sd.pick 0x40012000 0x48002000, lsb := 0, width := 5, acc := .ro, rst := 0 }
def R.BRIDGE.STATUS.DIR (sd : Side) : Fld :=
  { addr := sd.pick 0x40012000 0x48002000, lsb := 5, width := 1, acc := .ro, rst := 0 }
def R.BRIDGE.STATUS.DOMAIN_OFF (sd : Side) : Fld :=
  { addr := sd.pick 0x40012000 0x48002000, lsb := 6, width := 1, acc := .ro, rst := 0 }
def R.BRIDGE.STATUS.REQ (sd : Side) : Fld :=
  { addr := sd.pick 0x40012000 0x48002000, lsb := 8, width := 4, acc := .ro, rst := 0 }
def R.BRIDGE.STATUS.TIMEOUT (sd : Side) : Fld :=
  { addr := sd.pick 0x40012000 0x48002000, lsb := 16, width := 1, acc := .w1c, rst := 0 }
def R.BRIDGE.STATUS.MULTI (sd : Side) : Fld :=
  { addr := sd.pick 0x40012000 0x48002000, lsb := 17, width := 1, acc := .w1c, rst := 0 }
def R.BRIDGE.FAULT_ADDR.ADDR (sd : Side) : Fld :=
  { addr := sd.pick 0x40012004 0x48002004, lsb := 0, width := 32, acc := .ro, rst := 0 }
def R.BRIDGE.OVR.AON_EV : Fld :=
  { addr := 0x40012008, lsb := 3, width := 1, acc := .w1c, rst := 0 }
def R.BRIDGE.OVR.AON_RQ : Fld :=
  { addr := 0x40012008, lsb := 4, width := 1, acc := .w1c, rst := 0 }
def R.BRIDGE.OVR.RF_EV : Fld :=
  { addr := 0x40012008, lsb := 12, width := 1, acc := .w1c, rst := 0 }
def R.BRIDGE.OVR.RF_RQ : Fld :=
  { addr := 0x40012008, lsb := 13, width := 1, acc := .w1c, rst := 0 }
def R.BRIDGE.TIMEOUT.RF_LIMIT : Fld :=
  { addr := 0x4001200C, lsb := 0, width := 12, acc := .rwc, rst := 256 }
def R.BRIDGE.TIMEOUT.AON_LIMIT (sd : Side) : Fld :=
  { addr := sd.pick 0x4001200C 0x4800200C, lsb := 16, width := 12, acc := .rwc, rst := 256 }
def R.BRIDGE.LOCKUP.LOCKUP_N (sd : Side) : Fld :=
  { addr := sd.pick 0x40012010 0x48002010, lsb := 0, width := 8, acc := .rwc, rst := 8 }
def R.BRIDGE.CLKSTAT.HFXO_RUN (sd : Side) : Fld :=
  { addr := sd.pick 0x40012014 0x48002014, lsb := 0, width := 1, acc := .ro, rst := 0 }
def R.BRIDGE.CLKSTAT.LFXO_RUN (sd : Side) : Fld :=
  { addr := sd.pick 0x40012014 0x48002014, lsb := 1, width := 1, acc := .ro, rst := 0 }
def R.BRIDGE.CLKSTAT.TOSC_OK (sd : Side) : Fld :=
  { addr := sd.pick 0x40012014 0x48002014, lsb := 2, width := 1, acc := .ro, rst := 1 }
def R.BRIDGE.CLKSTAT.TOSC_FAIL (sd : Side) : Fld :=
  { addr := sd.pick 0x40012014 0x48002014, lsb := 3, width := 1, acc := .w1c, rst := 0 }
def R.BRIDGE.COUNTS.TO_COUNT (sd : Side) : Fld :=
  { addr := sd.pick 0x40012018 0x48002018, lsb := 0, width := 16, acc := .rw, rst := 0 }
def R.BRIDGE.COUNTS.OVR_COUNT (sd : Side) : Fld :=
  { addr := sd.pick 0x40012018 0x48002018, lsb := 16, width := 16, acc := .rw, rst := 0 }

/-! ### MPWR (Tables MODE-15, START-12, START-13, PROT-11, LREC-5, PROT-10) -/

def R.MPWR.MCTL.RUN : Fld :=
  { addr := 0x48001000, lsb := 0, width := 1, acc := .rw, rst := 1 }
def R.MPWR.MCTL.KEEP : Fld :=
  { addr := 0x48001000, lsb := 1, width := 1, acc := .rw, rst := 0 }
def R.MPWR.MCTL.SHIP_OK : Fld :=
  { addr := 0x48001000, lsb := 2, width := 1, acc := .rwc, rst := 0 }
def R.MPWR.MCTL.SERVICE : Fld :=
  { addr := 0x48001000, lsb := 3, width := 1, acc := .rw, rst := 0 }
def R.MPWR.MCTL.FREEZE_DONE : Fld :=
  { addr := 0x48001000, lsb := 4, width := 1, acc := .w1s, rst := 0 }
def R.MPWR.RST_CAUSE.POR : Fld :=
  { addr := 0x48001020, lsb := 0, width := 1, acc := .w1c, rst := 1 }
def R.MPWR.RST_CAUSE.NRESET : Fld :=
  { addr := 0x48001020, lsb := 1, width := 1, acc := .w1c, rst := 0 }
def R.MPWR.RST_CAUSE.MWDT : Fld :=
  { addr := 0x48001020, lsb := 2, width := 1, acc := .w1c, rst := 0 }
def R.MPWR.RST_CAUSE.LOCKUP : Fld :=
  { addr := 0x48001020, lsb := 3, width := 1, acc := .w1c, rst := 0 }
def R.MPWR.RST_CAUSE.CLKLOSS : Fld :=
  { addr := 0x48001020, lsb := 5, width := 1, acc := .w1c, rst := 0 }
def R.MPWR.RST_CAUSE.MET_RESETS : Fld :=
  { addr := 0x48001020, lsb := 8, width := 8, acc := .rw, rst := 0 }
def R.MPWR.WDT.FEED : Fld :=
  { addr := 0x48001024, lsb := 0, width := 8, acc := .wo, rst := 0 }
def R.MPWR.WDT.PERIOD : Fld :=
  { addr := 0x48001024, lsb := 8, width := 8, acc := .rw, rst := 16 }
def R.MPWR.WDT.REMAIN : Fld :=
  { addr := 0x48001024, lsb := 16, width := 8, acc := .ro, rst := 0 }
def R.MPWR.ARB2.VALUE : Fld :=
  { addr := 0x48001088, lsb := 0, width := 7, acc := .ro, rst := 0 }
def R.MPWR.ARB2.TARGET : Fld :=
  { addr := 0x48001088, lsb := 8, width := 7, acc := .wo, rst := 0 }
def R.MPWR.ARB2.BURN : Fld :=
  { addr := 0x48001088, lsb := 15, width := 1, acc := .ro, rst := 0 }
def R.MPWR.ARB2.REFUSED : Fld :=
  { addr := 0x48001088, lsb := 16, width := 1, acc := .w1c, rst := 0 }
def R.MPWR.ARB2.SAT : Fld :=
  { addr := 0x48001088, lsb := 17, width := 1, acc := .w1c, rst := 0 }
def R.MPWR.ARB2.KEY : Fld :=
  { addr := 0x48001088, lsb := 24, width := 8, acc := .wo, rst := 0 }
def R.MPWR.ECHK.START : Fld :=
  { addr := 0x48001090, lsb := 0, width := 1, acc := .wo, rst := 0 }
def R.MPWR.ECHK.BUSY : Fld :=
  { addr := 0x48001090, lsb := 1, width := 1, acc := .ro, rst := 0 }
def R.MPWR.ECHK.PASS : Fld :=
  { addr := 0x48001090, lsb := 2, width := 1, acc := .ro, rst := 0 }
def R.MPWR.ECHK.FRESH : Fld :=
  { addr := 0x48001090, lsb := 3, width := 1, acc := .ro, rst := 0 }
def R.MPWR.ECHK.FAIL : Fld :=
  { addr := 0x48001090, lsb := 4, width := 1, acc := .w1c, rst := 0 }
def R.MPWR.ECHK.VLOAD : Fld :=
  { addr := 0x48001090, lsb := 8, width := 12, acc := .ro, rst := 0 }
def R.MPWR.ECHK.THR : Fld :=
  { addr := 0x48001090, lsb := 24, width := 6, acc := .rwc, rst := 5 }
def R.MPWR.SEAL_STATUS.STATE : Fld :=
  { addr := 0x48001080, lsb := 0, width := 2, acc := .ro, rst := 0, kind := .mirror }
def R.MPWR.SEAL_STATUS.SW : Fld :=
  { addr := 0x48001080, lsb := 2, width := 1, acc := .ro, rst := 0, kind := .mirror }
def R.MPWR.SEAL_STATUS.SW_VALID : Fld :=
  { addr := 0x48001080, lsb := 3, width := 1, acc := .ro, rst := 0, kind := .mirror }
def R.MPWR.SEAL_STATUS.CYCLE : Fld :=
  { addr := 0x48001080, lsb := 4, width := 3, acc := .ro, rst := 0, kind := .mirror }
def R.MPWR.SEAL_STATUS.REMAIN : Fld :=
  { addr := 0x48001080, lsb := 8, width := 4, acc := .ro, rst := 0, kind := .mirror }
def R.MPWR.SEAL_STATUS.BURN : Fld :=
  { addr := 0x48001080, lsb := 12, width := 1, acc := .ro, rst := 0, kind := .mirror }
def R.MPWR.SEAL_STATUS.SPLIT : Fld :=
  { addr := 0x48001080, lsb := 13, width := 1, acc := .ro, rst := 0, kind := .mirror }
def R.MPWR.SEAL_STATUS.REFUSED : Fld :=
  { addr := 0x48001080, lsb := 16, width := 1, acc := .w1c, rst := 0, kind := .mirror }
def R.MPWR.SEAL_STATUS.BROKE : Fld :=
  { addr := 0x48001080, lsb := 17, width := 1, acc := .w1c, rst := 0, kind := .mirror }
def R.MPWR.SEAL_CMD.CMD : Fld :=
  { addr := 0x48001084, lsb := 0, width := 4, acc := .wo, rst := 0 }
def R.MPWR.SEAL_CMD.KEY : Fld :=
  { addr := 0x48001084, lsb := 8, width := 8, acc := .wo, rst := 0 }

/-! ### AON (Tables START-7, START-8, START-9, START-10, START-11, CAT-6) -/

def R.AON.RST_CAUSE.POR : Fld :=
  { addr := 0x40002000, lsb := 0, width := 1, acc := .w1c, rst := 1, kind := .mirror }
def R.AON.RST_CAUSE.NRESET : Fld :=
  { addr := 0x40002000, lsb := 1, width := 1, acc := .w1c, rst := 0, kind := .mirror }
def R.AON.RST_CAUSE.AWDT : Fld :=
  { addr := 0x40002000, lsb := 2, width := 1, acc := .w1c, rst := 0, kind := .mirror }
def R.AON.RST_CAUSE.SOFT : Fld :=
  { addr := 0x40002000, lsb := 3, width := 1, acc := .w1c, rst := 0, kind := .mirror }
def R.AON.RST_CAUSE.LOCKUP : Fld :=
  { addr := 0x40002000, lsb := 4, width := 1, acc := .w1c, rst := 0, kind := .mirror }
def R.AON.RST_CAUSE.CLKLOSS : Fld :=
  { addr := 0x40002000, lsb := 5, width := 1, acc := .w1c, rst := 0, kind := .mirror }
def R.AON.RST_CAUSE.TIME_UNSET : Fld :=
  { addr := 0x40002000, lsb := 6, width := 1, acc := .ro, rst := 1, kind := .mirror }
def R.AON.RST_CAUSE.APP_RESETS : Fld :=
  { addr := 0x40002000, lsb := 8, width := 8, acc := .rw, rst := 0, kind := .mirror }
def R.AON.OPT_STATUS.VALID : Fld :=
  { addr := 0x40002004, lsb := 0, width := 1, acc := .ro, rst := 0, kind := .mirror }
def R.AON.OPT_STATUS.BLANK : Fld :=
  { addr := 0x40002004, lsb := 1, width := 1, acc := .ro, rst := 0, kind := .mirror }
def R.AON.OPT_STATUS.INVALID : Fld :=
  { addr := 0x40002004, lsb := 2, width := 1, acc := .ro, rst := 0, kind := .mirror }
def R.AON.OPT_STATUS.FIELD_BAD : Fld :=
  { addr := 0x40002004, lsb := 3, width := 1, acc := .ro, rst := 0, kind := .mirror }
def R.AON.OPT_STATUS.FIXED : Fld :=
  { addr := 0x40002004, lsb := 8, width := 8, acc := .ro, rst := 0, kind := .mirror }
def R.AON.OPT_STATUS.FIRST_BAD : Fld :=
  { addr := 0x40002004, lsb := 16, width := 10, acc := .ro, rst := 1023, kind := .mirror }
def R.AON.BOOT_STATUS.TWIN : Fld :=
  { addr := 0x40002008, lsb := 0, width := 2, acc := .ro, rst := 3, kind := .mirror }
def R.AON.BOOT_STATUS.A_STATE : Fld :=
  { addr := 0x40002008, lsb := 2, width := 2, acc := .ro, rst := 0, kind := .mirror }
def R.AON.BOOT_STATUS.B_STATE : Fld :=
  { addr := 0x40002008, lsb := 4, width := 2, acc := .ro, rst := 0, kind := .mirror }
def R.AON.BOOT_STATUS.FORCED_MISS : Fld :=
  { addr := 0x40002008, lsb := 6, width := 1, acc := .ro, rst := 0, kind := .mirror }
def R.AON.BOOT_STATUS.LOADER : Fld :=
  { addr := 0x40002008, lsb := 7, width := 1, acc := .ro, rst := 0, kind := .mirror }
def R.AON.BOOT_STATUS.OTP_BAD : Fld :=
  { addr := 0x40002008, lsb := 8, width := 1, acc := .ro, rst := 0, kind := .mirror }
def R.AON.BOOT_STATUS.ROLLBACK : Fld :=
  { addr := 0x40002008, lsb := 16, width := 7, acc := .ro, rst := 0, kind := .mirror }
def R.AON.BOOT_STATUS.ARB0 : Fld :=
  { addr := 0x40002008, lsb := 24, width := 7, acc := .ro, rst := 0, kind := .mirror }
def R.AON.RST_REQ.KEY : Fld :=
  { addr := 0x4000200C, lsb := 0, width := 8, acc := .wo, rst := 0 }
def R.AON.WDT.FEED : Fld :=
  { addr := 0x40002010, lsb := 0, width := 8, acc := .wo, rst := 0 }
def R.AON.WDT.REMAIN : Fld :=
  { addr := 0x40002010, lsb := 16, width := 8, acc := .ro, rst := 0, kind := .mirror }
def R.AON.WDT.EN : Fld :=
  { addr := 0x40002010, lsb := 24, width := 1, acc := .ro, rst := 1, kind := .mirror }
def R.AON.RTC_SEC.SEC : Fld :=
  { addr := 0x40002020, lsb := 0, width := 32, acc := .ro, rst := 0, kind := .mirror }
def R.AON.RTC_SUB.SUB : Fld :=
  { addr := 0x40002024, lsb := 0, width := 15, acc := .ro, rst := 0, kind := .mirror }
def R.AON.SHADOW.OPT (n : Nat) : Fld :=
  { addr := 0x40002040 + 4 * n, lsb := 0, width := 32, acc := .ro, rst := 0, kind := .mirror }

/-! ### SYSCTL (Tables REG-6, REG-9, REG-10, REG-11, REG-12, REG-13, QUE-4, CAT-12, REG-7, REG-8) -/

def R.SYSCTL.ID.TYPE : Fld :=
  { addr := 0x40000000, lsb := 0, width := 16, acc := .ro, rst := 0 }
def R.SYSCTL.ID.REV : Fld :=
  { addr := 0x40000000, lsb := 16, width := 8, acc := .ro, rst := 161 }
def R.SYSCTL.COMMIT_FIRE.FIRE : Fld :=
  { addr := 0x40000020, lsb := 0, width := 4, acc := .wo, rst := 0 }
def R.SYSCTL.COMMIT_STATUS.DONE : Fld :=
  { addr := 0x40000024, lsb := 0, width := 1, acc := .w1c, rst := 0 }
def R.SYSCTL.COMMIT_STATUS.ABORT : Fld :=
  { addr := 0x40000024, lsb := 1, width := 1, acc := .w1c, rst := 0 }
def R.SYSCTL.COMMIT_STATUS.LATE_APPLY : Fld :=
  { addr := 0x40000024, lsb := 2, width := 1, acc := .w1c, rst := 0 }
def R.SYSCTL.COMMIT_STATUS.LAST_GROUP : Fld :=
  { addr := 0x40000024, lsb := 4, width := 2, acc := .ro, rst := 0 }
def R.SYSCTL.COMMIT_STATUS.DICT_LOCK : Fld :=
  { addr := 0x40000024, lsb := 8, width := 1, acc := .ro, rst := 0 }
def R.SYSCTL.COMMIT_STATUS.ABORT_BLOCK : Fld :=
  { addr := 0x40000024, lsb := 16, width := 5, acc := .ro, rst := 31 }
def R.SYSCTL.COMMIT_STATUS.FIRES : Fld :=
  { addr := 0x40000024, lsb := 24, width := 8, acc := .rw, rst := 0 }
def R.SYSCTL.READ_SYNC.SYNC (sd : Side) : Fld :=
  { addr := sd.pick 0x40000030 0x48000030, lsb := 0, width := 1, acc := .wo, rst := 0 }
def R.SYSCTL.VOTE_FIX.COUNT : Fld :=
  { addr := 0x40000040, lsb := 0, width := 16, acc := .rw, rst := 0 }
def R.SYSCTL.VOTE_STATUS.LAST_FIELD : Fld :=
  { addr := 0x40000044, lsb := 0, width := 8, acc := .ro, rst := 0, kind := .mirror }
def R.SYSCTL.VOTE_STATUS.LOST : Fld :=
  { addr := 0x40000044, lsb := 8, width := 1, acc := .w1c, rst := 0, kind := .mirror }
def R.SYSCTL.VOTE_STATUS.STUCK : Fld :=
  { addr := 0x40000044, lsb := 9, width := 1, acc := .w1c, rst := 0, kind := .mirror }
def R.SYSCTL.VOTE_STATUS.LOST_FIELD : Fld :=
  { addr := 0x40000044, lsb := 16, width := 8, acc := .ro, rst := 0, kind := .mirror }
def R.SYSCTL.EVLOG_STAT.COUNT : Fld :=
  { addr := 0x40000050, lsb := 0, width := 7, acc := .ro, rst := 0, kind := .mirror }
def R.SYSCTL.EVLOG_STAT.OVERWRITTEN : Fld :=
  { addr := 0x40000050, lsb := 16, width := 16, acc := .rw, rst := 0, kind := .mirror }
def R.SYSCTL.EVLOG_SEL.POS : Fld :=
  { addr := 0x40000054, lsb := 0, width := 6, acc := .rw, rst := 0 }
def R.SYSCTL.EVLOG_HEAD.SEQ : Fld :=
  { addr := 0x40000070, lsb := 0, width := 32, acc := .ro, rst := 0, kind := .mirror }
def R.SYSCTL.UNIT_ID_LO.UNIT_ID : Fld :=
  { addr := 0x40000004, lsb := 0, width := 32, acc := .ro, rst := 0 }
def R.SYSCTL.UNIT_ID_HI.UNIT_ID : Fld :=
  { addr := 0x40000008, lsb := 0, width := 32, acc := .ro, rst := 0 }
def R.SYSCTL.COMMIT_GROUP.MASK (n : Nat) : Fld :=
  { addr := 0x40000010 + 4 * n, lsb := 0, width := 22, acc := .rw, rst := 0 }
def R.SYSCTL.EVLOG_W.WORD (n : Nat) : Fld :=
  { addr := 0x40000058 + 4 * n, lsb := 0, width := 32, acc := .ro, rst := 0, kind := .mirror }

/-! ### ARB (Tables MAP-13, MAP-14, MAP-15, MAP-16, MAP-10, MAP-11, MAP-12) -/

def R.ARB.RESERVE.CH0 : Fld :=
  { addr := 0x40005028, lsb := 0, width := 1, acc := .rw, rst := 1 }
def R.ARB.FORCED.COUNT : Fld :=
  { addr := 0x40005030, lsb := 0, width := 16, acc := .rw, rst := 0 }
def R.ARB.FORCED.LAST : Fld :=
  { addr := 0x40005030, lsb := 16, width := 4, acc := .ro, rst := 15 }
def R.ARB.FAULT_STATUS.CAUSE (sd : Side) : Fld :=
  { addr := sd.pick 0x40005040 0x48003040, lsb := 0, width := 3, acc := .ro, rst := 0 }
def R.ARB.FAULT_STATUS.REQ (sd : Side) : Fld :=
  { addr := sd.pick 0x40005040 0x48003040, lsb := 4, width := 4, acc := .ro, rst := 0 }
def R.ARB.FAULT_STATUS.DIR (sd : Side) : Fld :=
  { addr := sd.pick 0x40005040 0x48003040, lsb := 8, width := 1, acc := .ro, rst := 0 }
def R.ARB.FAULT_STATUS.FETCH (sd : Side) : Fld :=
  { addr := sd.pick 0x40005040 0x48003040, lsb := 9, width := 1, acc := .ro, rst := 0 }
def R.ARB.FAULT_STATUS.VALID (sd : Side) : Fld :=
  { addr := sd.pick 0x40005040 0x48003040, lsb := 16, width := 1, acc := .w1c, rst := 0 }
def R.ARB.FAULT_STATUS.MULTI (sd : Side) : Fld :=
  { addr := sd.pick 0x40005040 0x48003040, lsb := 17, width := 1, acc := .w1c, rst := 0 }
def R.ARB.FAULT_STATUS.COUNT (sd : Side) : Fld :=
  { addr := sd.pick 0x40005040 0x48003040, lsb := 24, width := 8, acc := .rw, rst := 0 }
def R.ARB.FAULT_ADDR.ADDR (sd : Side) : Fld :=
  { addr := sd.pick 0x40005044 0x48003044, lsb := 0, width := 32, acc := .ro, rst := 0 }
def R.ARB.PRIO.P (n : Nat) : Fld :=
  { addr := 0x40005000 + 4 * (n / 8), lsb := 4 * (n % 8), width := 3, acc := .rw, rst := [4, 4, 7, 2, 2, 2, 2, 2, 2, 2, 6, 5, 3, 1, 5].getD n 0 }
def R.ARB.WAITLIM.L (n : Nat) : Fld :=
  { addr := 0x40005008 + 4 * (n / 4), lsb := 8 * (n % 4), width := 8, acc := .rw, rst := [16, 16, 1, 16, 16, 16, 16, 16, 16, 16, 4, 8, 16, 32, 8].getD n 0 }
def R.ARB.WAITCNT.C (n : Nat) : Fld :=
  { addr := 0x40005018 + 4 * (n / 4), lsb := 8 * (n % 4), width := 8, acc := .ro, rst := 0 }

/-! ### FLASHC (Tables FLASH-7, FLASH-8, FLASH-9, FLASH-10, FLASH-11, FLASH-12, FLASH-13, FLASH-14, PROT-4, PROT-6, PROT-7, PROT-8, PROT-5) -/

def R.FLASHC.STATUS.BUSY (sd : Side) : Fld :=
  { addr := sd.pick 0x40003000 0x48004000, lsb := 0, width := 1, acc := .ro, rst := 0 }
def R.FLASHC.STATUS.BUSY0 (sd : Side) : Fld :=
  { addr := sd.pick 0x40003000 0x48004000, lsb := 1, width := 1, acc := .ro, rst := 0 }
def R.FLASHC.STATUS.BUSY1 (sd : Side) : Fld :=
  { addr := sd.pick 0x40003000 0x48004000, lsb := 2, width := 1, acc := .ro, rst := 0 }
def R.FLASHC.STATUS.BUSYB (sd : Side) : Fld :=
  { addr := sd.pick 0x40003000 0x48004000, lsb := 3, width := 1, acc := .ro, rst := 0 }
def R.FLASHC.STATUS.OP (sd : Side) : Fld :=
  { addr := sd.pick 0x40003000 0x48004000, lsb := 4, width := 3, acc := .ro, rst := 0 }
def R.FLASHC.STATUS.ARMED (sd : Side) : Fld :=
  { addr := sd.pick 0x40003000 0x48004000, lsb := 7, width := 1, acc := .ro, rst := 0 }
def R.FLASHC.STATUS.DONE (sd : Side) : Fld :=
  { addr := sd.pick 0x40003000 0x48004000, lsb := 8, width := 1, acc := .w1c, rst := 0 }
def R.FLASHC.STATUS.PFAIL (sd : Side) : Fld :=
  { addr := sd.pick 0x40003000 0x48004000, lsb := 9, width := 1, acc := .w1c, rst := 0 }
def R.FLASHC.STATUS.EFAIL (sd : Side) : Fld :=
  { addr := sd.pick 0x40003000 0x48004000, lsb := 10, width := 1, acc := .w1c, rst := 0 }
def R.FLASHC.STATUS.VERIFY_CORR (sd : Side) : Fld :=
  { addr := sd.pick 0x40003000 0x48004000, lsb := 11, width := 1, acc := .w1c, rst := 0 }
def R.FLASHC.STATUS.TIRED_HIT (sd : Side) : Fld :=
  { addr := sd.pick 0x40003000 0x48004000, lsb := 12, width := 1, acc := .w1c, rst := 0 }
def R.FLASHC.STATUS.NOT_ERASED (sd : Side) : Fld :=
  { addr := sd.pick 0x40003000 0x48004000, lsb := 13, width := 1, acc := .w1c, rst := 0 }
def R.FLASHC.STATUS.SEQERR (sd : Side) : Fld :=
  { addr := sd.pick 0x40003000 0x48004000, lsb := 14, width := 1, acc := .w1c, rst := 0 }
def R.FLASHC.STATUS.STRAY (sd : Side) : Fld :=
  { addr := sd.pick 0x40003000 0x48004000, lsb := 15, width := 1, acc := .w1c, rst := 0 }
def R.FLASHC.STATUS.PROTERR (sd : Side) : Fld :=
  { addr := sd.pick 0x40003000 0x48004000, lsb := 16, width := 1, acc := .w1c, rst := 0 }
def R.FLASHC.STATUS.REFUSED (sd : Side) : Fld :=
  { addr := sd.pick 0x40003000 0x48004000, lsb := 17, width := 1, acc := .w1c, rst := 0 }
def R.FLASHC.STATUS.ABORTED (sd : Side) : Fld :=
  { addr := sd.pick 0x40003000 0x48004000, lsb := 18, width := 1, acc := .w1c, rst := 0 }
def R.FLASHC.OP_ADDR.ADDR (sd : Side) : Fld :=
  { addr := sd.pick 0x40003004 0x48004004, lsb := 0, width := 32, acc := .ro, rst := 0 }
def R.FLASHC.LAST_PULSES.PROG (sd : Side) : Fld :=
  { addr := sd.pick 0x40003008 0x48004008, lsb := 0, width := 5, acc := .ro, rst := 0 }
def R.FLASHC.LAST_PULSES.ERASE (sd : Side) : Fld :=
  { addr := sd.pick 0x40003008 0x48004008, lsb := 8, width := 4, acc := .ro, rst := 0 }
def R.FLASHC.CTRL.DONE_IE (sd : Side) : Fld :=
  { addr := sd.pick 0x4000300C 0x4800400C, lsb := 0, width := 1, acc := .rwc, rst := 0 }
def R.FLASHC.CTRL.FAIL_IE (sd : Side) : Fld :=
  { addr := sd.pick 0x4000300C 0x4800400C, lsb := 1, width := 1, acc := .rwc, rst := 0 }
def R.FLASHC.CTRL.ECC_IE (sd : Side) : Fld :=
  { addr := sd.pick 0x4000300C 0x4800400C, lsb := 2, width := 1, acc := .rwc, rst := 0 }
def R.FLASHC.CTRL.SEQ_IE (sd : Side) : Fld :=
  { addr := sd.pick 0x4000300C 0x4800400C, lsb := 3, width := 1, acc := .rwc, rst := 0 }
def R.FLASHC.ECC_STATUS.COR (sd : Side) : Fld :=
  { addr := sd.pick 0x40003010 0x48004010, lsb := 0, width := 1, acc := .w1c, rst := 0 }
def R.FLASHC.ECC_STATUS.UNCOR (sd : Side) : Fld :=
  { addr := sd.pick 0x40003010 0x48004010, lsb := 1, width := 1, acc := .w1c, rst := 0 }
def R.FLASHC.ECC_STATUS.FETCH (sd : Side) : Fld :=
  { addr := sd.pick 0x40003010 0x48004010, lsb := 2, width := 1, acc := .ro, rst := 0 }
def R.FLASHC.ECC_STATUS.REQ (sd : Side) : Fld :=
  { addr := sd.pick 0x40003010 0x48004010, lsb := 4, width := 4, acc := .ro, rst := 0 }
def R.FLASHC.ECC_STATUS.COR_COUNT (sd : Side) : Fld :=
  { addr := sd.pick 0x40003010 0x48004010, lsb := 16, width := 8, acc := .rw, rst := 0 }
def R.FLASHC.ECC_STATUS.UNCOR_COUNT (sd : Side) : Fld :=
  { addr := sd.pick 0x40003010 0x48004010, lsb := 24, width := 8, acc := .rw, rst := 0 }
def R.FLASHC.ECC_ADDR.ADDR (sd : Side) : Fld :=
  { addr := sd.pick 0x40003014 0x48004014, lsb := 0, width := 32, acc := .ro, rst := 0 }
def R.FLASHC.ECNT_IDX.BLOCK (sd : Side) : Fld :=
  { addr := sd.pick 0x40003018 0x48004018, lsb := 0, width := 7, acc := .rw, rst := 0 }
def R.FLASHC.ECNT_IDX.ARRAY (sd : Side) : Fld :=
  { addr := sd.pick 0x40003018 0x48004018, lsb := 8, width := 2, acc := .rw, rst := 0 }
def R.FLASHC.ECNT.COUNT (sd : Side) : Fld :=
  { addr := sd.pick 0x4000301C 0x4800401C, lsb := 0, width := 24, acc := .ro, rst := 0 }
def R.FLASHC.ECNT.TIRED (sd : Side) : Fld :=
  { addr := sd.pick 0x4000301C 0x4800401C, lsb := 24, width := 1, acc := .ro, rst := 0 }
def R.FLASHC.ECNT.LOST (sd : Side) : Fld :=
  { addr := sd.pick 0x4000301C 0x4800401C, lsb := 25, width := 1, acc := .ro, rst := 0 }
def R.FLASHC.ECNT.VALID (sd : Side) : Fld :=
  { addr := sd.pick 0x4000301C 0x4800401C, lsb := 26, width := 1, acc := .ro, rst := 0 }
def R.FLASHC.ECNT.OVER (sd : Side) : Fld :=
  { addr := sd.pick 0x4000301C 0x4800401C, lsb := 27, width := 1, acc := .ro, rst := 0 }
def R.FLASHC.PROT_STATUS.MAP : Fld :=
  { addr := 0x40003040, lsb := 0, width := 9, acc := .ro, rst := 0 }
def R.FLASHC.PROT_STATUS.ATTEMPTS : Fld :=
  { addr := 0x40003040, lsb := 12, width := 4, acc := .ro, rst := 0 }
def R.FLASHC.PROT_STATUS.LIFTED : Fld :=
  { addr := 0x40003040, lsb := 16, width := 9, acc := .ro, rst := 0 }
def R.FLASHC.PROT_STATUS.LOCKOUT : Fld :=
  { addr := 0x40003040, lsb := 25, width := 1, acc := .ro, rst := 0 }
def R.FLASHC.PROT_STATUS.TAG_BLANK : Fld :=
  { addr := 0x40003040, lsb := 26, width := 1, acc := .ro, rst := 0 }
def R.FLASHC.PROT_STATUS.MAP_LOST : Fld :=
  { addr := 0x40003040, lsb := 27, width := 1, acc := .ro, rst := 0 }
def R.FLASHC.PROT_STATUS.PW_BAD : Fld :=
  { addr := 0x40003040, lsb := 28, width := 1, acc := .w1c, rst := 0 }
def R.FLASHC.PROT_STATUS.LIFT_OK : Fld :=
  { addr := 0x40003040, lsb := 29, width := 1, acc := .w1c, rst := 0 }
def R.FLASHC.PROT_RELOCK.MASK : Fld :=
  { addr := 0x40003054, lsb := 0, width := 9, acc := .wo, rst := 0 }
def R.FLASHC.PROT_RELOCK.KEY : Fld :=
  { addr := 0x40003054, lsb := 24, width := 8, acc := .wo, rst := 0 }
def R.FLASHC.ARB_STATUS.ARB0 : Fld :=
  { addr := 0x40003058, lsb := 0, width := 7, acc := .ro, rst := 0 }
def R.FLASHC.ARB_STATUS.ARB1 : Fld :=
  { addr := 0x40003058, lsb := 8, width := 7, acc := .ro, rst := 0 }
def R.FLASHC.ARB_STATUS.ARB2 : Fld :=
  { addr := 0x40003058, lsb := 16, width := 7, acc := .ro, rst := 0 }
def R.FLASHC.ARB_STATUS.BURN : Fld :=
  { addr := 0x40003058, lsb := 24, width := 1, acc := .ro, rst := 0 }
def R.FLASHC.ARB_STATUS.REFUSED : Fld :=
  { addr := 0x40003058, lsb := 25, width := 1, acc := .w1c, rst := 0 }
def R.FLASHC.ARB_STATUS.SAT : Fld :=
  { addr := 0x40003058, lsb := 26, width := 1, acc := .w1c, rst := 0 }
def R.FLASHC.ARB_STATUS.SPLIT : Fld :=
  { addr := 0x40003058, lsb := 27, width := 1, acc := .w1c, rst := 0 }
def R.FLASHC.ARB_CMD.IDX : Fld :=
  { addr := 0x4000305C, lsb := 0, width := 2, acc := .wo, rst := 0 }
def R.FLASHC.ARB_CMD.TARGET : Fld :=
  { addr := 0x4000305C, lsb := 8, width := 7, acc := .wo, rst := 0 }
def R.FLASHC.ARB_CMD.KEY : Fld :=
  { addr := 0x4000305C, lsb := 24, width := 8, acc := .wo, rst := 0 }
def R.FLASHC.PW.PW (n : Nat) : Fld :=
  { addr := 0x40003044 + 4 * n, lsb := 0, width := 32, acc := .wo, rst := 0 }

/-! ### MAON (Tables MET-3) -/

def R.MAON.RTC_SEC.SEC : Fld :=
  { addr := 0x4800D000, lsb := 0, width := 32, acc := .ro, rst := 0, kind := .mirror }
def R.MAON.RTC_SUB.SUB : Fld :=
  { addr := 0x4800D004, lsb := 0, width := 15, acc := .ro, rst := 0, kind := .mirror }
def R.MAON.ALARM_M.AT : Fld :=
  { addr := 0x4800D008, lsb := 0, width := 32, acc := .rw, rst := 0 }
def R.MAON.ALARM_M_CTL.EN : Fld :=
  { addr := 0x4800D00C, lsb := 0, width := 1, acc := .rw, rst := 0 }
def R.MAON.ALARM_M_CTL.FIRED : Fld :=
  { addr := 0x4800D00C, lsb := 1, width := 1, acc := .w1c, rst := 0 }
def R.MAON.ALARM_M_CTL.MISSED : Fld :=
  { addr := 0x4800D00C, lsb := 2, width := 1, acc := .w1c, rst := 0 }
def R.MAON.STATUS.LEVEL : Fld :=
  { addr := 0x4800D010, lsb := 0, width := 3, acc := .ro, rst := 0, kind := .mirror }
def R.MAON.STATUS.LOCK7 : Fld :=
  { addr := 0x4800D010, lsb := 3, width := 1, acc := .ro, rst := 0, kind := .mirror }
def R.MAON.STATUS.TIME_UNSET : Fld :=
  { addr := 0x4800D010, lsb := 4, width := 1, acc := .ro, rst := 1, kind := .mirror }
def R.MAON.STATUS.LFXO_RUN : Fld :=
  { addr := 0x4800D010, lsb := 5, width := 1, acc := .ro, rst := 0, kind := .mirror }
def R.MAON.STATUS.TOSC_FAIL : Fld :=
  { addr := 0x4800D010, lsb := 6, width := 1, acc := .ro, rst := 0, kind := .mirror }
def R.MAON.SHADOW.OPT (n : Nat) : Fld :=
  { addr := 0x4800D040 + 4 * n, lsb := 0, width := 32, acc := .ro, rst := 0, kind := .mirror }

/-! ### METVIEW (Tables MET-6) -/

def R.METVIEW.SEAL.SEAL : Fld :=
  { addr := 0x40014000, lsb := 0, width := 14, acc := .ro, rst := 0 }
def R.METVIEW.SEAL.SEAL_EV : Fld :=
  { addr := 0x40014000, lsb := 16, width := 2, acc := .ro, rst := 0 }
def R.METVIEW.MSTATE.MSTATE : Fld :=
  { addr := 0x40014004, lsb := 0, width := 5, acc := .ro, rst := 0 }
def R.METVIEW.MSTATE.FRESH : Fld :=
  { addr := 0x40014004, lsb := 8, width := 1, acc := .ro, rst := 0 }
def R.METVIEW.MRST.MRST : Fld :=
  { addr := 0x40014008, lsb := 0, width := 16, acc := .ro, rst := 0 }
def R.METVIEW.IMAGE.ACTIVE : Fld :=
  { addr := 0x4001400C, lsb := 0, width := 2, acc := .ro, rst := 0 }
def R.METVIEW.IMAGE.NONE : Fld :=
  { addr := 0x4001400C, lsb := 2, width := 1, acc := .ro, rst := 0 }
def R.METVIEW.IMAGE.ROLLBACK : Fld :=
  { addr := 0x4001400C, lsb := 8, width := 7, acc := .ro, rst := 0 }
def R.METVIEW.IMAGE.ARB2 : Fld :=
  { addr := 0x4001400C, lsb := 16, width := 7, acc := .ro, rst := 0 }
def R.METVIEW.VERSION.VERSION : Fld :=
  { addr := 0x40014010, lsb := 0, width := 32, acc := .ro, rst := 0 }
def R.METVIEW.GEN.GEN : Fld :=
  { addr := 0x40014014, lsb := 0, width := 32, acc := .ro, rst := 0 }
def R.METVIEW.TAG4.TAG4 : Fld :=
  { addr := 0x40014018, lsb := 0, width := 32, acc := .ro, rst := 0 }
def R.METVIEW.PUB.PUB (n : Nat) : Fld :=
  { addr := 0x4001401C + 4 * n, lsb := 0, width := 32, acc := .ro, rst := 0 }

/-! ### LOFTC (Tables MET-10, MET-11) -/

def R.LOFTC.CMD.SLOT (sd : Side) : Fld :=
  { addr := sd.pick 0x4000B080 0x4800C080, lsb := 0, width := 5, acc := .wo, rst := 0 }
def R.LOFTC.CMD.OP (sd : Side) : Fld :=
  { addr := sd.pick 0x4000B080 0x4800C080, lsb := 8, width := 3, acc := .wo, rst := 0 }
def R.LOFTC.CMD.TO (sd : Side) : Fld :=
  { addr := sd.pick 0x4000B080 0x4800C080, lsb := 12, width := 3, acc := .wo, rst := 0 }
def R.LOFTC.CMD.AS (sd : Side) : Fld :=
  { addr := sd.pick 0x4000B080 0x4800C080, lsb := 16, width := 3, acc := .wo, rst := 0 }
def R.LOFTC.CMD.LEN (sd : Side) : Fld :=
  { addr := sd.pick 0x4000B080 0x4800C080, lsb := 20, width := 10, acc := .wo, rst := 0 }
def R.LOFTC.CMD_STATUS.RESULT (sd : Side) : Fld :=
  { addr := sd.pick 0x4000B084 0x4800C084, lsb := 0, width := 3, acc := .ro, rst := 0 }
def R.LOFTC.CMD_STATUS.SLOT (sd : Side) : Fld :=
  { addr := sd.pick 0x4000B084 0x4800C084, lsb := 8, width := 5, acc := .ro, rst := 0 }
def R.LOFTC.BELL.BELL (sd : Side) : Fld :=
  { addr := sd.pick 0x4000B088 0x4800C088, lsb := 0, width := 32, acc := .w1c, rst := 0 }
def R.LOFTC.STATS.FREE_NOW (sd : Side) : Fld :=
  { addr := sd.pick 0x4000B08C 0x4800C08C, lsb := 0, width := 6, acc := .ro, rst := 32 }
def R.LOFTC.STATS.FREE_MIN (sd : Side) : Fld :=
  { addr := sd.pick 0x4000B08C 0x4800C08C, lsb := 8, width := 6, acc := .rw, rst := 32 }
def R.LOFTC.STATS.REFUSED (sd : Side) : Fld :=
  { addr := sd.pick 0x4000B08C 0x4800C08C, lsb := 16, width := 16, acc := .rw, rst := 0 }
def R.LOFTC.VIOLATION.FLAG (sd : Side) : Fld :=
  { addr := sd.pick 0x4000B090 0x4800C090, lsb := 0, width := 1, acc := .w1c, rst := 0 }
def R.LOFTC.VIOLATION.MULTI (sd : Side) : Fld :=
  { addr := sd.pick 0x4000B090 0x4800C090, lsb := 1, width := 1, acc := .w1c, rst := 0 }
def R.LOFTC.VIOLATION.SLOT (sd : Side) : Fld :=
  { addr := sd.pick 0x4000B090 0x4800C090, lsb := 4, width := 5, acc := .ro, rst := 0 }
def R.LOFTC.VIOLATION.PARTY (sd : Side) : Fld :=
  { addr := sd.pick 0x4000B090 0x4800C090, lsb := 12, width := 3, acc := .ro, rst := 0 }
def R.LOFTC.VIOLATION.KIND (sd : Side) : Fld :=
  { addr := sd.pick 0x4000B090 0x4800C090, lsb := 16, width := 2, acc := .ro, rst := 0 }
def R.LOFTC.VIOLATION.COUNT (sd : Side) : Fld :=
  { addr := sd.pick 0x4000B090 0x4800C090, lsb := 24, width := 8, acc := .rw, rst := 0 }
def R.LOFTC.COPY_SRAM.ADDR : Fld :=
  { addr := 0x4000B094, lsb := 0, width := 32, acc := .rw, rst := 0 }
def R.LOFTC.COPY_CTL.SLOT : Fld :=
  { addr := 0x4000B098, lsb := 0, width := 5, acc := .rw, rst := 0 }
def R.LOFTC.COPY_CTL.DIR : Fld :=
  { addr := 0x4000B098, lsb := 7, width := 1, acc := .rw, rst := 0 }
def R.LOFTC.COPY_CTL.WORDS : Fld :=
  { addr := 0x4000B098, lsb := 8, width := 9, acc := .rw, rst := 0 }
def R.LOFTC.COPY_CTL.AS : Fld :=
  { addr := 0x4000B098, lsb := 20, width := 3, acc := .rw, rst := 2 }
def R.LOFTC.COPY_CTL.START : Fld :=
  { addr := 0x4000B098, lsb := 31, width := 1, acc := .w1s, rst := 0 }
def R.LOFTC.COPY_STATUS.BUSY : Fld :=
  { addr := 0x4000B09C, lsb := 0, width := 1, acc := .ro, rst := 0 }
def R.LOFTC.COPY_STATUS.DONE : Fld :=
  { addr := 0x4000B09C, lsb := 1, width := 1, acc := .w1c, rst := 0 }
def R.LOFTC.COPY_STATUS.ERR : Fld :=
  { addr := 0x4000B09C, lsb := 2, width := 1, acc := .w1c, rst := 0 }
def R.LOFTC.COPY_STATUS.CAUSE : Fld :=
  { addr := 0x4000B09C, lsb := 4, width := 3, acc := .ro, rst := 0 }
def R.LOFTC.COPY_STATUS.WORDS_DONE : Fld :=
  { addr := 0x4000B09C, lsb := 8, width := 8, acc := .ro, rst := 0 }
def R.LOFTC.SLOT_STATE.OWNER (sd : Side) (n : Nat) : Fld :=
  { addr := (sd.pick 0x4000B000 0x4800C000) + 4 * n, lsb := 0, width := 3, acc := .ro, rst := 0 }
def R.LOFTC.SLOT_STATE.PUBLISH (sd : Side) (n : Nat) : Fld :=
  { addr := (sd.pick 0x4000B000 0x4800C000) + 4 * n, lsb := 3, width := 1, acc := .ro, rst := 0 }
def R.LOFTC.SLOT_STATE.FROZEN (sd : Side) (n : Nat) : Fld :=
  { addr := (sd.pick 0x4000B000 0x4800C000) + 4 * n, lsb := 4, width := 1, acc := .ro, rst := 0 }
def R.LOFTC.SLOT_STATE.FROM (sd : Side) (n : Nat) : Fld :=
  { addr := (sd.pick 0x4000B000 0x4800C000) + 4 * n, lsb := 5, width := 3, acc := .ro, rst := 0 }
def R.LOFTC.SLOT_STATE.HANDS (sd : Side) (n : Nat) : Fld :=
  { addr := (sd.pick 0x4000B000 0x4800C000) + 4 * n, lsb := 8, width := 8, acc := .ro, rst := 0 }
def R.LOFTC.SLOT_STATE.LEN (sd : Side) (n : Nat) : Fld :=
  { addr := (sd.pick 0x4000B000 0x4800C000) + 4 * n, lsb := 16, width := 10, acc := .ro, rst := 0 }

/-! ### MLOFTC (Tables MET-11) -/

def R.MLOFTC.RESERVE.MET_RSV : Fld :=
  { addr := 0x4800C0A0, lsb := 0, width := 4, acc := .rw, rst := 2 }
def R.MLOFTC.IMG_META.ACTIVE : Fld :=
  { addr := 0x4800C0BC, lsb := 0, width := 2, acc := .rw, rst := 0 }
def R.MLOFTC.IMG_META.NONE : Fld :=
  { addr := 0x4800C0BC, lsb := 2, width := 1, acc := .rw, rst := 0 }
def R.MLOFTC.IMG_META.ROLLBACK : Fld :=
  { addr := 0x4800C0BC, lsb := 8, width := 7, acc := .rw, rst := 0 }
def R.MLOFTC.PUB.PUB (n : Nat) : Fld :=
  { addr := 0x4800C0A4 + 4 * n, lsb := 0, width := 32, acc := .rw, rst := 0 }
def R.MLOFTC.IMG_VER.VALUE : Fld :=
  { addr := 0x4800C0B0, lsb := 0, width := 32, acc := .rw, rst := 0 }
def R.MLOFTC.IMG_GEN.VALUE : Fld :=
  { addr := 0x4800C0B4, lsb := 0, width := 32, acc := .rw, rst := 0 }
def R.MLOFTC.IMG_TAG.VALUE : Fld :=
  { addr := 0x4800C0B8, lsb := 0, width := 32, acc := .rw, rst := 0 }

/-! ### MADC (Tables TEMP-7) -/

def R.MADC.CTRL.OSR : Fld :=
  { addr := 0x48005000, lsb := 0, width := 3, acc := .rwc, rst := 4 }
def R.MADC.CTRL.CHOP : Fld :=
  { addr := 0x48005000, lsb := 4, width := 1, acc := .rwc, rst := 1 }
def R.MADC.STATUS.BUSY : Fld :=
  { addr := 0x48005004, lsb := 0, width := 1, acc := .ro, rst := 0 }
def R.MADC.STATUS.OWNER : Fld :=
  { addr := 0x48005004, lsb := 1, width := 2, acc := .ro, rst := 0 }
def R.MADC.STATUS.QUEUED : Fld :=
  { addr := 0x48005004, lsb := 3, width := 1, acc := .ro, rst := 0 }
def R.MADC.STATUS.READINGS : Fld :=
  { addr := 0x48005004, lsb := 16, width := 16, acc := .rw, rst := 0 }

/-! ### STRIP (Tables TEMP-8) -/

def R.STRIP.CFG.NCELL : Fld :=
  { addr := 0x48006000, lsb := 0, width := 4, acc := .rwc, rst := 8 }
def R.STRIP.CFG.VEXC : Fld :=
  { addr := 0x48006000, lsb := 4, width := 2, acc := .rwc, rst := 1 }
def R.STRIP.CFG.FS : Fld :=
  { addr := 0x48006000, lsb := 6, width := 2, acc := .rwc, rst := 1 }
def R.STRIP.CFG.SETTLE : Fld :=
  { addr := 0x48006000, lsb := 8, width := 8, acc := .rwc, rst := 20 }
def R.STRIP.CFG.EXC_SETTLE : Fld :=
  { addr := 0x48006000, lsb := 16, width := 8, acc := .rwc, rst := 20 }
def R.STRIP.CFG.SPAN_AUTO : Fld :=
  { addr := 0x48006000, lsb := 24, width := 1, acc := .rwc, rst := 1 }
def R.STRIP.CFG.IE : Fld :=
  { addr := 0x48006000, lsb := 25, width := 1, acc := .rwc, rst := 1 }
def R.STRIP.LIMIT.CELL_MIN : Fld :=
  { addr := 0x48006004, lsb := 0, width := 16, acc := .rwc, rst := 2048 }
def R.STRIP.LIMIT.CELL_MAX : Fld :=
  { addr := 0x48006004, lsb := 16, width := 16, acc := .rwc, rst := 24576 }
def R.STRIP.CMD.START : Fld :=
  { addr := 0x48006008, lsb := 0, width := 1, acc := .wo, rst := 0 }
def R.STRIP.CMD.CONT : Fld :=
  { addr := 0x48006008, lsb := 1, width := 1, acc := .wo, rst := 0 }
def R.STRIP.CMD.ABORT : Fld :=
  { addr := 0x48006008, lsb := 2, width := 1, acc := .wo, rst := 0 }
def R.STRIP.STATUS.BUSY : Fld :=
  { addr := 0x4800600C, lsb := 0, width := 1, acc := .ro, rst := 0 }
def R.STRIP.STATUS.DONE : Fld :=
  { addr := 0x4800600C, lsb := 4, width := 1, acc := .w1c, rst := 0 }
def R.STRIP.STATUS.FAULT : Fld :=
  { addr := 0x4800600C, lsb := 5, width := 1, acc := .w1c, rst := 0 }
def R.STRIP.STATUS.REJECT : Fld :=
  { addr := 0x4800600C, lsb := 6, width := 1, acc := .w1c, rst := 0 }
def R.STRIP.STATUS.ABORTED : Fld :=
  { addr := 0x4800600C, lsb := 7, width := 1, acc := .w1c, rst := 0 }
def R.STRIP.STATUS.IMPL : Fld :=
  { addr := 0x4800600C, lsb := 8, width := 8, acc := .ro, rst := 0 }
def R.STRIP.STATUS.OVR : Fld :=
  { addr := 0x4800600C, lsb := 16, width := 8, acc := .ro, rst := 0 }
def R.STRIP.STATUS.VALID : Fld :=
  { addr := 0x4800600C, lsb := 24, width := 8, acc := .ro, rst := 0 }
def R.STRIP.IMON.CURRENT : Fld :=
  { addr := 0x4800604C, lsb := 0, width := 12, acc := .ro, rst := 0 }
def R.STRIP.IMON.LOW : Fld :=
  { addr := 0x4800604C, lsb := 12, width := 1, acc := .ro, rst := 0 }
def R.STRIP.DIAG.TAP_SUSPECT : Fld :=
  { addr := 0x48006050, lsb := 0, width := 9, acc := .ro, rst := 0 }
def R.STRIP.DIAG.CELL_SUSPECT : Fld :=
  { addr := 0x48006050, lsb := 16, width := 8, acc := .ro, rst := 0 }
def R.STRIP.DIAG.CLASS : Fld :=
  { addr := 0x48006050, lsb := 24, width := 4, acc := .ro, rst := 0 }
def R.STRIP.LEVELS.TAP_HIGH : Fld :=
  { addr := 0x48006054, lsb := 0, width := 9, acc := .ro, rst := 0 }
def R.STRIP.LEVELS.OPEN_CELL : Fld :=
  { addr := 0x48006054, lsb := 16, width := 4, acc := .ro, rst := 0 }
def R.STRIP.CONT.TAP_OPEN : Fld :=
  { addr := 0x48006058, lsb := 0, width := 9, acc := .ro, rst := 0 }
def R.STRIP.CONT.DONE : Fld :=
  { addr := 0x48006058, lsb := 16, width := 1, acc := .w1c, rst := 0 }
def R.STRIP.CELL.CODE (n : Nat) : Fld :=
  { addr := 0x48006010 + 4 * n, lsb := 0, width := 32, acc := .ro, rst := 0 }
def R.STRIP.SPAN.CODE (n : Nat) : Fld :=
  { addr := 0x4800602C + 4 * n, lsb := 0, width := 32, acc := .ro, rst := 0 }

/-! ### PT (Tables TEMP-9) -/

def R.PT.CFG.EN_A : Fld :=
  { addr := 0x48007000, lsb := 0, width := 1, acc := .rwc, rst := 0 }
def R.PT.CFG.EN_B : Fld :=
  { addr := 0x48007000, lsb := 1, width := 1, acc := .rwc, rst := 0 }
def R.PT.CFG.VEXC : Fld :=
  { addr := 0x48007000, lsb := 4, width := 2, acc := .rwc, rst := 1 }
def R.PT.CFG.FS_A : Fld :=
  { addr := 0x48007000, lsb := 6, width := 2, acc := .rwc, rst := 1 }
def R.PT.CFG.FS_B : Fld :=
  { addr := 0x48007000, lsb := 8, width := 2, acc := .rwc, rst := 1 }
def R.PT.CFG.SETTLE : Fld :=
  { addr := 0x48007000, lsb := 16, width := 8, acc := .rwc, rst := 20 }
def R.PT.CFG.EXC_SETTLE : Fld :=
  { addr := 0x48007000, lsb := 24, width := 8, acc := .rwc, rst := 20 }
def R.PT.CMD.START : Fld :=
  { addr := 0x4800700C, lsb := 0, width := 1, acc := .wo, rst := 0 }
def R.PT.CMD.ABORT : Fld :=
  { addr := 0x4800700C, lsb := 2, width := 1, acc := .wo, rst := 0 }
def R.PT.STATUS.BUSY : Fld :=
  { addr := 0x48007010, lsb := 0, width := 1, acc := .ro, rst := 0 }
def R.PT.STATUS.DONE : Fld :=
  { addr := 0x48007010, lsb := 4, width := 1, acc := .w1c, rst := 0 }
def R.PT.STATUS.FAULT : Fld :=
  { addr := 0x48007010, lsb := 5, width := 1, acc := .w1c, rst := 0 }
def R.PT.STATUS.REJECT : Fld :=
  { addr := 0x48007010, lsb := 6, width := 1, acc := .w1c, rst := 0 }
def R.PT.STATUS.ABORTED : Fld :=
  { addr := 0x48007010, lsb := 7, width := 1, acc := .w1c, rst := 0 }
def R.PT.STATUS.IMPL_A : Fld :=
  { addr := 0x48007010, lsb := 8, width := 1, acc := .ro, rst := 0 }
def R.PT.STATUS.IMPL_B : Fld :=
  { addr := 0x48007010, lsb := 9, width := 1, acc := .ro, rst := 0 }
def R.PT.STATUS.OVR_A : Fld :=
  { addr := 0x48007010, lsb := 10, width := 1, acc := .ro, rst := 0 }
def R.PT.STATUS.OVR_B : Fld :=
  { addr := 0x48007010, lsb := 11, width := 1, acc := .ro, rst := 0 }
def R.PT.STATUS.OPEN : Fld :=
  { addr := 0x48007010, lsb := 12, width := 1, acc := .ro, rst := 0 }
def R.PT.IMON.CURRENT : Fld :=
  { addr := 0x4800701C, lsb := 0, width := 12, acc := .ro, rst := 0 }
def R.PT.LIM_A.MIN : Fld :=
  { addr := 0x48007004, lsb := 0, width := 16, acc := .rwc, rst := 7373 }
def R.PT.LIM_A.MAX : Fld :=
  { addr := 0x48007004, lsb := 16, width := 16, acc := .rwc, rst := 13107 }
def R.PT.RES_A.CODE : Fld :=
  { addr := 0x48007014, lsb := 0, width := 32, acc := .ro, rst := 0 }
def R.PT.LIM_B.MIN : Fld :=
  { addr := 0x48007008, lsb := 0, width := 16, acc := .rwc, rst := 7373 }
def R.PT.LIM_B.MAX : Fld :=
  { addr := 0x48007008, lsb := 16, width := 16, acc := .rwc, rst := 13107 }
def R.PT.RES_B.CODE : Fld :=
  { addr := 0x48007018, lsb := 0, width := 32, acc := .ro, rst := 0 }

/-! ### FLOW (Tables FLOW-6) -/

def R.FLOW.CFG.NPAIR : Fld :=
  { addr := 0x48008000, lsb := 0, width := 6, acc := .rwc, rst := 16 }
def R.FLOW.CFG.ORDER : Fld :=
  { addr := 0x48008000, lsb := 6, width := 1, acc := .rwc, rst := 0 }
def R.FLOW.CFG.EXCL : Fld :=
  { addr := 0x48008000, lsb := 7, width := 1, acc := .rwc, rst := 1 }
def R.FLOW.CFG.MIN_GOOD : Fld :=
  { addr := 0x48008000, lsb := 8, width := 6, acc := .rwc, rst := 8 }
def R.FLOW.CFG.IE : Fld :=
  { addr := 0x48008000, lsb := 16, width := 1, acc := .rwc, rst := 1 }
def R.FLOW.TIMING.NPULSE : Fld :=
  { addr := 0x48008004, lsb := 0, width := 5, acc := .rwc, rst := 8 }
def R.FLOW.TIMING.HALF : Fld :=
  { addr := 0x48008004, lsb := 8, width := 7, acc := .rwc, rst := 16 }
def R.FLOW.TIMING.RX_DELAY : Fld :=
  { addr := 0x48008004, lsb := 16, width := 10, acc := .rwc, rst := 30 }
def R.FLOW.TIMING2.RX_WIN : Fld :=
  { addr := 0x48008008, lsb := 0, width := 8, acc := .rwc, rst := 30 }
def R.FLOW.TIMING2.SHOT_PERIOD : Fld :=
  { addr := 0x48008008, lsb := 8, width := 12, acc := .rwc, rst := 500 }
def R.FLOW.TIMING2.PAIR_PERIOD : Fld :=
  { addr := 0x48008008, lsb := 20, width := 12, acc := .rwc, rst := 100 }
def R.FLOW.RX.GAIN : Fld :=
  { addr := 0x4800800C, lsb := 0, width := 4, acc := .rwc, rst := 8 }
def R.FLOW.RX.SKIP : Fld :=
  { addr := 0x4800800C, lsb := 4, width := 3, acc := .rwc, rst := 2 }
def R.FLOW.RX.HITS : Fld :=
  { addr := 0x4800800C, lsb := 8, width := 4, acc := .rwc, rst := 8 }
def R.FLOW.RX.FRAC : Fld :=
  { addr := 0x4800800C, lsb := 16, width := 4, acc := .rwc, rst := 8 }
def R.FLOW.RX.LOOP_K : Fld :=
  { addr := 0x4800800C, lsb := 20, width := 2, acc := .rwc, rst := 2 }
def R.FLOW.RX.LOOP_EN : Fld :=
  { addr := 0x4800800C, lsb := 22, width := 1, acc := .rwc, rst := 1 }
def R.FLOW.THR_LIM.THR_MIN : Fld :=
  { addr := 0x48008010, lsb := 0, width := 8, acc := .rwc, rst := 10 }
def R.FLOW.THR_LIM.THR_MAX : Fld :=
  { addr := 0x48008010, lsb := 8, width := 8, acc := .rwc, rst := 200 }
def R.FLOW.CMD.START : Fld :=
  { addr := 0x48008014, lsb := 0, width := 1, acc := .wo, rst := 0 }
def R.FLOW.CMD.ABORT : Fld :=
  { addr := 0x48008014, lsb := 1, width := 1, acc := .wo, rst := 0 }
def R.FLOW.STATUS.BUSY : Fld :=
  { addr := 0x48008018, lsb := 0, width := 1, acc := .ro, rst := 0 }
def R.FLOW.STATUS.QUEUED : Fld :=
  { addr := 0x48008018, lsb := 1, width := 1, acc := .ro, rst := 0 }
def R.FLOW.STATUS.DONE : Fld :=
  { addr := 0x48008018, lsb := 4, width := 1, acc := .w1c, rst := 0 }
def R.FLOW.STATUS.FAULT : Fld :=
  { addr := 0x48008018, lsb := 5, width := 1, acc := .w1c, rst := 0 }
def R.FLOW.STATUS.REJECT : Fld :=
  { addr := 0x48008018, lsb := 6, width := 1, acc := .w1c, rst := 0 }
def R.FLOW.STATUS.ABORTED : Fld :=
  { addr := 0x48008018, lsb := 7, width := 1, acc := .w1c, rst := 0 }
def R.FLOW.STATUS.EMPTY : Fld :=
  { addr := 0x48008018, lsb := 8, width := 1, acc := .ro, rst := 0 }
def R.FLOW.STATUS.LOST : Fld :=
  { addr := 0x48008018, lsb := 9, width := 1, acc := .ro, rst := 0 }
def R.FLOW.STATUS.SLIP : Fld :=
  { addr := 0x48008018, lsb := 10, width := 1, acc := .ro, rst := 0 }
def R.FLOW.STATUS.AMP_LOW : Fld :=
  { addr := 0x48008018, lsb := 11, width := 1, acc := .ro, rst := 0 }
def R.FLOW.STATUS.DRV_OPEN : Fld :=
  { addr := 0x48008018, lsb := 12, width := 1, acc := .ro, rst := 0 }
def R.FLOW.STATUS.DRV_SHORT : Fld :=
  { addr := 0x48008018, lsb := 13, width := 1, acc := .ro, rst := 0 }
def R.FLOW.STATUS.VUS_LOW : Fld :=
  { addr := 0x48008018, lsb := 14, width := 1, acc := .ro, rst := 0 }
def R.FLOW.STATUS.CAL_FAIL : Fld :=
  { addr := 0x48008018, lsb := 15, width := 1, acc := .ro, rst := 0 }
def R.FLOW.STATUS.RESEED : Fld :=
  { addr := 0x48008018, lsb := 16, width := 1, acc := .ro, rst := 0 }
def R.FLOW.STATUS.DRV_CH : Fld :=
  { addr := 0x48008018, lsb := 17, width := 1, acc := .ro, rst := 0 }
def R.FLOW.STATUS.GOOD : Fld :=
  { addr := 0x48008018, lsb := 24, width := 6, acc := .ro, rst := 0 }
def R.FLOW.COUNTS.NOECHO : Fld :=
  { addr := 0x4800801C, lsb := 0, width := 8, acc := .ro, rst := 0 }
def R.FLOW.COUNTS.SLIPS : Fld :=
  { addr := 0x4800801C, lsb := 8, width := 8, acc := .ro, rst := 0 }
def R.FLOW.COUNTS.SEQS : Fld :=
  { addr := 0x4800801C, lsb := 16, width := 16, acc := .rw, rst := 0 }
def R.FLOW.DT_MEAN.DT : Fld :=
  { addr := 0x48008028, lsb := 0, width := 32, acc := .ro, rst := 0 }
def R.FLOW.DT_SPREAD.SPREAD : Fld :=
  { addr := 0x4800802C, lsb := 0, width := 24, acc := .ro, rst := 0 }
def R.FLOW.AMP.AMP_DN : Fld :=
  { addr := 0x48008030, lsb := 0, width := 8, acc := .ro, rst := 0 }
def R.FLOW.AMP.AMP_UP : Fld :=
  { addr := 0x48008030, lsb := 8, width := 8, acc := .ro, rst := 0 }
def R.FLOW.LOOP_STATE.THR_DN : Fld :=
  { addr := 0x48008034, lsb := 0, width := 8, acc := .rw, rst := 50 }
def R.FLOW.LOOP_STATE.THR_UP : Fld :=
  { addr := 0x48008034, lsb := 8, width := 8, acc := .rw, rst := 50 }
def R.FLOW.CAL.FOSC_CNT : Fld :=
  { addr := 0x48008040, lsb := 0, width := 16, acc := .ro, rst := 0 }
def R.FLOW.MEAN_DN.TOF : Fld :=
  { addr := 0x48008020, lsb := 0, width := 32, acc := .ro, rst := 0 }
def R.FLOW.TOF_EXP_DN.TOF : Fld :=
  { addr := 0x48008038, lsb := 0, width := 32, acc := .rw, rst := 0 }
def R.FLOW.MEAN_UP.TOF : Fld :=
  { addr := 0x48008024, lsb := 0, width := 32, acc := .ro, rst := 0 }
def R.FLOW.TOF_EXP_UP.TOF : Fld :=
  { addr := 0x4800803C, lsb := 0, width := 32, acc := .rw, rst := 0 }

/-! ### TOUCH (Tables TTD-4) -/

def R.TOUCH.CFG.EN : Fld :=
  { addr := 0x48009000, lsb := 0, width := 4, acc := .rwc, rst := 0 }
def R.TOUCH.CFG.IDLE_INT : Fld :=
  { addr := 0x48009000, lsb := 8, width := 8, acc := .rwc, rst := 10 }
def R.TOUCH.CFG.FAST_INT : Fld :=
  { addr := 0x48009000, lsb := 16, width := 8, acc := .rwc, rst := 2 }
def R.TOUCH.CFG.DEB : Fld :=
  { addr := 0x48009000, lsb := 24, width := 3, acc := .rwc, rst := 2 }
def R.TOUCH.CFG.IE : Fld :=
  { addr := 0x48009000, lsb := 28, width := 1, acc := .rwc, rst := 1 }
def R.TOUCH.THR.ON_THR : Fld :=
  { addr := 0x48009004, lsb := 0, width := 12, acc := .rwc, rst := 300 }
def R.TOUCH.THR.OFF_THR : Fld :=
  { addr := 0x48009004, lsb := 16, width := 12, acc := .rwc, rst := 150 }
def R.TOUCH.THR2.NEG_THR : Fld :=
  { addr := 0x48009008, lsb := 0, width := 12, acc := .rwc, rst := 200 }
def R.TOUCH.THR2.TRACK_K : Fld :=
  { addr := 0x48009008, lsb := 16, width := 4, acc := .rwc, rst := 4 }
def R.TOUCH.THR2.STUCK_STEP : Fld :=
  { addr := 0x48009008, lsb := 24, width := 4, acc := .rwc, rst := 1 }
def R.TOUCH.MAX_ON.SEC : Fld :=
  { addr := 0x4800900C, lsb := 0, width := 12, acc := .rwc, rst := 30 }
def R.TOUCH.STATUS.STATE : Fld :=
  { addr := 0x48009010, lsb := 0, width := 8, acc := .ro, rst := 0 }
def R.TOUCH.STATUS.PRESS : Fld :=
  { addr := 0x48009010, lsb := 8, width := 4, acc := .w1c, rst := 0 }
def R.TOUCH.STATUS.RELEASE : Fld :=
  { addr := 0x48009010, lsb := 12, width := 4, acc := .w1c, rst := 0 }
def R.TOUCH.STATUS.STUCK : Fld :=
  { addr := 0x48009010, lsb := 16, width := 4, acc := .w1c, rst := 0 }
def R.TOUCH.STATUS.RECAL : Fld :=
  { addr := 0x48009010, lsb := 20, width := 4, acc := .w1c, rst := 0 }
def R.TOUCH.STATUS.OVR : Fld :=
  { addr := 0x48009010, lsb := 24, width := 4, acc := .ro, rst := 0 }
def R.TOUCH.PU.PU_TOUCH : Fld :=
  { addr := 0x48009014, lsb := 0, width := 4, acc := .ro, rst := 0 }
def R.TOUCH.PU.PU_LOW : Fld :=
  { addr := 0x48009014, lsb := 4, width := 4, acc := .ro, rst := 0 }
def R.TOUCH.PU.NOREF : Fld :=
  { addr := 0x48009014, lsb := 8, width := 4, acc := .ro, rst := 0 }
def R.TOUCH.CMD.RECAL : Fld :=
  { addr := 0x48009040, lsb := 0, width := 4, acc := .wo, rst := 0 }
def R.TOUCH.RAW.RAW (n : Nat) : Fld :=
  { addr := 0x48009020 + 4 * n, lsb := 0, width := 16, acc := .ro, rst := 0 }
def R.TOUCH.BASE.BASE (n : Nat) : Fld :=
  { addr := 0x48009030 + 4 * n, lsb := 0, width := 16, acc := .rw, rst := 0 }

/-! ### TAMPER (Tables TTD-5) -/

def R.TAMPER.CFG.MODE0 : Fld :=
  { addr := 0x4800A000, lsb := 0, width := 2, acc := .rwc, rst := 0 }
def R.TAMPER.CFG.MODE1 : Fld :=
  { addr := 0x4800A000, lsb := 2, width := 2, acc := .rwc, rst := 0 }
def R.TAMPER.CFG.INT : Fld :=
  { addr := 0x4800A000, lsb := 8, width := 3, acc := .rwc, rst := 7 }
def R.TAMPER.CFG.DEB : Fld :=
  { addr := 0x4800A000, lsb := 12, width := 3, acc := .rwc, rst := 3 }
def R.TAMPER.CFG.IE : Fld :=
  { addr := 0x4800A000, lsb := 16, width := 1, acc := .rwc, rst := 1 }
def R.TAMPER.STATUS.LEVEL0 : Fld :=
  { addr := 0x4800A004, lsb := 0, width := 1, acc := .ro, rst := 0 }
def R.TAMPER.STATUS.LEVEL1 : Fld :=
  { addr := 0x4800A004, lsb := 1, width := 1, acc := .ro, rst := 0 }
def R.TAMPER.STATUS.TRIG0 : Fld :=
  { addr := 0x4800A004, lsb := 4, width := 1, acc := .w1c, rst := 0 }
def R.TAMPER.STATUS.TRIG1 : Fld :=
  { addr := 0x4800A004, lsb := 5, width := 1, acc := .w1c, rst := 0 }
def R.TAMPER.COUNT.COUNT0 : Fld :=
  { addr := 0x4800A008, lsb := 0, width := 16, acc := .rw, rst := 0 }
def R.TAMPER.COUNT.COUNT1 : Fld :=
  { addr := 0x4800A008, lsb := 16, width := 16, acc := .rw, rst := 0 }
def R.TAMPER.TIME0.TIME : Fld :=
  { addr := 0x4800A00C, lsb := 0, width := 32, acc := .ro, rst := 0 }
def R.TAMPER.TIME1.TIME : Fld :=
  { addr := 0x4800A010, lsb := 0, width := 32, acc := .ro, rst := 0 }

/-! ### LCD (Tables TTD-6, PIN-3) -/

def R.LCD.CFG.EN : Fld :=
  { addr := 0x4800B000, lsb := 0, width := 1, acc := .rwc, rst := 0 }
def R.LCD.CFG.FRAME : Fld :=
  { addr := 0x4800B000, lsb := 1, width := 2, acc := .rwc, rst := 0 }
def R.LCD.CFG.CONTRAST : Fld :=
  { addr := 0x4800B000, lsb := 8, width := 6, acc := .rwc, rst := 20 }
def R.LCD.CFG.TCOMP : Fld :=
  { addr := 0x4800B000, lsb := 16, width := 4, acc := .rwc, rst := 6 }
def R.LCD.CFG.BLINK : Fld :=
  { addr := 0x4800B000, lsb := 24, width := 2, acc := .rwc, rst := 0 }
def R.LCD.CTRL.SWAP : Fld :=
  { addr := 0x4800B004, lsb := 0, width := 1, acc := .w1s, rst := 0 }
def R.LCD.STATUS.VLCD_MV : Fld :=
  { addr := 0x4800B008, lsb := 0, width := 12, acc := .ro, rst := 0 }
def R.LCD.STATUS.READY : Fld :=
  { addr := 0x4800B008, lsb := 12, width := 1, acc := .ro, rst := 0 }
def R.LCD.STATUS.SHED : Fld :=
  { addr := 0x4800B008, lsb := 13, width := 1, acc := .ro, rst := 0 }
def R.LCD.STATUS.PUMP_FAIL : Fld :=
  { addr := 0x4800B008, lsb := 16, width := 1, acc := .w1c, rst := 0 }
def R.LCD.SEG_COM.SEG (n : Nat) : Fld :=
  { addr := 0x4800B010 + 4 * n, lsb := 0, width := 28, acc := .rw, rst := 0 }
def R.LCD.BLINK_COM.BLINK (n : Nat) : Fld :=
  { addr := 0x4800B020 + 4 * n, lsb := 0, width := 28, acc := .rw, rst := 0 }
def R.LCD.PINSEL.SEL (n : Nat) : Fld :=
  { addr := 0x4800B040 + 4 * (n / 16), lsb := 2 * (n % 16), width := 2, acc := .rwc, rst := 0 }

/-! ### MSYSCTL (Tables LREC-6) -/

def R.MSYSCTL.EVQ_HEAD.CODE : Fld :=
  { addr := 0x48000080, lsb := 0, width := 16, acc := .ro, rst := 0 }
def R.MSYSCTL.EVQ_HEAD.LEN : Fld :=
  { addr := 0x48000080, lsb := 16, width := 4, acc := .ro, rst := 0 }
def R.MSYSCTL.EVQ_TIME.UTIME : Fld :=
  { addr := 0x48000084, lsb := 0, width := 32, acc := .ro, rst := 0 }
def R.MSYSCTL.EVQ_CTL.POP : Fld :=
  { addr := 0x48000088, lsb := 0, width := 1, acc := .wo, rst := 0 }
def R.MSYSCTL.EVQ_CTL.IE : Fld :=
  { addr := 0x48000088, lsb := 1, width := 1, acc := .rw, rst := 1 }
def R.MSYSCTL.EVQ_STATUS.COUNT : Fld :=
  { addr := 0x4800008C, lsb := 0, width := 5, acc := .ro, rst := 0 }
def R.MSYSCTL.EVQ_STATUS.OVERWRITTEN : Fld :=
  { addr := 0x4800008C, lsb := 8, width := 8, acc := .rw, rst := 0 }
def R.MSYSCTL.EVQ_STATUS.OVF : Fld :=
  { addr := 0x4800008C, lsb := 16, width := 1, acc := .w1c, rst := 0 }
def R.MSYSCTL.EVQ_DATA.DATA (n : Nat) : Fld :=
  { addr := 0x48000090 + 4 * n, lsb := 0, width := 32, acc := .ro, rst := 0 }

/-! ### RADIO (Tables RF-9) -/

def R.RADIO.FREQ_BASE.WORD : Fld :=
  { addr := 0x40008000, lsb := 0, width := 25, acc := .rwc, rst := 17522310, kind := .word }
def R.RADIO.CHAN.CHAN : Fld :=
  { addr := 0x40008004, lsb := 0, width := 8, acc := .rwc, rst := 0, kind := .word }
def R.RADIO.CHAN.SPACE : Fld :=
  { addr := 0x40008004, lsb := 16, width := 16, acc := .rwc, rst := 0, kind := .word }
def R.RADIO.FOFS.OFS : Fld :=
  { addr := 0x40008008, lsb := 0, width := 16, acc := .rwc, rst := 0, kind := .word }
def R.RADIO.MOD.TYPE : Fld :=
  { addr := 0x4000800C, lsb := 0, width := 2, acc := .rwc, rst := 1, kind := .word }
def R.RADIO.MOD.RATE : Fld :=
  { addr := 0x4000800C, lsb := 4, width := 19, acc := .rwc, rst := 100000, kind := .word }
def R.RADIO.MOD2.DEV : Fld :=
  { addr := 0x40008010, lsb := 0, width := 16, acc := .rwc, rst := 500, kind := .word }
def R.RADIO.MOD2.RXBW : Fld :=
  { addr := 0x40008010, lsb := 16, width := 4, acc := .rwc, rst := 6, kind := .word }
def R.RADIO.TXPWR.DBM : Fld :=
  { addr := 0x40008014, lsb := 0, width := 6, acc := .rwc, rst := 14, kind := .word }
def R.RADIO.EXTPA_CFG.EN : Fld :=
  { addr := 0x40008018, lsb := 0, width := 1, acc := .rwc, rst := 0, kind := .word }
def R.RADIO.EXTPA_CFG.LNA_USE : Fld :=
  { addr := 0x40008018, lsb := 1, width := 1, acc := .rwc, rst := 0, kind := .word }
def R.RADIO.EXTPA_CFG.POL : Fld :=
  { addr := 0x40008018, lsb := 4, width := 4, acc := .rwc, rst := 0, kind := .word }
def R.RADIO.EXTPA_CFG.MODE_TX : Fld :=
  { addr := 0x40008018, lsb := 8, width := 1, acc := .rwc, rst := 1, kind := .word }
def R.RADIO.EXTPA_CFG.MODE_BYP : Fld :=
  { addr := 0x40008018, lsb := 9, width := 1, acc := .rwc, rst := 0, kind := .word }
def R.RADIO.EXTPA_CFG.DRIVE : Fld :=
  { addr := 0x40008018, lsb := 16, width := 5, acc := .rwc, rst := 0, kind := .word }
def R.RADIO.EXTPA_TIME.SW_GAP : Fld :=
  { addr := 0x4000801C, lsb := 0, width := 4, acc := .rwc, rst := 5, kind := .word }
def R.RADIO.EXTPA_TIME.PA_LEAD : Fld :=
  { addr := 0x4000801C, lsb := 8, width := 4, acc := .rwc, rst := 15, kind := .word }
def R.RADIO.EXTPA_TIME.PA_LAG : Fld :=
  { addr := 0x4000801C, lsb := 16, width := 3, acc := .rwc, rst := 5, kind := .word }
def R.RADIO.EXTPA_TIME.LNA_LEAD : Fld :=
  { addr := 0x4000801C, lsb := 24, width := 4, acc := .rwc, rst := 5, kind := .word }
def R.RADIO.TEST.MODE : Fld :=
  { addr := 0x40008020, lsb := 0, width := 2, acc := .rw, rst := 0, kind := .word }
def R.RADIO.TEST.KEY : Fld :=
  { addr := 0x40008020, lsb := 8, width := 8, acc := .wo, rst := 0, kind := .word }
def R.RADIO.STATUS.STATE : Fld :=
  { addr := 0x40008030, lsb := 0, width := 3, acc := .ro, rst := 0, kind := .mirror }
def R.RADIO.STATUS.LOCKED : Fld :=
  { addr := 0x40008030, lsb := 3, width := 1, acc := .ro, rst := 0, kind := .mirror }
def R.RADIO.STATUS.CAL_VALID : Fld :=
  { addr := 0x40008030, lsb := 4, width := 1, acc := .ro, rst := 0, kind := .mirror }
def R.RADIO.STATUS.CAPPED : Fld :=
  { addr := 0x40008030, lsb := 5, width := 1, acc := .ro, rst := 0, kind := .mirror }
def R.RADIO.STATUS.EXT_BLOCKED : Fld :=
  { addr := 0x40008030, lsb := 6, width := 1, acc := .ro, rst := 0, kind := .mirror }
def R.RADIO.STATUS.BAND : Fld :=
  { addr := 0x40008030, lsb := 8, width := 2, acc := .ro, rst := 0, kind := .mirror }
def R.RADIO.STATUS.TEMP : Fld :=
  { addr := 0x40008030, lsb := 16, width := 8, acc := .ro, rst := 0, kind := .mirror }
def R.RADIO.EVENTS.UNLOCK : Fld :=
  { addr := 0x40008034, lsb := 0, width := 1, acc := .w1c, rst := 0, kind := .word }
def R.RADIO.EVENTS.CAL_FAIL : Fld :=
  { addr := 0x40008034, lsb := 1, width := 1, acc := .w1c, rst := 0, kind := .word }
def R.RADIO.EVENTS.HFXO_FAIL : Fld :=
  { addr := 0x40008034, lsb := 2, width := 1, acc := .w1c, rst := 0, kind := .word }
def R.RADIO.EVENTS.RANGE : Fld :=
  { addr := 0x40008034, lsb := 3, width := 1, acc := .w1c, rst := 0, kind := .word }
def R.RADIO.EVENTS.TEST_END : Fld :=
  { addr := 0x40008034, lsb := 4, width := 1, acc := .w1c, rst := 0, kind := .word }
def R.RADIO.EVENTS.TEST_WHY : Fld :=
  { addr := 0x40008034, lsb := 8, width := 3, acc := .ro, rst := 0, kind := .word }
def R.RADIO.RSSI.NOW : Fld :=
  { addr := 0x40008038, lsb := 0, width := 8, acc := .ro, rst := 255, kind := .mirror }
def R.RADIO.RSSI.LAST : Fld :=
  { addr := 0x40008038, lsb := 8, width := 8, acc := .ro, rst := 255, kind := .mirror }
def R.RADIO.COUNTS.CALS : Fld :=
  { addr := 0x4000803C, lsb := 0, width := 16, acc := .rw, rst := 0, kind := .word }
def R.RADIO.COUNTS.UNLOCKS : Fld :=
  { addr := 0x4000803C, lsb := 16, width := 16, acc := .rw, rst := 0, kind := .word }

/-! ### TUNER (Tables RF-10) -/

def R.TUNER.CFG.EN : Fld :=
  { addr := 0x4000A000, lsb := 0, width := 1, acc := .rwc, rst := 1, kind := .word }
def R.TUNER.CFG.AUTO : Fld :=
  { addr := 0x4000A000, lsb := 1, width := 1, acc := .rwc, rst := 1, kind := .word }
def R.TUNER.CFG.RL_THR : Fld :=
  { addr := 0x4000A000, lsb := 4, width := 8, acc := .rwc, rst := 20, kind := .word }
def R.TUNER.CFG.FAIL_THR : Fld :=
  { addr := 0x4000A000, lsb := 12, width := 8, acc := .rwc, rst := 8, kind := .word }
def R.TUNER.CFG.MIS_N : Fld :=
  { addr := 0x4000A000, lsb := 20, width := 4, acc := .rwc, rst := 2, kind := .word }
def R.TUNER.CFG.MAX_PROBES : Fld :=
  { addr := 0x4000A000, lsb := 24, width := 6, acc := .rwc, rst := 48, kind := .word }
def R.TUNER.CFG2.RETUNE_MIN : Fld :=
  { addr := 0x4000A004, lsb := 0, width := 8, acc := .rwc, rst := 60, kind := .word }
def R.TUNER.CFG2.INIT_CS : Fld :=
  { addr := 0x4000A004, lsb := 8, width := 6, acc := .rwc, rst := 32, kind := .word }
def R.TUNER.CFG2.INIT_CP : Fld :=
  { addr := 0x4000A004, lsb := 16, width := 6, acc := .rwc, rst := 32, kind := .word }
def R.TUNER.CMD.RETUNE : Fld :=
  { addr := 0x4000A008, lsb := 0, width := 1, acc := .wo, rst := 0, kind := .word }
def R.TUNER.CMD.FORGET : Fld :=
  { addr := 0x4000A008, lsb := 1, width := 1, acc := .wo, rst := 0, kind := .word }
def R.TUNER.STATUS.CS : Fld :=
  { addr := 0x4000A00C, lsb := 0, width := 6, acc := .ro, rst := 0, kind := .mirror }
def R.TUNER.STATUS.CP : Fld :=
  { addr := 0x4000A00C, lsb := 8, width := 6, acc := .ro, rst := 0, kind := .mirror }
def R.TUNER.STATUS.DIRTY : Fld :=
  { addr := 0x4000A00C, lsb := 16, width := 1, acc := .ro, rst := 0, kind := .mirror }
def R.TUNER.STATUS.HELD : Fld :=
  { addr := 0x4000A00C, lsb := 17, width := 1, acc := .ro, rst := 0, kind := .mirror }
def R.TUNER.STATUS.BAND : Fld :=
  { addr := 0x4000A00C, lsb := 18, width := 2, acc := .ro, rst := 0, kind := .mirror }
def R.TUNER.STATUS.MIS_RUN : Fld :=
  { addr := 0x4000A00C, lsb := 20, width := 4, acc := .ro, rst := 0, kind := .mirror }
def R.TUNER.STATUS.LAST_RL : Fld :=
  { addr := 0x4000A00C, lsb := 24, width := 8, acc := .ro, rst := 0, kind := .mirror }
def R.TUNER.EVENTS.RETUNED : Fld :=
  { addr := 0x4000A010, lsb := 0, width := 1, acc := .w1c, rst := 0, kind := .word }
def R.TUNER.EVENTS.FAIL : Fld :=
  { addr := 0x4000A010, lsb := 1, width := 1, acc := .w1c, rst := 0, kind := .word }
def R.TUNER.EVENTS.MISMATCH : Fld :=
  { addr := 0x4000A010, lsb := 2, width := 1, acc := .w1c, rst := 0, kind := .word }
def R.TUNER.COUNTS.RETUNES : Fld :=
  { addr := 0x4000A014, lsb := 0, width := 16, acc := .rw, rst := 0, kind := .word }
def R.TUNER.COUNTS.MISMATCHES : Fld :=
  { addr := 0x4000A014, lsb := 16, width := 16, acc := .rw, rst := 0, kind := .word }
def R.TUNER.BAND.CS (n : Nat) : Fld :=
  { addr := 0x4000A020 + 4 * n, lsb := 0, width := 6, acc := .rw, rst := 32, kind := .word }
def R.TUNER.BAND.CP (n : Nat) : Fld :=
  { addr := 0x4000A020 + 4 * n, lsb := 8, width := 6, acc := .rw, rst := 32, kind := .word }
def R.TUNER.BAND.VALID (n : Nat) : Fld :=
  { addr := 0x4000A020 + 4 * n, lsb := 16, width := 1, acc := .rw, rst := 0, kind := .word }
def R.TUNER.BAND.BEST_RL (n : Nat) : Fld :=
  { addr := 0x4000A020 + 4 * n, lsb := 24, width := 8, acc := .ro, rst := 0, kind := .word }

/-! ### LINK (Tables LINK-8, WMB-3, MESH-10, QUE-4, WMB-4) -/

def R.LINK.CTRL.EN : Fld :=
  { addr := 0x40009000, lsb := 0, width := 1, acc := .rwc, rst := 1, kind := .word }
def R.LINK.CTRL.STOOK_RX : Fld :=
  { addr := 0x40009000, lsb := 1, width := 1, acc := .rwc, rst := 1, kind := .word }
def R.LINK.CTRL.WMBUS_RX : Fld :=
  { addr := 0x40009000, lsb := 2, width := 1, acc := .rwc, rst := 0, kind := .word }
def R.LINK.TXCFG.RETRY_MAX : Fld :=
  { addr := 0x40009004, lsb := 0, width := 3, acc := .rwc, rst := 3, kind := .word }
def R.LINK.TXCFG.BO_MIN : Fld :=
  { addr := 0x40009004, lsb := 4, width := 3, acc := .rwc, rst := 2, kind := .word }
def R.LINK.TXCFG.BO_MAX : Fld :=
  { addr := 0x40009004, lsb := 8, width := 3, acc := .rwc, rst := 5, kind := .word }
def R.LINK.TXCFG.BO_SLOT : Fld :=
  { addr := 0x40009004, lsb := 12, width := 8, acc := .rwc, rst := 20, kind := .word }
def R.LINK.TXCFG.DUTY_WAIT_MAX : Fld :=
  { addr := 0x40009004, lsb := 24, width := 6, acc := .rwc, rst := 60, kind := .word }
def R.LINK.ACKCFG.EN : Fld :=
  { addr := 0x40009008, lsb := 0, width := 1, acc := .rwc, rst := 1, kind := .word }
def R.LINK.ACKCFG.EXT : Fld :=
  { addr := 0x40009008, lsb := 1, width := 1, acc := .rwc, rst := 0, kind := .word }
def R.LINK.ACKCFG.DBM : Fld :=
  { addr := 0x40009008, lsb := 8, width := 6, acc := .rwc, rst := 14, kind := .word }
def R.LINK.ACKCFG.ACK_RSV : Fld :=
  { addr := 0x40009008, lsb := 16, width := 8, acc := .rwc, rst := 20, kind := .word }
def R.LINK.STOOK.PRE : Fld :=
  { addr := 0x4000900C, lsb := 0, width := 8, acc := .rwc, rst := 8, kind := .word }
def R.LINK.STOOK.WHITEN : Fld :=
  { addr := 0x4000900C, lsb := 8, width := 1, acc := .rwc, rst := 1, kind := .word }
def R.LINK.GLEAN.EN : Fld :=
  { addr := 0x40009010, lsb := 0, width := 1, acc := .rwc, rst := 0, kind := .word }
def R.LINK.GLEAN.CONT : Fld :=
  { addr := 0x40009010, lsb := 1, width := 1, acc := .rwc, rst := 0, kind := .word }
def R.LINK.GLEAN.WIN : Fld :=
  { addr := 0x40009010, lsb := 8, width := 8, acc := .rwc, rst := 80, kind := .word }
def R.LINK.GLEAN_INT.INT : Fld :=
  { addr := 0x40009014, lsb := 0, width := 16, acc := .rwc, rst := 2000, kind := .word }
def R.LINK.GLEAN_INT.PHASE : Fld :=
  { addr := 0x40009014, lsb := 16, width := 16, acc := .rwc, rst := 0, kind := .word }
def R.LINK.DUP.TTL : Fld :=
  { addr := 0x40009018, lsb := 0, width := 8, acc := .rwc, rst := 60, kind := .word }
def R.LINK.STATUS.STATE : Fld :=
  { addr := 0x40009030, lsb := 0, width := 3, acc := .ro, rst := 0, kind := .mirror }
def R.LINK.STATUS.TXQ : Fld :=
  { addr := 0x40009030, lsb := 3, width := 4, acc := .ro, rst := 0, kind := .mirror }
def R.LINK.STATUS.SLOT : Fld :=
  { addr := 0x40009030, lsb := 8, width := 5, acc := .ro, rst := 0, kind := .mirror }
def R.LINK.STATUS.ACTIVE : Fld :=
  { addr := 0x40009030, lsb := 13, width := 1, acc := .ro, rst := 0, kind := .mirror }
def R.LINK.STATUS.FWD_OFF : Fld :=
  { addr := 0x40009030, lsb := 14, width := 1, acc := .ro, rst := 0, kind := .mirror }
def R.LINK.STATUS.ALARM_DAY : Fld :=
  { addr := 0x40009030, lsb := 15, width := 1, acc := .ro, rst := 0, kind := .mirror }
def R.LINK.STATUS.WAIT_S : Fld :=
  { addr := 0x40009030, lsb := 16, width := 16, acc := .ro, rst := 0, kind := .mirror }
def R.LINK.DONE.SLOT : Fld :=
  { addr := 0x40009034, lsb := 0, width := 5, acc := .ro, rst := 0, kind := .word }
def R.LINK.DONE.GIVER : Fld :=
  { addr := 0x40009034, lsb := 5, width := 3, acc := .ro, rst := 0, kind := .word }
def R.LINK.DONE.RESULT : Fld :=
  { addr := 0x40009034, lsb := 8, width := 4, acc := .ro, rst := 0, kind := .word }
def R.LINK.DONE.ATTEMPTS : Fld :=
  { addr := 0x40009034, lsb := 12, width := 4, acc := .ro, rst := 0, kind := .word }
def R.LINK.DONE.VALID : Fld :=
  { addr := 0x40009034, lsb := 31, width := 1, acc := .ro, rst := 0, kind := .word }
def R.LINK.DONE_CTL.POP : Fld :=
  { addr := 0x40009038, lsb := 0, width := 1, acc := .wo, rst := 0, kind := .word }
def R.LINK.DONE_CTL.COUNT : Fld :=
  { addr := 0x40009038, lsb := 8, width := 4, acc := .ro, rst := 0, kind := .word }
def R.LINK.DONE_CTL.OVF : Fld :=
  { addr := 0x40009038, lsb := 12, width := 1, acc := .w1c, rst := 0, kind := .word }
def R.LINK.IRQ.TX_DONE : Fld :=
  { addr := 0x4000903C, lsb := 0, width := 1, acc := .w1c, rst := 0, kind := .word }
def R.LINK.IRQ.RX_FRAME : Fld :=
  { addr := 0x4000903C, lsb := 1, width := 1, acc := .w1c, rst := 0, kind := .word }
def R.LINK.IRQ.RX_OVF : Fld :=
  { addr := 0x4000903C, lsb := 2, width := 1, acc := .w1c, rst := 0, kind := .word }
def R.LINK.IRQ.ACK_SKIP : Fld :=
  { addr := 0x4000903C, lsb := 3, width := 1, acc := .w1c, rst := 0, kind := .word }
def R.LINK.IRQ.DUTY_WAIT : Fld :=
  { addr := 0x4000903C, lsb := 4, width := 1, acc := .w1c, rst := 0, kind := .word }
def R.LINK.IRQ.QUEUE_FULL : Fld :=
  { addr := 0x4000903C, lsb := 5, width := 1, acc := .w1c, rst := 0, kind := .word }
def R.LINK.IRQ.ALARM_SENT : Fld :=
  { addr := 0x4000903C, lsb := 6, width := 1, acc := .w1c, rst := 0, kind := .word }
def R.LINK.IRQ.SHED : Fld :=
  { addr := 0x4000903C, lsb := 7, width := 1, acc := .w1c, rst := 0, kind := .word }
def R.LINK.IRQ_EN.EN : Fld :=
  { addr := 0x40009040, lsb := 0, width := 8, acc := .rw, rst := 0, kind := .word }
def R.LINK.DUTY_SEL.SUB : Fld :=
  { addr := 0x40009044, lsb := 0, width := 3, acc := .rw, rst := 0, kind := .word }
def R.LINK.DUTY_USED.USED : Fld :=
  { addr := 0x40009048, lsb := 0, width := 19, acc := .ro, rst := 0, kind := .mirror }
def R.LINK.DUTY_USED.LIMIT : Fld :=
  { addr := 0x40009048, lsb := 20, width := 12, acc := .ro, rst := 0, kind := .mirror }
def R.LINK.COUNT0.TX_ATTEMPTS : Fld :=
  { addr := 0x40009070, lsb := 0, width := 16, acc := .rw, rst := 0, kind := .word }
def R.LINK.COUNT0.RETRIES : Fld :=
  { addr := 0x40009070, lsb := 16, width := 16, acc := .rw, rst := 0, kind := .word }
def R.LINK.COUNT1.RX_OK : Fld :=
  { addr := 0x40009074, lsb := 0, width := 16, acc := .rw, rst := 0, kind := .word }
def R.LINK.COUNT1.RX_FCS : Fld :=
  { addr := 0x40009074, lsb := 16, width := 16, acc := .rw, rst := 0, kind := .word }
def R.LINK.COUNT2.RX_DUP : Fld :=
  { addr := 0x40009078, lsb := 0, width := 16, acc := .rw, rst := 0, kind := .word }
def R.LINK.COUNT2.RX_DROP : Fld :=
  { addr := 0x40009078, lsb := 16, width := 16, acc := .rw, rst := 0, kind := .word }
def R.LINK.COUNT3.ACKS_SENT : Fld :=
  { addr := 0x4000907C, lsb := 0, width := 16, acc := .rw, rst := 0, kind := .word }
def R.LINK.COUNT3.ACK_SKIP : Fld :=
  { addr := 0x4000907C, lsb := 16, width := 16, acc := .rw, rst := 0, kind := .word }
def R.LINK.RXDATA.DATA : Fld :=
  { addr := 0x40009080, lsb := 0, width := 32, acc := .ro, rst := 0, kind := .word }
def R.LINK.RXLEVEL.BYTES : Fld :=
  { addr := 0x40009084, lsb := 0, width := 12, acc := .ro, rst := 0, kind := .mirror }
def R.LINK.WMB_CFG.RX_MODE : Fld :=
  { addr := 0x40009090, lsb := 0, width := 4, acc := .rwc, rst := 4, kind := .word }
def R.LINK.WMB_CFG.LISTEN : Fld :=
  { addr := 0x40009090, lsb := 4, width := 1, acc := .rwc, rst := 0, kind := .word }
def R.LINK.WMB_CFG.FILTER : Fld :=
  { addr := 0x40009090, lsb := 5, width := 1, acc := .rwc, rst := 1, kind := .word }
def R.LINK.WMB_CFG.RX_NRATE : Fld :=
  { addr := 0x40009090, lsb := 6, width := 2, acc := .rwc, rst := 1, kind := .word }
def R.LINK.WMB_ADDR0.M : Fld :=
  { addr := 0x40009094, lsb := 0, width := 16, acc := .rwc, rst := 0, kind := .word }
def R.LINK.WMB_ADDR0.VER : Fld :=
  { addr := 0x40009094, lsb := 16, width := 8, acc := .rwc, rst := 0, kind := .word }
def R.LINK.WMB_ADDR0.TYPE : Fld :=
  { addr := 0x40009094, lsb := 24, width := 8, acc := .rwc, rst := 0, kind := .word }
def R.LINK.WMB_ADDR1.ID : Fld :=
  { addr := 0x40009098, lsb := 0, width := 32, acc := .rwc, rst := 0, kind := .word }
def R.LINK.WMB_ACC.ACC : Fld :=
  { addr := 0x4000909C, lsb := 0, width := 8, acc := .rw, rst := 0, kind := .word }
def R.LINK.WMB_MCNT.MCNT : Fld :=
  { addr := 0x400090A0, lsb := 0, width := 32, acc := .rw, rst := 0, kind := .word }
def R.LINK.WMB_STAT.MCNT_UNSET : Fld :=
  { addr := 0x400090A4, lsb := 0, width := 1, acc := .ro, rst := 1, kind := .word }
def R.LINK.WMB_STAT.MCNT_END : Fld :=
  { addr := 0x400090A4, lsb := 1, width := 1, acc := .w1c, rst := 0, kind := .word }
def R.LINK.WMB_STAT.KEY_REF : Fld :=
  { addr := 0x400090A4, lsb := 2, width := 1, acc := .w1c, rst := 0, kind := .word }
def R.LINK.MESH_ID.STEAD : Fld :=
  { addr := 0x400090C0, lsb := 0, width := 16, acc := .rwc, rst := 65535, kind := .word }
def R.LINK.MESH_ID.ADDR : Fld :=
  { addr := 0x400090C0, lsb := 16, width := 16, acc := .rwc, rst := 65534, kind := .word }
def R.LINK.MESH_ROLE.ROLE : Fld :=
  { addr := 0x400090C4, lsb := 0, width := 2, acc := .rwc, rst := 0, kind := .word }
def R.LINK.MESH_ROLE.CID : Fld :=
  { addr := 0x400090C4, lsb := 4, width := 2, acc := .rwc, rst := 0, kind := .word }
def R.LINK.MESH_ROLE.MAX_HOPS : Fld :=
  { addr := 0x400090C4, lsb := 8, width := 4, acc := .rwc, rst := 8, kind := .word }
def R.LINK.MESH_ROLE.COMPAT : Fld :=
  { addr := 0x400090C4, lsb := 16, width := 16, acc := .rwc, rst := 0, kind := .word }
def R.LINK.MESH_BCN.BEACON_INT : Fld :=
  { addr := 0x400090C8, lsb := 0, width := 12, acc := .rwc, rst := 180, kind := .word }
def R.LINK.MESH_BCN.PARENT_TTL : Fld :=
  { addr := 0x400090C8, lsb := 12, width := 4, acc := .rwc, rst := 4, kind := .word }
def R.LINK.MESH_BCN.PARENT_RSSI : Fld :=
  { addr := 0x400090C8, lsb := 16, width := 8, acc := .rwc, rst := 210, kind := .word }
def R.LINK.MESH_BCN.RESCUE_INT : Fld :=
  { addr := 0x400090C8, lsb := 24, width := 8, acc := .rwc, rst := 24, kind := .word }
def R.LINK.MESH_TIME.GUARD : Fld :=
  { addr := 0x400090CC, lsb := 0, width := 5, acc := .rwc, rst := 15, kind := .word }
def R.LINK.MESH_TIME.DEADBAND : Fld :=
  { addr := 0x400090CC, lsb := 8, width := 8, acc := .rwc, rst := 2, kind := .word }
def R.LINK.MESH_TIME.DESC_TTL : Fld :=
  { addr := 0x400090CC, lsb := 16, width := 16, acc := .rwc, rst := 1440, kind := .word }
def R.LINK.MESH_STATE.RING : Fld :=
  { addr := 0x400090D0, lsb := 0, width := 8, acc := .ro, rst := 255, kind := .mirror }
def R.LINK.MESH_STATE.NPAR : Fld :=
  { addr := 0x400090D0, lsb := 8, width := 2, acc := .ro, rst := 0, kind := .mirror }
def R.LINK.MESH_STATE.NO_PARENT : Fld :=
  { addr := 0x400090D0, lsb := 10, width := 1, acc := .ro, rst := 1, kind := .mirror }
def R.LINK.MESH_STATE.RELAYING : Fld :=
  { addr := 0x400090D0, lsb := 11, width := 1, acc := .ro, rst := 0, kind := .mirror }
def R.LINK.MESH_STATE.COMPAT_OUT : Fld :=
  { addr := 0x400090D0, lsb := 12, width := 1, acc := .ro, rst := 0, kind := .mirror }
def R.LINK.MESH_STATE.CFG_BEHIND : Fld :=
  { addr := 0x400090D0, lsb := 13, width := 1, acc := .ro, rst := 0, kind := .mirror }
def R.LINK.MESH_STATE.TIME_SYNC : Fld :=
  { addr := 0x400090D0, lsb := 14, width := 1, acc := .ro, rst := 0, kind := .mirror }
def R.LINK.MESH_STATE.ROOT_CID : Fld :=
  { addr := 0x400090D0, lsb := 16, width := 2, acc := .ro, rst := 0, kind := .mirror }
def R.LINK.MESH_STATE.TQ : Fld :=
  { addr := 0x400090D0, lsb := 24, width := 8, acc := .ro, rst := 255, kind := .mirror }
def R.LINK.MESH_GEN.GEN : Fld :=
  { addr := 0x400090E0, lsb := 0, width := 32, acc := .rw, rst := 0, kind := .word }
def R.LINK.MESH_CFG.GEN_CID : Fld :=
  { addr := 0x400090E4, lsb := 0, width := 2, acc := .ro, rst := 0, kind := .word }
def R.LINK.MESH_COMPAT.MIN : Fld :=
  { addr := 0x400090E8, lsb := 0, width := 16, acc := .ro, rst := 0, kind := .word }
def R.LINK.MESH_COMPAT.MAX : Fld :=
  { addr := 0x400090E8, lsb := 16, width := 16, acc := .ro, rst := 65535, kind := .word }
def R.LINK.TIME_BUDGET.USED_MS : Fld :=
  { addr := 0x400090EC, lsb := 0, width := 12, acc := .ro, rst := 0, kind := .mirror }
def R.LINK.TIME_LAST.STEP : Fld :=
  { addr := 0x400090F0, lsb := 0, width := 32, acc := .ro, rst := 0, kind := .word }
def R.LINK.MESH_COUNT.FWD : Fld :=
  { addr := 0x400090F4, lsb := 0, width := 16, acc := .rw, rst := 0, kind := .word }
def R.LINK.MESH_COUNT.LOOP : Fld :=
  { addr := 0x400090F4, lsb := 16, width := 16, acc := .rw, rst := 0, kind := .word }
def R.LINK.MESH_EVT.RING_CHG : Fld :=
  { addr := 0x400090F8, lsb := 0, width := 1, acc := .w1c, rst := 0, kind := .word }
def R.LINK.MESH_EVT.NO_PARENT : Fld :=
  { addr := 0x400090F8, lsb := 1, width := 1, acc := .w1c, rst := 0, kind := .word }
def R.LINK.MESH_EVT.CFG_NEW : Fld :=
  { addr := 0x400090F8, lsb := 2, width := 1, acc := .w1c, rst := 0, kind := .word }
def R.LINK.MESH_EVT.CFG_CONFLICT : Fld :=
  { addr := 0x400090F8, lsb := 3, width := 1, acc := .w1c, rst := 0, kind := .word }
def R.LINK.MESH_EVT.COMPAT_OUT : Fld :=
  { addr := 0x400090F8, lsb := 4, width := 1, acc := .w1c, rst := 0, kind := .word }
def R.LINK.MESH_EVT.TIME_APPLIED : Fld :=
  { addr := 0x400090F8, lsb := 5, width := 1, acc := .w1c, rst := 0, kind := .word }
def R.LINK.MESH_EVT.TIME_REFUSED : Fld :=
  { addr := 0x400090F8, lsb := 6, width := 1, acc := .w1c, rst := 0, kind := .word }
def R.LINK.MESH_EVT.AUTH_FAIL : Fld :=
  { addr := 0x400090F8, lsb := 7, width := 1, acc := .w1c, rst := 0, kind := .word }
def R.LINK.FWD_STAT.DEPTH : Fld :=
  { addr := 0x40009088, lsb := 0, width := 5, acc := .ro, rst := 0, kind := .word }
def R.LINK.FWD_STAT.PEAK : Fld :=
  { addr := 0x40009088, lsb := 8, width := 5, acc := .rw, rst := 0, kind := .word }
def R.LINK.FWD_STAT.DROPPED : Fld :=
  { addr := 0x40009088, lsb := 16, width := 16, acc := .rw, rst := 0, kind := .word }
def R.LINK.RX_STAT.PEAK : Fld :=
  { addr := 0x4000908C, lsb := 0, width := 12, acc := .rw, rst := 0, kind := .word }
def R.LINK.RX_STAT.REFUSED : Fld :=
  { addr := 0x4000908C, lsb := 16, width := 16, acc := .rw, rst := 0, kind := .word }
def R.LINK.ALARM_DATA.DATA (n : Nat) : Fld :=
  { addr := 0x4000901C + 4 * n, lsb := 0, width := 32, acc := .rw, rst := 0, kind := .word }
def R.LINK.DUTY_CAP.CAP (n : Nat) : Fld :=
  { addr := 0x40009050 + 4 * n, lsb := 0, width := 12, acc := .rwc, rst := [36, 360, 360, 36, 3600, 360, 360, 36].getD n 0
    kind := .word }
def R.LINK.WIN_S.START : Fld :=
  { addr := 0x400090A8, lsb := 0, width := 16, acc := .rwc, rst := 60, kind := .word }
def R.LINK.WIN_S.LEN : Fld :=
  { addr := 0x400090A8, lsb := 16, width := 16, acc := .rwc, rst := 940, kind := .word }
def R.LINK.WIN_T.START : Fld :=
  { addr := 0x400090AC, lsb := 0, width := 16, acc := .rwc, rst := 40, kind := .word }
def R.LINK.WIN_T.LEN : Fld :=
  { addr := 0x400090AC, lsb := 16, width := 16, acc := .rwc, rst := 20, kind := .word }
def R.LINK.WIN_C.START : Fld :=
  { addr := 0x400090B0, lsb := 0, width := 16, acc := .rwc, rst := 1990, kind := .word }
def R.LINK.WIN_C.LEN : Fld :=
  { addr := 0x400090B0, lsb := 16, width := 16, acc := .rwc, rst := 20, kind := .word }
def R.LINK.WIN_CS.START : Fld :=
  { addr := 0x400090B4, lsb := 0, width := 16, acc := .rwc, rst := 19990, kind := .word }
def R.LINK.WIN_CS.LEN : Fld :=
  { addr := 0x400090B4, lsb := 16, width := 16, acc := .rwc, rst := 20, kind := .word }
def R.LINK.WIN_N.START : Fld :=
  { addr := 0x400090B8, lsb := 0, width := 16, acc := .rwc, rst := 40000, kind := .word }
def R.LINK.WIN_N.LEN : Fld :=
  { addr := 0x400090B8, lsb := 16, width := 16, acc := .rwc, rst := 800, kind := .word }
def R.LINK.PARENT.ADDR (n : Nat) : Fld :=
  { addr := 0x400090D4 + 4 * n, lsb := 0, width := 16, acc := .ro, rst := 65534, kind := .word }
def R.LINK.PARENT.RSSI (n : Nat) : Fld :=
  { addr := 0x400090D4 + 4 * n, lsb := 16, width := 8, acc := .ro, rst := 0, kind := .word }
def R.LINK.PARENT.AGE (n : Nat) : Fld :=
  { addr := 0x400090D4 + 4 * n, lsb := 24, width := 8, acc := .ro, rst := 0, kind := .word }

/-! ### DICT (Tables QUE-4, DICT-10) -/

def R.DICT.QSTAT.DEPTH : Fld :=
  { addr := 0x400070F0, lsb := 0, width := 3, acc := .ro, rst := 0 }
def R.DICT.QSTAT.BUSY_PEND : Fld :=
  { addr := 0x400070F0, lsb := 3, width := 1, acc := .ro, rst := 0 }
def R.DICT.QSTAT.BUSY_LOST : Fld :=
  { addr := 0x400070F0, lsb := 8, width := 8, acc := .rw, rst := 0 }
def R.DICT.QSTAT.BUSY_SENT : Fld :=
  { addr := 0x400070F0, lsb := 16, width := 16, acc := .rw, rst := 0 }
def R.DICT.CTRL.EN : Fld :=
  { addr := 0x40007000, lsb := 0, width := 1, acc := .rwc, rst := 1 }
def R.DICT.CFG.CB_TIMEOUT : Fld :=
  { addr := 0x40007004, lsb := 0, width := 8, acc := .rwc, rst := 20 }
def R.DICT.CFG.BUSY_HOLD : Fld :=
  { addr := 0x40007004, lsb := 8, width := 16, acc := .rwc, rst := 30 }
def R.DICT.DESC_BASE.ADDR : Fld :=
  { addr := 0x40007008, lsb := 0, width := 32, acc := .rwc, rst := 0 }
def R.DICT.DESC_COUNT.COUNT : Fld :=
  { addr := 0x4000700C, lsb := 0, width := 11, acc := .rwc, rst := 0 }
def R.DICT.STATUS.STATE : Fld :=
  { addr := 0x40007010, lsb := 0, width := 3, acc := .ro, rst := 0 }
def R.DICT.STATUS.DESC_BAD : Fld :=
  { addr := 0x40007010, lsb := 3, width := 1, acc := .ro, rst := 0 }
def R.DICT.STATUS.WATCHED : Fld :=
  { addr := 0x40007010, lsb := 8, width := 4, acc := .ro, rst := 0 }
def R.DICT.STATUS.DIVERGED : Fld :=
  { addr := 0x40007010, lsb := 12, width := 8, acc := .ro, rst := 0 }
def R.DICT.FLOOR_STAT.UNSET : Fld :=
  { addr := 0x40007034, lsb := 0, width := 5, acc := .ro, rst := 31, kind := .mirror }
def R.DICT.PDIRTY.BITS : Fld :=
  { addr := 0x40007040, lsb := 0, width := 32, acc := .w1c, rst := 0 }
def R.DICT.COUNTS.REQS : Fld :=
  { addr := 0x40007044, lsb := 0, width := 16, acc := .rw, rst := 0 }
def R.DICT.COUNTS.AUTH_FAIL : Fld :=
  { addr := 0x40007044, lsb := 16, width := 8, acc := .rw, rst := 0 }
def R.DICT.COUNTS.REPLAY : Fld :=
  { addr := 0x40007044, lsb := 24, width := 8, acc := .rw, rst := 0 }
def R.DICT.COUNTS2.PENDINGS : Fld :=
  { addr := 0x40007048, lsb := 0, width := 16, acc := .rw, rst := 0 }
def R.DICT.COUNTS2.DIVERGES : Fld :=
  { addr := 0x40007048, lsb := 16, width := 16, acc := .rw, rst := 0 }
def R.DICT.FLOOR.FC (n : Nat) : Fld :=
  { addr := 0x40007020 + 4 * n, lsb := 0, width := 32, acc := .rw, rst := 0, kind := .mirror }

/-! ### DMA (Tables QUE-4, DMA-4) -/

def R.DMA.RING_STAT.DROPPED : Fld :=
  { addr := 0x400040F0, lsb := 0, width := 16, acc := .rw, rst := 0 }
def R.DMA.IRQ.DONE : Fld :=
  { addr := 0x400040C0, lsb := 0, width := 8, acc := .w1c, rst := 0 }
def R.DMA.IRQ.ERR : Fld :=
  { addr := 0x400040C0, lsb := 8, width := 8, acc := .w1c, rst := 0 }
def R.DMA.IRQ.RING : Fld :=
  { addr := 0x400040C0, lsb := 16, width := 1, acc := .w1c, rst := 0 }
def R.DMA.IRQ.RING_LOST : Fld :=
  { addr := 0x400040C0, lsb := 17, width := 1, acc := .w1c, rst := 0 }
def R.DMA.IRQ_EN.EN : Fld :=
  { addr := 0x400040C4, lsb := 0, width := 18, acc := .rw, rst := 0 }
def R.DMA.CTRL.CH0_RING : Fld :=
  { addr := 0x400040D0, lsb := 0, width := 1, acc := .rwc, rst := 1 }
def R.DMA.RING_BASE.ADDR : Fld :=
  { addr := 0x400040E0, lsb := 0, width := 32, acc := .rwc, rst := 536899584 }
def R.DMA.RING_WORDS.WORDS : Fld :=
  { addr := 0x400040E4, lsb := 0, width := 14, acc := .rwc, rst := 1024 }
def R.DMA.RING_WR.WR : Fld :=
  { addr := 0x400040E8, lsb := 0, width := 13, acc := .ro, rst := 0 }
def R.DMA.RING_RD.RD : Fld :=
  { addr := 0x400040EC, lsb := 0, width := 13, acc := .rw, rst := 0 }
def R.DMA.SRC.ADDR (n : Nat) : Fld :=
  { addr := 0x40004000 + 24 * n, lsb := 0, width := 32, acc := .rw, rst := 0 }
def R.DMA.DST.ADDR (n : Nat) : Fld :=
  { addr := 0x40004004 + 24 * n, lsb := 0, width := 32, acc := .rw, rst := 0 }
def R.DMA.CTL.CTL (n : Nat) : Fld :=
  { addr := 0x40004008 + 24 * n, lsb := 0, width := 32, acc := .rw, rst := 0 }
def R.DMA.NEXT.NEXT (n : Nat) : Fld :=
  { addr := 0x4000400C + 24 * n, lsb := 0, width := 32, acc := .rw, rst := 0 }
def R.DMA.CFG.EN (n : Nat) : Fld :=
  { addr := 0x40004010 + 24 * n, lsb := 0, width := 1, acc := .rw, rst := 0 }
def R.DMA.CFG.PAUSE (n : Nat) : Fld :=
  { addr := 0x40004010 + 24 * n, lsb := 1, width := 1, acc := .rw, rst := 0 }
def R.DMA.CFG.TRIG (n : Nat) : Fld :=
  { addr := 0x40004010 + 24 * n, lsb := 4, width := 4, acc := .rw, rst := 0 }
def R.DMA.CFG.BUSY_WAIT (n : Nat) : Fld :=
  { addr := 0x40004010 + 24 * n, lsb := 8, width := 1, acc := .rw, rst := 0 }
def R.DMA.STAT.STATE (n : Nat) : Fld :=
  { addr := 0x40004014 + 24 * n, lsb := 0, width := 3, acc := .ro, rst := 0 }
def R.DMA.STAT.CAUSE (n : Nat) : Fld :=
  { addr := 0x40004014 + 24 * n, lsb := 4, width := 3, acc := .ro, rst := 0 }
def R.DMA.STAT.DESCS (n : Nat) : Fld :=
  { addr := 0x40004014 + 24 * n, lsb := 8, width := 8, acc := .rw, rst := 0 }

/-! ### CMACE (Tables CMAC-6) -/

def R.CMACE.KEY_CTL.SLOT : Fld :=
  { addr := 0x40006020, lsb := 0, width := 3, acc := .wo, rst := 0 }
def R.CMACE.KEY_CTL.SIZE : Fld :=
  { addr := 0x40006020, lsb := 4, width := 1, acc := .wo, rst := 0 }
def R.CMACE.KEY_CTL.ATTR : Fld :=
  { addr := 0x40006020, lsb := 8, width := 4, acc := .wo, rst := 0 }
def R.CMACE.KEY_CTL.WRAP : Fld :=
  { addr := 0x40006020, lsb := 12, width := 1, acc := .wo, rst := 0 }
def R.CMACE.KEY_CTL.WSLOT : Fld :=
  { addr := 0x40006020, lsb := 13, width := 1, acc := .wo, rst := 0 }
def R.CMACE.KEY_CTL.ERASE : Fld :=
  { addr := 0x40006020, lsb := 30, width := 1, acc := .wo, rst := 0 }
def R.CMACE.KEY_CTL.LOAD : Fld :=
  { addr := 0x40006020, lsb := 31, width := 1, acc := .wo, rst := 0 }
def R.CMACE.KEY_STATUS.RESULT : Fld :=
  { addr := 0x40006024, lsb := 0, width := 3, acc := .ro, rst := 0 }
def R.CMACE.KEY_STATUS.LOADED : Fld :=
  { addr := 0x40006024, lsb := 8, width := 1, acc := .w1c, rst := 0 }
def R.CMACE.KEY_STATUS.REFUSED : Fld :=
  { addr := 0x40006024, lsb := 9, width := 1, acc := .w1c, rst := 0 }
def R.CMACE.JOB_CTL.OP : Fld :=
  { addr := 0x40006060, lsb := 0, width := 3, acc := .rw, rst := 0 }
def R.CMACE.JOB_CTL.FINAL : Fld :=
  { addr := 0x40006060, lsb := 4, width := 1, acc := .rw, rst := 0 }
def R.CMACE.JOB_CTL.SLOT : Fld :=
  { addr := 0x40006060, lsb := 8, width := 4, acc := .rw, rst := 0 }
def R.CMACE.JOB_CTL.DHALF : Fld :=
  { addr := 0x40006060, lsb := 12, width := 2, acc := .rw, rst := 0 }
def R.CMACE.JOB_CTL.DATTR : Fld :=
  { addr := 0x40006060, lsb := 16, width := 3, acc := .rw, rst := 0 }
def R.CMACE.JOB_CTL.DSLOT : Fld :=
  { addr := 0x40006060, lsb := 20, width := 1, acc := .rw, rst := 0 }
def R.CMACE.JOB_CTL.EXPORT : Fld :=
  { addr := 0x40006060, lsb := 21, width := 1, acc := .rw, rst := 0 }
def R.CMACE.JOB_CTL.TLEN : Fld :=
  { addr := 0x40006060, lsb := 24, width := 4, acc := .rw, rst := 0 }
def R.CMACE.JOB_CTL.START : Fld :=
  { addr := 0x40006060, lsb := 31, width := 1, acc := .w1s, rst := 0 }
def R.CMACE.DST.ADDR : Fld :=
  { addr := 0x40006074, lsb := 0, width := 32, acc := .rw, rst := 0 }
def R.CMACE.STATUS.BUSY : Fld :=
  { addr := 0x400060A0, lsb := 0, width := 1, acc := .ro, rst := 0 }
def R.CMACE.STATUS.QUEUED : Fld :=
  { addr := 0x400060A0, lsb := 1, width := 1, acc := .ro, rst := 0 }
def R.CMACE.STATUS.SUSP : Fld :=
  { addr := 0x400060A0, lsb := 2, width := 1, acc := .ro, rst := 0 }
def R.CMACE.STATUS.DONE : Fld :=
  { addr := 0x400060A0, lsb := 4, width := 1, acc := .w1c, rst := 0 }
def R.CMACE.STATUS.ERR : Fld :=
  { addr := 0x400060A0, lsb := 5, width := 1, acc := .w1c, rst := 0 }
def R.CMACE.STATUS.PASS : Fld :=
  { addr := 0x400060A0, lsb := 6, width := 1, acc := .ro, rst := 0 }
def R.CMACE.STATUS.RESULT : Fld :=
  { addr := 0x400060A0, lsb := 8, width := 4, acc := .ro, rst := 0 }
def R.CMACE.STATUS.CAUSE : Fld :=
  { addr := 0x400060A0, lsb := 12, width := 3, acc := .ro, rst := 0 }
def R.CMACE.STATUS.URG_BUSY : Fld :=
  { addr := 0x400060A0, lsb := 16, width := 1, acc := .ro, rst := 0 }
def R.CMACE.STATUS.BG_OWNER : Fld :=
  { addr := 0x400060A0, lsb := 17, width := 3, acc := .ro, rst := 0 }
def R.CMACE.PROGRESS.BLOCKS : Fld :=
  { addr := 0x400060A4, lsb := 0, width := 18, acc := .ro, rst := 0 }
def R.CMACE.CTRL.IE : Fld :=
  { addr := 0x400060A8, lsb := 0, width := 1, acc := .rw, rst := 0 }
def R.CMACE.CTRL.ABORT : Fld :=
  { addr := 0x400060A8, lsb := 1, width := 1, acc := .wo, rst := 0 }
def R.CMACE.COUNTS.JOBS : Fld :=
  { addr := 0x400060AC, lsb := 0, width := 16, acc := .rw, rst := 0 }
def R.CMACE.COUNTS.PREEMPTS : Fld :=
  { addr := 0x400060AC, lsb := 16, width := 16, acc := .rw, rst := 0 }
def R.CMACE.KEY_DATA.DATA (n : Nat) : Fld :=
  { addr := 0x40006000 + 4 * n, lsb := 0, width := 32, acc := .wo, rst := 0 }
def R.CMACE.SLOT.VALID (n : Nat) : Fld :=
  { addr := 0x400060C0 + 4 * n, lsb := 0, width := 1, acc := .ro, rst := 0 }
def R.CMACE.SLOT.SIZE (n : Nat) : Fld :=
  { addr := 0x400060C0 + 4 * n, lsb := 1, width := 1, acc := .ro, rst := 0 }
def R.CMACE.SLOT.ATTR (n : Nat) : Fld :=
  { addr := 0x400060C0 + 4 * n, lsb := 4, width := 4, acc := .ro, rst := 0 }
def R.CMACE.SLOT.ROMONLY (n : Nat) : Fld :=
  { addr := 0x400060C0 + 4 * n, lsb := 8, width := 1, acc := .ro, rst := 0 }
def R.CMACE.SLOT.HALF (n : Nat) : Fld :=
  { addr := 0x400060C0 + 4 * n, lsb := 9, width := 1, acc := .ro, rst := 0 }
def R.CMACE.SRC.ADDR (n : Nat) : Fld :=
  { addr := 0x40006064 + 8 * n, lsb := 0, width := 32, acc := .rw, rst := 0 }
def R.CMACE.LEN.LEN (n : Nat) : Fld :=
  { addr := 0x40006068 + 8 * n, lsb := 0, width := 20, acc := .rw, rst := 0 }
def R.CMACE.IV.IV (n : Nat) : Fld :=
  { addr := 0x40006080 + 4 * n, lsb := 0, width := 32, acc := .rw, rst := 0 }
def R.CMACE.TAG.TAG (n : Nat) : Fld :=
  { addr := 0x40006090 + 4 * n, lsb := 0, width := 32, acc := .rw, rst := 0 }
def R.CMACE.FCNT2.FC : Fld :=
  { addr := 0x400060B0, lsb := 0, width := 32, acc := .rw, rst := 0, kind := .mirror }
def R.CMACE.FCNT5.FC : Fld :=
  { addr := 0x400060B4, lsb := 0, width := 32, acc := .rw, rst := 0, kind := .mirror }

/-! ### UART (Tables WIO-4) -/

def R.UART.CFG.EN (n : Nat) : Fld :=
  { addr := 0x4000C000 + 4096 * n, lsb := 0, width := 1, acc := .rwc, rst := 0 }
def R.UART.CFG.DATA7 (n : Nat) : Fld :=
  { addr := 0x4000C000 + 4096 * n, lsb := 1, width := 1, acc := .rwc, rst := 0 }
def R.UART.CFG.PARITY (n : Nat) : Fld :=
  { addr := 0x4000C000 + 4096 * n, lsb := 2, width := 2, acc := .rwc, rst := 0 }
def R.UART.CFG.STOP2 (n : Nat) : Fld :=
  { addr := 0x4000C000 + 4096 * n, lsb := 4, width := 1, acc := .rwc, rst := 0 }
def R.UART.CFG.BAUD (n : Nat) : Fld :=
  { addr := 0x4000C000 + 4096 * n, lsb := 12, width := 20, acc := .rwc, rst := 9600 }
def R.UART.DATA.DATA (n : Nat) : Fld :=
  { addr := 0x4000C004 + 4096 * n, lsb := 0, width := 8, acc := .rw, rst := 0 }
def R.UART.STATUS.RXCNT (n : Nat) : Fld :=
  { addr := 0x4000C008 + 4096 * n, lsb := 0, width := 5, acc := .ro, rst := 0 }
def R.UART.STATUS.TXCNT (n : Nat) : Fld :=
  { addr := 0x4000C008 + 4096 * n, lsb := 5, width := 5, acc := .ro, rst := 0 }
def R.UART.STATUS.TXIDLE (n : Nat) : Fld :=
  { addr := 0x4000C008 + 4096 * n, lsb := 10, width := 1, acc := .ro, rst := 1 }
def R.UART.STATUS.PORT_UNCAL (n : Nat) : Fld :=
  { addr := 0x4000C008 + 4096 * n, lsb := 11, width := 1, acc := .ro, rst := 0 }
def R.UART.STATUS.OVR (n : Nat) : Fld :=
  { addr := 0x4000C008 + 4096 * n, lsb := 16, width := 1, acc := .w1c, rst := 0 }
def R.UART.STATUS.FE (n : Nat) : Fld :=
  { addr := 0x4000C008 + 4096 * n, lsb := 17, width := 1, acc := .w1c, rst := 0 }
def R.UART.STATUS.PE (n : Nat) : Fld :=
  { addr := 0x4000C008 + 4096 * n, lsb := 18, width := 1, acc := .w1c, rst := 0 }
def R.UART.STATUS.WOKE (n : Nat) : Fld :=
  { addr := 0x4000C008 + 4096 * n, lsb := 19, width := 1, acc := .w1c, rst := 0 }
def R.UART.IE.IE (n : Nat) : Fld :=
  { addr := 0x4000C00C + 4096 * n, lsb := 0, width := 4, acc := .rw, rst := 0 }

/-! ### UART1 (Tables WIO-4) -/

def R.UART1.SVC.FORM : Fld :=
  { addr := 0x4000D040, lsb := 0, width := 2, acc := .rwc, rst := 0 }
def R.UART1.SVC.INV : Fld :=
  { addr := 0x4000D040, lsb := 2, width := 1, acc := .rwc, rst := 0 }
def R.UART1.SVC.IDLE : Fld :=
  { addr := 0x4000D040, lsb := 8, width := 8, acc := .rwc, rst := 20 }
def R.UART1.SVC_CTL.CLAIM : Fld :=
  { addr := 0x4000D044, lsb := 0, width := 1, acc := .w1s, rst := 0 }
def R.UART1.SVC_STAT.ROLE : Fld :=
  { addr := 0x4000D048, lsb := 0, width := 1, acc := .ro, rst := 0 }
def R.UART1.SVC_STAT.ROUND : Fld :=
  { addr := 0x4000D048, lsb := 1, width := 4, acc := .ro, rst := 0 }
def R.UART1.SVC_STAT.ROLE_CHG : Fld :=
  { addr := 0x4000D048, lsb := 8, width := 1, acc := .w1c, rst := 0 }
def R.UART1.SVC_STAT.FAIL : Fld :=
  { addr := 0x4000D048, lsb := 9, width := 1, acc := .w1c, rst := 0 }
def R.UART1.SVC_STAT.COLL : Fld :=
  { addr := 0x4000D048, lsb := 16, width := 16, acc := .rw, rst := 0 }

/-! ### SPI (Tables WIO-5) -/

def R.SPI.CFG.EN : Fld :=
  { addr := 0x4000E000, lsb := 0, width := 1, acc := .rwc, rst := 0 }
def R.SPI.CFG.ROLE : Fld :=
  { addr := 0x4000E000, lsb := 1, width := 1, acc := .rwc, rst := 0 }
def R.SPI.CFG.MODE : Fld :=
  { addr := 0x4000E000, lsb := 2, width := 2, acc := .rwc, rst := 0 }
def R.SPI.CFG.LSB : Fld :=
  { addr := 0x4000E000, lsb := 4, width := 1, acc := .rwc, rst := 0 }
def R.SPI.CFG.DIV : Fld :=
  { addr := 0x4000E000, lsb := 8, width := 8, acc := .rwc, rst := 7 }
def R.SPI.CTL.CS_HOLD : Fld :=
  { addr := 0x4000E004, lsb := 0, width := 1, acc := .rw, rst := 0 }
def R.SPI.DATA.DATA : Fld :=
  { addr := 0x4000E008, lsb := 0, width := 8, acc := .rw, rst := 0 }
def R.SPI.STATUS.RXCNT : Fld :=
  { addr := 0x4000E00C, lsb := 0, width := 4, acc := .ro, rst := 0 }
def R.SPI.STATUS.TXCNT : Fld :=
  { addr := 0x4000E00C, lsb := 4, width := 4, acc := .ro, rst := 0 }
def R.SPI.STATUS.BUSY : Fld :=
  { addr := 0x4000E00C, lsb := 8, width := 1, acc := .ro, rst := 0 }
def R.SPI.STATUS.OVR : Fld :=
  { addr := 0x4000E00C, lsb := 16, width := 1, acc := .w1c, rst := 0 }
def R.SPI.STATUS.UNDR : Fld :=
  { addr := 0x4000E00C, lsb := 17, width := 1, acc := .w1c, rst := 0 }

/-! ### I2C (Tables WIO-5) -/

def R.I2C.CFG.EN : Fld :=
  { addr := 0x4000F000, lsb := 0, width := 1, acc := .rwc, rst := 0 }
def R.I2C.CFG.FAST : Fld :=
  { addr := 0x4000F000, lsb := 1, width := 1, acc := .rwc, rst := 0 }
def R.I2C.CMD.ADDR : Fld :=
  { addr := 0x4000F004, lsb := 0, width := 7, acc := .wo, rst := 0 }
def R.I2C.CMD.READ : Fld :=
  { addr := 0x4000F004, lsb := 7, width := 1, acc := .wo, rst := 0 }
def R.I2C.CMD.LEN : Fld :=
  { addr := 0x4000F004, lsb := 8, width := 8, acc := .wo, rst := 0 }
def R.I2C.CMD.STOP : Fld :=
  { addr := 0x4000F004, lsb := 16, width := 1, acc := .wo, rst := 0 }
def R.I2C.DATA.DATA : Fld :=
  { addr := 0x4000F008, lsb := 0, width := 8, acc := .rw, rst := 0 }
def R.I2C.STATUS.BUSY : Fld :=
  { addr := 0x4000F00C, lsb := 0, width := 1, acc := .ro, rst := 0 }
def R.I2C.STATUS.DONE : Fld :=
  { addr := 0x4000F00C, lsb := 4, width := 1, acc := .w1c, rst := 0 }
def R.I2C.STATUS.NACK : Fld :=
  { addr := 0x4000F00C, lsb := 5, width := 1, acc := .w1c, rst := 0 }
def R.I2C.STATUS.ARB_LOST : Fld :=
  { addr := 0x4000F00C, lsb := 6, width := 1, acc := .w1c, rst := 0 }
def R.I2C.STATUS.STUCK : Fld :=
  { addr := 0x4000F00C, lsb := 7, width := 1, acc := .w1c, rst := 0 }

/-! ### GPIO (Tables WIO-6) -/

def R.GPIO.DIR.OUT : Fld :=
  { addr := 0x40011000, lsb := 0, width := 12, acc := .rw, rst := 0 }
def R.GPIO.OD.OD : Fld :=
  { addr := 0x40011004, lsb := 0, width := 12, acc := .rw, rst := 0 }
def R.GPIO.OUT.OUT : Fld :=
  { addr := 0x40011008, lsb := 0, width := 12, acc := .rw, rst := 0 }
def R.GPIO.IN.IN : Fld :=
  { addr := 0x4001100C, lsb := 0, width := 12, acc := .ro, rst := 0 }
def R.GPIO.CONTEND.CONTEND : Fld :=
  { addr := 0x40011010, lsb := 0, width := 12, acc := .w1c, rst := 0 }
def R.GPIO.WAKE_EDGE.EDGE : Fld :=
  { addr := 0x40011014, lsb := 0, width := 8, acc := .rw, rst := 0, kind := .mirror }

/-! ### FIO (Tables WIO-6) -/

def R.FIO.OUT.OUT : Fld :=
  { addr := 0x40010010, lsb := 0, width := 4, acc := .rw, rst := 0 }
def R.FIO.RETRY.SEC : Fld :=
  { addr := 0x40010014, lsb := 0, width := 8, acc := .rw, rst := 8 }
def R.FIO.STATUS.LATCHED : Fld :=
  { addr := 0x40010018, lsb := 0, width := 4, acc := .ro, rst := 0, kind := .mirror }
def R.FIO.STATUS.LEVEL : Fld :=
  { addr := 0x40010018, lsb := 4, width := 4, acc := .ro, rst := 0, kind := .mirror }
def R.FIO.STATUS.SHORT : Fld :=
  { addr := 0x40010018, lsb := 8, width := 4, acc := .w1c, rst := 0, kind := .mirror }
def R.FIO.STATUS.WIRED : Fld :=
  { addr := 0x40010018, lsb := 12, width := 4, acc := .w1c, rst := 0, kind := .mirror }
def R.FIO.STATUS.THERM : Fld :=
  { addr := 0x40010018, lsb := 16, width := 4, acc := .w1c, rst := 0, kind := .mirror }
def R.FIO.STATUS.WRAP : Fld :=
  { addr := 0x40010018, lsb := 20, width := 4, acc := .w1c, rst := 0, kind := .mirror }
def R.FIO.STATUS.HIT : Fld :=
  { addr := 0x40010018, lsb := 24, width := 4, acc := .w1c, rst := 0, kind := .mirror }
def R.FIO.CFG.MODE (n : Nat) : Fld :=
  { addr := 0x40010000 + 4 * n, lsb := 0, width := 2, acc := .rwc, rst := 0 }
def R.FIO.CFG.PULL (n : Nat) : Fld :=
  { addr := 0x40010000 + 4 * n, lsb := 2, width := 1, acc := .rwc, rst := 1 }
def R.FIO.CFG.SAMP (n : Nat) : Fld :=
  { addr := 0x40010000 + 4 * n, lsb := 4, width := 3, acc := .rwc, rst := 3 }
def R.FIO.CFG.DEB (n : Nat) : Fld :=
  { addr := 0x40010000 + 4 * n, lsb := 8, width := 4, acc := .rwc, rst := 2 }
def R.FIO.CFG.WIDTH (n : Nat) : Fld :=
  { addr := 0x40010000 + 4 * n, lsb := 12, width := 10, acc := .rwc, rst := 50 }
def R.FIO.CFG.GAP (n : Nat) : Fld :=
  { addr := 0x40010000 + 4 * n, lsb := 22, width := 10, acc := .rwc, rst := 50 }
def R.FIO.CNT.CNT (n : Nat) : Fld :=
  { addr := 0x40010020 + 4 * n, lsb := 0, width := 32, acc := .rw, rst := 0, kind := .mirror }
def R.FIO.THR.THR (n : Nat) : Fld :=
  { addr := 0x40010030 + 4 * n, lsb := 0, width := 32, acc := .rw, rst := 4294967295, kind := .mirror }
def R.FIO.ADD.ADD (n : Nat) : Fld :=
  { addr := 0x40010040 + 4 * n, lsb := 0, width := 16, acc := .wo, rst := 0 }
def R.FIO.PEND.PEND (n : Nat) : Fld :=
  { addr := 0x40010050 + 4 * n, lsb := 0, width := 16, acc := .ro, rst := 0 }
def R.FIO.SHORTS.SHORTS (n : Nat) : Fld :=
  { addr := 0x40010060 + 4 * (n / 4), lsb := 8 * (n % 4), width := 8, acc := .rw, rst := 0 }

/-! ### UPDATE (Tables UPD-10) -/

def R.UPDATE.CTRL.RX_EN : Fld :=
  { addr := 0x40015000, lsb := 0, width := 1, acc := .rwc, rst := 0 }
def R.UPDATE.CTRL.AUTO_APPLY : Fld :=
  { addr := 0x40015000, lsb := 1, width := 1, acc := .rwc, rst := 0 }
def R.UPDATE.ACTIVE.BANK : Fld :=
  { addr := 0x40015004, lsb := 0, width := 2, acc := .rw, rst := 3 }
def R.UPDATE.CMD.APPLY : Fld :=
  { addr := 0x40015008, lsb := 0, width := 1, acc := .wo, rst := 0 }
def R.UPDATE.CMD.ABANDON : Fld :=
  { addr := 0x40015008, lsb := 1, width := 1, acc := .wo, rst := 0 }
def R.UPDATE.CMD.CONFIRM : Fld :=
  { addr := 0x40015008, lsb := 2, width := 1, acc := .wo, rst := 0 }
def R.UPDATE.CMD.DECRYPT : Fld :=
  { addr := 0x40015008, lsb := 3, width := 1, acc := .wo, rst := 0 }
def R.UPDATE.STATUS.STATE : Fld :=
  { addr := 0x4001500C, lsb := 0, width := 3, acc := .ro, rst := 0 }
def R.UPDATE.STATUS.REASON : Fld :=
  { addr := 0x4001500C, lsb := 8, width := 4, acc := .ro, rst := 0 }
def R.UPDATE.STATUS.DONE : Fld :=
  { addr := 0x4001500C, lsb := 16, width := 1, acc := .w1c, rst := 0 }
def R.UPDATE.STATUS.FAIL : Fld :=
  { addr := 0x4001500C, lsb := 17, width := 1, acc := .w1c, rst := 0 }
def R.UPDATE.STATUS.CMD_REF : Fld :=
  { addr := 0x4001500C, lsb := 18, width := 1, acc := .w1c, rst := 0 }
def R.UPDATE.STATUS.STUCK : Fld :=
  { addr := 0x4001500C, lsb := 19, width := 1, acc := .ro, rst := 0 }
def R.UPDATE.CID.CID : Fld :=
  { addr := 0x40015010, lsb := 0, width := 32, acc := .ro, rst := 0 }
def R.UPDATE.RX.RECEIVED : Fld :=
  { addr := 0x40015014, lsb := 0, width := 16, acc := .ro, rst := 0 }
def R.UPDATE.RX.TOTAL : Fld :=
  { addr := 0x40015014, lsb := 16, width := 16, acc := .ro, rst := 0 }
def R.UPDATE.FIRST_MISS.IDX : Fld :=
  { addr := 0x40015018, lsb := 0, width := 16, acc := .ro, rst := 65535 }
def R.UPDATE.COUNTS.DUP : Fld :=
  { addr := 0x4001501C, lsb := 0, width := 16, acc := .rw, rst := 0 }
def R.UPDATE.COUNTS.BAD : Fld :=
  { addr := 0x4001501C, lsb := 16, width := 16, acc := .rw, rst := 0 }
def R.UPDATE.PROGRESS.BYTES : Fld :=
  { addr := 0x40015020, lsb := 0, width := 20, acc := .ro, rst := 0 }
def R.UPDATE.TRIAL.COUNT : Fld :=
  { addr := 0x40015030, lsb := 0, width := 4, acc := .ro, rst := 0 }
def R.UPDATE.TRIAL.MAX : Fld :=
  { addr := 0x40015030, lsb := 4, width := 4, acc := .rw, rst := 3 }
def R.UPDATE.PARTS.NEXT : Fld :=
  { addr := 0x40015034, lsb := 0, width := 4, acc := .ro, rst := 0 }
def R.UPDATE.PART_GEN.GEN : Fld :=
  { addr := 0x40015038, lsb := 0, width := 32, acc := .ro, rst := 0 }
def R.UPDATE.DEC_OFS.VALUE : Fld :=
  { addr := 0x40015024, lsb := 0, width := 32, acc := .rw, rst := 0 }
def R.UPDATE.DEC_LEN.VALUE : Fld :=
  { addr := 0x40015028, lsb := 0, width := 32, acc := .rw, rst := 0 }
def R.UPDATE.DEC_DST.VALUE : Fld :=
  { addr := 0x4001502C, lsb := 0, width := 32, acc := .rw, rst := 0 }

/-! ### MFLASHC (Tables PROT-9) -/

def R.MFLASHC.MPROT.HWPROT : Fld :=
  { addr := 0x48004040, lsb := 0, width := 5, acc := .ro, rst := 0 }
def R.MFLASHC.MPROT.LOCK : Fld :=
  { addr := 0x48004040, lsb := 8, width := 5, acc := .w1s, rst := 0 }
def R.MFLASHC.MPROT.ACTIVE : Fld :=
  { addr := 0x48004040, lsb := 16, width := 2, acc := .rw, rst := 0 }
def R.MFLASHC.MXO.START (n : Nat) : Fld :=
  { addr := 0x48004044 + 4 * n, lsb := 0, width := 5, acc := .rwc, rst := 0 }
def R.MFLASHC.MXO.END (n : Nat) : Fld :=
  { addr := 0x48004044 + 4 * n, lsb := 8, width := 5, acc := .rwc, rst := 0 }
def R.MFLASHC.MXO.EN (n : Nat) : Fld :=
  { addr := 0x48004044 + 4 * n, lsb := 16, width := 1, acc := .rwc, rst := 0 }
def R.MFLASHC.MXO.LOCK (n : Nat) : Fld :=
  { addr := 0x48004044 + 4 * n, lsb := 17, width := 1, acc := .rwc, rst := 0 }

/-! ### MBRIDGE (Tables CLK-15) -/

def R.MBRIDGE.OVR.MAON_EV : Fld :=
  { addr := 0x48002008, lsb := 19, width := 1, acc := .w1c, rst := 0 }
def R.MBRIDGE.OVR.MAON_RQ : Fld :=
  { addr := 0x48002008, lsb := 20, width := 1, acc := .w1c, rst := 0 }

/-- The fields of the SYSCTL window. -/
def windowSYSCTL : List Fld :=
  [R.SYSCTL.ID.TYPE, R.SYSCTL.ID.REV, R.SYSCTL.COMMIT_FIRE.FIRE, R.SYSCTL.COMMIT_STATUS.DONE, R.SYSCTL.COMMIT_STATUS.ABORT, R.SYSCTL.COMMIT_STATUS.LATE_APPLY, R.SYSCTL.COMMIT_STATUS.LAST_GROUP, R.SYSCTL.COMMIT_STATUS.DICT_LOCK, R.SYSCTL.COMMIT_STATUS.ABORT_BLOCK, R.SYSCTL.COMMIT_STATUS.FIRES, R.SYSCTL.READ_SYNC.SYNC .app, R.SYSCTL.VOTE_FIX.COUNT] ++
  [R.SYSCTL.VOTE_STATUS.LAST_FIELD, R.SYSCTL.VOTE_STATUS.LOST, R.SYSCTL.VOTE_STATUS.STUCK, R.SYSCTL.VOTE_STATUS.LOST_FIELD, R.SYSCTL.EVLOG_STAT.COUNT, R.SYSCTL.EVLOG_STAT.OVERWRITTEN, R.SYSCTL.EVLOG_SEL.POS, R.SYSCTL.EVLOG_HEAD.SEQ, R.SYSCTL.UNIT_ID_LO.UNIT_ID, R.SYSCTL.UNIT_ID_HI.UNIT_ID] ++
  (List.range 4).map (fun n => R.SYSCTL.COMMIT_GROUP.MASK n) ++
  (List.range 6).map (fun n => R.SYSCTL.EVLOG_W.WORD n)

/-- The fields of the PWR window. -/
def windowPWR : List Fld :=
  [R.PWR.PACE_CTRL.TARGET .app, R.PWR.PACE_CTRL.MODE .app, R.PWR.PACE_CTRL.FIXED_CODE .app, R.PWR.PACE_CTRL.ENG_TARGET, R.PWR.PACE_STATUS.VCORE_CODE .app, R.PWR.PACE_STATUS.LOCKED .app, R.PWR.PACE_STATUS.AT_CEIL .app, R.PWR.PACE_STATUS.AT_FLOOR .app, R.PWR.PACE_STATUS.UNDER .app, R.PWR.PACE_STATUS.CEIL_HIT .app, R.PWR.PACE_STATUS.RATE .app, R.PWR.PACE_LIMIT.VMIN_CODE .app] ++
  [R.PWR.PACE_LIMIT.VMAX_CODE .app, R.PWR.PACE_LIMIT.PERIOD .app, R.PWR.PACE_LIMIT.STEP .app, R.PWR.BIAS_CTRL.EN .app, R.PWR.BIAS_CTRL.MAX_RBB .app, R.PWR.BIAS_CTRL.TRACK .app, R.PWR.BIAS_STATUS.RBB_CODE .app, R.PWR.BIAS_STATUS.RET_GUARD .app, R.PWR.BIAS_STATUS.RET_LIMIT .app, R.PWR.RES_CTRL.CHG_EN, R.PWR.RES_CTRL.CHG_MODE, R.PWR.RES_CTRL.ICHG] ++
  [R.PWR.RES_CTRL.VMAX, R.PWR.RES_CTRL.VSTOP, R.PWR.RES_CTRL.MARGIN, R.PWR.RES_CAP.CAP, R.PWR.RES_CAP.ADMIT_MAX, R.PWR.RES_CAP.EXT_PWR, R.PWR.RES_STATUS.VRES_MV, R.PWR.RES_STATUS.CHARGING, R.PWR.RES_STATUS.FULL, R.PWR.RES_STATUS.HEADROOM, R.PWR.RES_STATUS.TOO_BIG, R.PWR.RES_STATUS.SLOW] ++
  [R.PWR.RES_STATUS.COLLAPSE, R.PWR.LADDER.LEVEL, R.PWR.LADDER.LOCK7, R.PWR.LADDER.LEVEL_MAX, R.PWR.LADDER.CFG_DEFAULT, R.PWR.LADDER.VBAT_COMP, R.PWR.MODE_REQ.SHIP, R.PWR.MODE_REQ.KEY, R.PWR.MODE_STATUS.EFFECTIVE, R.PWR.MODE_STATUS.BASE, R.PWR.MODE_STATUS.APP_ON, R.PWR.MODE_STATUS.MET_ON] ++
  [R.PWR.MODE_STATUS.MET_RET, R.PWR.MODE_STATUS.RF_ON, R.PWR.MODE_STATUS.RF_READY, R.PWR.MODE_STATUS.REFUSED, R.PWR.MODE_STATUS.HELD, R.PWR.MODE_STATUS.L5_RESTART, R.PWR.MODE_STATUS.LFXO_LOST, R.PWR.MODE_STATUS.FROM_SHIP, R.PWR.REST.APP_OFF, R.PWR.REST.RET_BANKS, R.PWR.DOMAIN_REQ.RF_HOLD, R.PWR.WAKE_EN.EN .app] ++
  [R.PWR.WAKE_CAUSE.C0 .app, R.PWR.WAKE_CAUSE.C1 .app, R.PWR.WAKE_CAUSE.C2 .app, R.PWR.WAKE_CAUSE.C3 .app, R.PWR.WAKE_CAUSE.COUNT .app, R.PWR.WAKE_CAUSE.MORE .app, R.PWR.WAKE_CAUSE.REPLAY .app, R.PWR.WAKE_CAUSE.FROM .app, R.PWR.WAKE_CLR.CLR .app]

/-- The fields of the AON window. -/
def windowAON : List Fld :=
  [R.AON.RST_CAUSE.POR, R.AON.RST_CAUSE.NRESET, R.AON.RST_CAUSE.AWDT, R.AON.RST_CAUSE.SOFT, R.AON.RST_CAUSE.LOCKUP, R.AON.RST_CAUSE.CLKLOSS, R.AON.RST_CAUSE.TIME_UNSET, R.AON.RST_CAUSE.APP_RESETS, R.AON.OPT_STATUS.VALID, R.AON.OPT_STATUS.BLANK, R.AON.OPT_STATUS.INVALID, R.AON.OPT_STATUS.FIELD_BAD] ++
  [R.AON.OPT_STATUS.FIXED, R.AON.OPT_STATUS.FIRST_BAD, R.AON.BOOT_STATUS.TWIN, R.AON.BOOT_STATUS.A_STATE, R.AON.BOOT_STATUS.B_STATE, R.AON.BOOT_STATUS.FORCED_MISS, R.AON.BOOT_STATUS.LOADER, R.AON.BOOT_STATUS.OTP_BAD, R.AON.BOOT_STATUS.ROLLBACK, R.AON.BOOT_STATUS.ARB0, R.AON.RST_REQ.KEY, R.AON.WDT.FEED] ++
  [R.AON.WDT.REMAIN, R.AON.WDT.EN, R.AON.RTC_SEC.SEC, R.AON.RTC_SUB.SUB] ++
  (List.range 40).map (fun n => R.AON.SHADOW.OPT n)

/-- The fields of the FLASHC window. -/
def windowFLASHC : List Fld :=
  [R.FLASHC.STATUS.BUSY .app, R.FLASHC.STATUS.BUSY0 .app, R.FLASHC.STATUS.BUSY1 .app, R.FLASHC.STATUS.BUSYB .app, R.FLASHC.STATUS.OP .app, R.FLASHC.STATUS.ARMED .app, R.FLASHC.STATUS.DONE .app, R.FLASHC.STATUS.PFAIL .app, R.FLASHC.STATUS.EFAIL .app, R.FLASHC.STATUS.VERIFY_CORR .app, R.FLASHC.STATUS.TIRED_HIT .app, R.FLASHC.STATUS.NOT_ERASED .app] ++
  [R.FLASHC.STATUS.SEQERR .app, R.FLASHC.STATUS.STRAY .app, R.FLASHC.STATUS.PROTERR .app, R.FLASHC.STATUS.REFUSED .app, R.FLASHC.STATUS.ABORTED .app, R.FLASHC.OP_ADDR.ADDR .app, R.FLASHC.LAST_PULSES.PROG .app, R.FLASHC.LAST_PULSES.ERASE .app, R.FLASHC.CTRL.DONE_IE .app, R.FLASHC.CTRL.FAIL_IE .app, R.FLASHC.CTRL.ECC_IE .app, R.FLASHC.CTRL.SEQ_IE .app] ++
  [R.FLASHC.ECC_STATUS.COR .app, R.FLASHC.ECC_STATUS.UNCOR .app, R.FLASHC.ECC_STATUS.FETCH .app, R.FLASHC.ECC_STATUS.REQ .app, R.FLASHC.ECC_STATUS.COR_COUNT .app, R.FLASHC.ECC_STATUS.UNCOR_COUNT .app, R.FLASHC.ECC_ADDR.ADDR .app, R.FLASHC.ECNT_IDX.BLOCK .app, R.FLASHC.ECNT_IDX.ARRAY .app, R.FLASHC.ECNT.COUNT .app, R.FLASHC.ECNT.TIRED .app, R.FLASHC.ECNT.LOST .app] ++
  [R.FLASHC.ECNT.VALID .app, R.FLASHC.ECNT.OVER .app, R.FLASHC.PROT_STATUS.MAP, R.FLASHC.PROT_STATUS.ATTEMPTS, R.FLASHC.PROT_STATUS.LIFTED, R.FLASHC.PROT_STATUS.LOCKOUT, R.FLASHC.PROT_STATUS.TAG_BLANK, R.FLASHC.PROT_STATUS.MAP_LOST, R.FLASHC.PROT_STATUS.PW_BAD, R.FLASHC.PROT_STATUS.LIFT_OK, R.FLASHC.PROT_RELOCK.MASK, R.FLASHC.PROT_RELOCK.KEY] ++
  [R.FLASHC.ARB_STATUS.ARB0, R.FLASHC.ARB_STATUS.ARB1, R.FLASHC.ARB_STATUS.ARB2, R.FLASHC.ARB_STATUS.BURN, R.FLASHC.ARB_STATUS.REFUSED, R.FLASHC.ARB_STATUS.SAT, R.FLASHC.ARB_STATUS.SPLIT, R.FLASHC.ARB_CMD.IDX, R.FLASHC.ARB_CMD.TARGET, R.FLASHC.ARB_CMD.KEY] ++
  (List.range 4).map (fun n => R.FLASHC.PW.PW n)

/-- The fields of the DMA window. -/
def windowDMA : List Fld :=
  [R.DMA.RING_STAT.DROPPED, R.DMA.IRQ.DONE, R.DMA.IRQ.ERR, R.DMA.IRQ.RING, R.DMA.IRQ.RING_LOST, R.DMA.IRQ_EN.EN, R.DMA.CTRL.CH0_RING, R.DMA.RING_BASE.ADDR, R.DMA.RING_WORDS.WORDS, R.DMA.RING_WR.WR, R.DMA.RING_RD.RD] ++
  (List.range 8).map (fun n => R.DMA.SRC.ADDR n) ++
  (List.range 8).map (fun n => R.DMA.DST.ADDR n) ++
  (List.range 8).map (fun n => R.DMA.CTL.CTL n) ++
  (List.range 8).map (fun n => R.DMA.NEXT.NEXT n) ++
  (List.range 8).map (fun n => R.DMA.CFG.EN n) ++
  (List.range 8).map (fun n => R.DMA.CFG.PAUSE n) ++
  (List.range 8).map (fun n => R.DMA.CFG.TRIG n) ++
  (List.range 8).map (fun n => R.DMA.CFG.BUSY_WAIT n) ++
  (List.range 8).map (fun n => R.DMA.STAT.STATE n) ++
  (List.range 8).map (fun n => R.DMA.STAT.CAUSE n) ++
  (List.range 8).map (fun n => R.DMA.STAT.DESCS n)

/-- The fields of the ARB window. -/
def windowARB : List Fld :=
  [R.ARB.RESERVE.CH0, R.ARB.FORCED.COUNT, R.ARB.FORCED.LAST, R.ARB.FAULT_STATUS.CAUSE .app, R.ARB.FAULT_STATUS.REQ .app, R.ARB.FAULT_STATUS.DIR .app, R.ARB.FAULT_STATUS.FETCH .app, R.ARB.FAULT_STATUS.VALID .app, R.ARB.FAULT_STATUS.MULTI .app, R.ARB.FAULT_STATUS.COUNT .app, R.ARB.FAULT_ADDR.ADDR .app] ++
  (List.range 15).map (fun n => R.ARB.PRIO.P n) ++
  (List.range 15).map (fun n => R.ARB.WAITLIM.L n) ++
  (List.range 15).map (fun n => R.ARB.WAITCNT.C n)

/-- The fields of the CMACE window. -/
def windowCMACE : List Fld :=
  [R.CMACE.KEY_CTL.SLOT, R.CMACE.KEY_CTL.SIZE, R.CMACE.KEY_CTL.ATTR, R.CMACE.KEY_CTL.WRAP, R.CMACE.KEY_CTL.WSLOT, R.CMACE.KEY_CTL.ERASE, R.CMACE.KEY_CTL.LOAD, R.CMACE.KEY_STATUS.RESULT, R.CMACE.KEY_STATUS.LOADED, R.CMACE.KEY_STATUS.REFUSED, R.CMACE.JOB_CTL.OP, R.CMACE.JOB_CTL.FINAL] ++
  [R.CMACE.JOB_CTL.SLOT, R.CMACE.JOB_CTL.DHALF, R.CMACE.JOB_CTL.DATTR, R.CMACE.JOB_CTL.DSLOT, R.CMACE.JOB_CTL.EXPORT, R.CMACE.JOB_CTL.TLEN, R.CMACE.JOB_CTL.START, R.CMACE.DST.ADDR, R.CMACE.STATUS.BUSY, R.CMACE.STATUS.QUEUED, R.CMACE.STATUS.SUSP, R.CMACE.STATUS.DONE] ++
  [R.CMACE.STATUS.ERR, R.CMACE.STATUS.PASS, R.CMACE.STATUS.RESULT, R.CMACE.STATUS.CAUSE, R.CMACE.STATUS.URG_BUSY, R.CMACE.STATUS.BG_OWNER, R.CMACE.PROGRESS.BLOCKS, R.CMACE.CTRL.IE, R.CMACE.CTRL.ABORT, R.CMACE.COUNTS.JOBS, R.CMACE.COUNTS.PREEMPTS] ++
  (List.range 8).map (fun n => R.CMACE.KEY_DATA.DATA n) ++
  (List.range 10).map (fun n => R.CMACE.SLOT.VALID n) ++
  (List.range 10).map (fun n => R.CMACE.SLOT.SIZE n) ++
  (List.range 10).map (fun n => R.CMACE.SLOT.ATTR n) ++
  (List.range 10).map (fun n => R.CMACE.SLOT.ROMONLY n) ++
  (List.range 10).map (fun n => R.CMACE.SLOT.HALF n) ++
  (List.range 2).map (fun n => R.CMACE.SRC.ADDR n) ++
  (List.range 2).map (fun n => R.CMACE.LEN.LEN n) ++
  (List.range 4).map (fun n => R.CMACE.IV.IV n) ++
  (List.range 4).map (fun n => R.CMACE.TAG.TAG n) ++
  [R.CMACE.FCNT2.FC, R.CMACE.FCNT5.FC]

/-- The fields of the DICT window. -/
def windowDICT : List Fld :=
  [R.DICT.QSTAT.DEPTH, R.DICT.QSTAT.BUSY_PEND, R.DICT.QSTAT.BUSY_LOST, R.DICT.QSTAT.BUSY_SENT, R.DICT.CTRL.EN, R.DICT.CFG.CB_TIMEOUT, R.DICT.CFG.BUSY_HOLD, R.DICT.DESC_BASE.ADDR, R.DICT.DESC_COUNT.COUNT, R.DICT.STATUS.STATE, R.DICT.STATUS.DESC_BAD, R.DICT.STATUS.WATCHED] ++
  [R.DICT.STATUS.DIVERGED, R.DICT.FLOOR_STAT.UNSET, R.DICT.PDIRTY.BITS, R.DICT.COUNTS.REQS, R.DICT.COUNTS.AUTH_FAIL, R.DICT.COUNTS.REPLAY, R.DICT.COUNTS2.PENDINGS, R.DICT.COUNTS2.DIVERGES] ++
  (List.range 5).map (fun n => R.DICT.FLOOR.FC n)

/-- The fields of the RADIO window. -/
def windowRADIO : List Fld :=
  [R.RADIO.FREQ_BASE.WORD, R.RADIO.CHAN.CHAN, R.RADIO.CHAN.SPACE, R.RADIO.FOFS.OFS, R.RADIO.MOD.TYPE, R.RADIO.MOD.RATE, R.RADIO.MOD2.DEV, R.RADIO.MOD2.RXBW, R.RADIO.TXPWR.DBM, R.RADIO.EXTPA_CFG.EN, R.RADIO.EXTPA_CFG.LNA_USE, R.RADIO.EXTPA_CFG.POL] ++
  [R.RADIO.EXTPA_CFG.MODE_TX, R.RADIO.EXTPA_CFG.MODE_BYP, R.RADIO.EXTPA_CFG.DRIVE, R.RADIO.EXTPA_TIME.SW_GAP, R.RADIO.EXTPA_TIME.PA_LEAD, R.RADIO.EXTPA_TIME.PA_LAG, R.RADIO.EXTPA_TIME.LNA_LEAD, R.RADIO.TEST.MODE, R.RADIO.TEST.KEY, R.RADIO.STATUS.STATE, R.RADIO.STATUS.LOCKED, R.RADIO.STATUS.CAL_VALID] ++
  [R.RADIO.STATUS.CAPPED, R.RADIO.STATUS.EXT_BLOCKED, R.RADIO.STATUS.BAND, R.RADIO.STATUS.TEMP, R.RADIO.EVENTS.UNLOCK, R.RADIO.EVENTS.CAL_FAIL, R.RADIO.EVENTS.HFXO_FAIL, R.RADIO.EVENTS.RANGE, R.RADIO.EVENTS.TEST_END, R.RADIO.EVENTS.TEST_WHY, R.RADIO.RSSI.NOW, R.RADIO.RSSI.LAST] ++
  [R.RADIO.COUNTS.CALS, R.RADIO.COUNTS.UNLOCKS]

/-- The fields of the LINK window. -/
def windowLINK : List Fld :=
  [R.LINK.CTRL.EN, R.LINK.CTRL.STOOK_RX, R.LINK.CTRL.WMBUS_RX, R.LINK.TXCFG.RETRY_MAX, R.LINK.TXCFG.BO_MIN, R.LINK.TXCFG.BO_MAX, R.LINK.TXCFG.BO_SLOT, R.LINK.TXCFG.DUTY_WAIT_MAX, R.LINK.ACKCFG.EN, R.LINK.ACKCFG.EXT, R.LINK.ACKCFG.DBM, R.LINK.ACKCFG.ACK_RSV] ++
  [R.LINK.STOOK.PRE, R.LINK.STOOK.WHITEN, R.LINK.GLEAN.EN, R.LINK.GLEAN.CONT, R.LINK.GLEAN.WIN, R.LINK.GLEAN_INT.INT, R.LINK.GLEAN_INT.PHASE, R.LINK.DUP.TTL, R.LINK.STATUS.STATE, R.LINK.STATUS.TXQ, R.LINK.STATUS.SLOT, R.LINK.STATUS.ACTIVE] ++
  [R.LINK.STATUS.FWD_OFF, R.LINK.STATUS.ALARM_DAY, R.LINK.STATUS.WAIT_S, R.LINK.DONE.SLOT, R.LINK.DONE.GIVER, R.LINK.DONE.RESULT, R.LINK.DONE.ATTEMPTS, R.LINK.DONE.VALID, R.LINK.DONE_CTL.POP, R.LINK.DONE_CTL.COUNT, R.LINK.DONE_CTL.OVF, R.LINK.IRQ.TX_DONE] ++
  [R.LINK.IRQ.RX_FRAME, R.LINK.IRQ.RX_OVF, R.LINK.IRQ.ACK_SKIP, R.LINK.IRQ.DUTY_WAIT, R.LINK.IRQ.QUEUE_FULL, R.LINK.IRQ.ALARM_SENT, R.LINK.IRQ.SHED, R.LINK.IRQ_EN.EN, R.LINK.DUTY_SEL.SUB, R.LINK.DUTY_USED.USED, R.LINK.DUTY_USED.LIMIT, R.LINK.COUNT0.TX_ATTEMPTS] ++
  [R.LINK.COUNT0.RETRIES, R.LINK.COUNT1.RX_OK, R.LINK.COUNT1.RX_FCS, R.LINK.COUNT2.RX_DUP, R.LINK.COUNT2.RX_DROP, R.LINK.COUNT3.ACKS_SENT, R.LINK.COUNT3.ACK_SKIP, R.LINK.RXDATA.DATA, R.LINK.RXLEVEL.BYTES, R.LINK.WMB_CFG.RX_MODE, R.LINK.WMB_CFG.LISTEN, R.LINK.WMB_CFG.FILTER] ++
  [R.LINK.WMB_CFG.RX_NRATE, R.LINK.WMB_ADDR0.M, R.LINK.WMB_ADDR0.VER, R.LINK.WMB_ADDR0.TYPE, R.LINK.WMB_ADDR1.ID, R.LINK.WMB_ACC.ACC, R.LINK.WMB_MCNT.MCNT, R.LINK.WMB_STAT.MCNT_UNSET, R.LINK.WMB_STAT.MCNT_END, R.LINK.WMB_STAT.KEY_REF, R.LINK.MESH_ID.STEAD, R.LINK.MESH_ID.ADDR] ++
  [R.LINK.MESH_ROLE.ROLE, R.LINK.MESH_ROLE.CID, R.LINK.MESH_ROLE.MAX_HOPS, R.LINK.MESH_ROLE.COMPAT, R.LINK.MESH_BCN.BEACON_INT, R.LINK.MESH_BCN.PARENT_TTL, R.LINK.MESH_BCN.PARENT_RSSI, R.LINK.MESH_BCN.RESCUE_INT, R.LINK.MESH_TIME.GUARD, R.LINK.MESH_TIME.DEADBAND, R.LINK.MESH_TIME.DESC_TTL, R.LINK.MESH_STATE.RING] ++
  [R.LINK.MESH_STATE.NPAR, R.LINK.MESH_STATE.NO_PARENT, R.LINK.MESH_STATE.RELAYING, R.LINK.MESH_STATE.COMPAT_OUT, R.LINK.MESH_STATE.CFG_BEHIND, R.LINK.MESH_STATE.TIME_SYNC, R.LINK.MESH_STATE.ROOT_CID, R.LINK.MESH_STATE.TQ, R.LINK.MESH_GEN.GEN, R.LINK.MESH_CFG.GEN_CID, R.LINK.MESH_COMPAT.MIN, R.LINK.MESH_COMPAT.MAX] ++
  [R.LINK.TIME_BUDGET.USED_MS, R.LINK.TIME_LAST.STEP, R.LINK.MESH_COUNT.FWD, R.LINK.MESH_COUNT.LOOP, R.LINK.MESH_EVT.RING_CHG, R.LINK.MESH_EVT.NO_PARENT, R.LINK.MESH_EVT.CFG_NEW, R.LINK.MESH_EVT.CFG_CONFLICT, R.LINK.MESH_EVT.COMPAT_OUT, R.LINK.MESH_EVT.TIME_APPLIED, R.LINK.MESH_EVT.TIME_REFUSED, R.LINK.MESH_EVT.AUTH_FAIL] ++
  [R.LINK.FWD_STAT.DEPTH, R.LINK.FWD_STAT.PEAK, R.LINK.FWD_STAT.DROPPED, R.LINK.RX_STAT.PEAK, R.LINK.RX_STAT.REFUSED] ++
  (List.range 2).map (fun n => R.LINK.ALARM_DATA.DATA n) ++
  (List.range 8).map (fun n => R.LINK.DUTY_CAP.CAP n) ++
  [R.LINK.WIN_S.START, R.LINK.WIN_S.LEN, R.LINK.WIN_T.START, R.LINK.WIN_T.LEN, R.LINK.WIN_C.START, R.LINK.WIN_C.LEN, R.LINK.WIN_CS.START, R.LINK.WIN_CS.LEN, R.LINK.WIN_N.START, R.LINK.WIN_N.LEN] ++
  (List.range 3).map (fun n => R.LINK.PARENT.ADDR n) ++
  (List.range 3).map (fun n => R.LINK.PARENT.RSSI n) ++
  (List.range 3).map (fun n => R.LINK.PARENT.AGE n)

/-- The fields of the TUNER window. -/
def windowTUNER : List Fld :=
  [R.TUNER.CFG.EN, R.TUNER.CFG.AUTO, R.TUNER.CFG.RL_THR, R.TUNER.CFG.FAIL_THR, R.TUNER.CFG.MIS_N, R.TUNER.CFG.MAX_PROBES, R.TUNER.CFG2.RETUNE_MIN, R.TUNER.CFG2.INIT_CS, R.TUNER.CFG2.INIT_CP, R.TUNER.CMD.RETUNE, R.TUNER.CMD.FORGET, R.TUNER.STATUS.CS] ++
  [R.TUNER.STATUS.CP, R.TUNER.STATUS.DIRTY, R.TUNER.STATUS.HELD, R.TUNER.STATUS.BAND, R.TUNER.STATUS.MIS_RUN, R.TUNER.STATUS.LAST_RL, R.TUNER.EVENTS.RETUNED, R.TUNER.EVENTS.FAIL, R.TUNER.EVENTS.MISMATCH, R.TUNER.COUNTS.RETUNES, R.TUNER.COUNTS.MISMATCHES] ++
  (List.range 4).map (fun n => R.TUNER.BAND.CS n) ++
  (List.range 4).map (fun n => R.TUNER.BAND.CP n) ++
  (List.range 4).map (fun n => R.TUNER.BAND.VALID n) ++
  (List.range 4).map (fun n => R.TUNER.BAND.BEST_RL n)

/-- The fields of the LOFTC window. -/
def windowLOFTC : List Fld :=
  [R.LOFTC.CMD.SLOT .app, R.LOFTC.CMD.OP .app, R.LOFTC.CMD.TO .app, R.LOFTC.CMD.AS .app, R.LOFTC.CMD.LEN .app, R.LOFTC.CMD_STATUS.RESULT .app, R.LOFTC.CMD_STATUS.SLOT .app, R.LOFTC.BELL.BELL .app, R.LOFTC.STATS.FREE_NOW .app, R.LOFTC.STATS.FREE_MIN .app, R.LOFTC.STATS.REFUSED .app, R.LOFTC.VIOLATION.FLAG .app] ++
  [R.LOFTC.VIOLATION.MULTI .app, R.LOFTC.VIOLATION.SLOT .app, R.LOFTC.VIOLATION.PARTY .app, R.LOFTC.VIOLATION.KIND .app, R.LOFTC.VIOLATION.COUNT .app, R.LOFTC.COPY_SRAM.ADDR, R.LOFTC.COPY_CTL.SLOT, R.LOFTC.COPY_CTL.DIR, R.LOFTC.COPY_CTL.WORDS, R.LOFTC.COPY_CTL.AS, R.LOFTC.COPY_CTL.START, R.LOFTC.COPY_STATUS.BUSY] ++
  [R.LOFTC.COPY_STATUS.DONE, R.LOFTC.COPY_STATUS.ERR, R.LOFTC.COPY_STATUS.CAUSE, R.LOFTC.COPY_STATUS.WORDS_DONE] ++
  (List.range 32).map (fun n => R.LOFTC.SLOT_STATE.OWNER .app n) ++
  (List.range 32).map (fun n => R.LOFTC.SLOT_STATE.PUBLISH .app n) ++
  (List.range 32).map (fun n => R.LOFTC.SLOT_STATE.FROZEN .app n) ++
  (List.range 32).map (fun n => R.LOFTC.SLOT_STATE.FROM .app n) ++
  (List.range 32).map (fun n => R.LOFTC.SLOT_STATE.HANDS .app n) ++
  (List.range 32).map (fun n => R.LOFTC.SLOT_STATE.LEN .app n)

/-- The fields of the UART0 window. -/
def windowUART0 : List Fld :=
  [R.UART.CFG.EN 0, R.UART.CFG.DATA7 0, R.UART.CFG.PARITY 0, R.UART.CFG.STOP2 0, R.UART.CFG.BAUD 0, R.UART.DATA.DATA 0, R.UART.STATUS.RXCNT 0, R.UART.STATUS.TXCNT 0, R.UART.STATUS.TXIDLE 0, R.UART.STATUS.PORT_UNCAL 0, R.UART.STATUS.OVR 0, R.UART.STATUS.FE 0] ++
  [R.UART.STATUS.PE 0, R.UART.STATUS.WOKE 0, R.UART.IE.IE 0]

/-- The fields of the UART1 window. -/
def windowUART1 : List Fld :=
  [R.UART.CFG.EN 1, R.UART.CFG.DATA7 1, R.UART.CFG.PARITY 1, R.UART.CFG.STOP2 1, R.UART.CFG.BAUD 1, R.UART.DATA.DATA 1, R.UART.STATUS.RXCNT 1, R.UART.STATUS.TXCNT 1, R.UART.STATUS.TXIDLE 1, R.UART.STATUS.PORT_UNCAL 1, R.UART.STATUS.OVR 1, R.UART.STATUS.FE 1] ++
  [R.UART.STATUS.PE 1, R.UART.STATUS.WOKE 1, R.UART.IE.IE 1, R.UART1.SVC.FORM, R.UART1.SVC.INV, R.UART1.SVC.IDLE, R.UART1.SVC_CTL.CLAIM, R.UART1.SVC_STAT.ROLE, R.UART1.SVC_STAT.ROUND, R.UART1.SVC_STAT.ROLE_CHG, R.UART1.SVC_STAT.FAIL, R.UART1.SVC_STAT.COLL]

/-- The fields of the SPI window. -/
def windowSPI : List Fld :=
  [R.SPI.CFG.EN, R.SPI.CFG.ROLE, R.SPI.CFG.MODE, R.SPI.CFG.LSB, R.SPI.CFG.DIV, R.SPI.CTL.CS_HOLD, R.SPI.DATA.DATA, R.SPI.STATUS.RXCNT, R.SPI.STATUS.TXCNT, R.SPI.STATUS.BUSY, R.SPI.STATUS.OVR, R.SPI.STATUS.UNDR]

/-- The fields of the I2C window. -/
def windowI2C : List Fld :=
  [R.I2C.CFG.EN, R.I2C.CFG.FAST, R.I2C.CMD.ADDR, R.I2C.CMD.READ, R.I2C.CMD.LEN, R.I2C.CMD.STOP, R.I2C.DATA.DATA, R.I2C.STATUS.BUSY, R.I2C.STATUS.DONE, R.I2C.STATUS.NACK, R.I2C.STATUS.ARB_LOST, R.I2C.STATUS.STUCK]

/-- The fields of the FIO window. -/
def windowFIO : List Fld :=
  [R.FIO.OUT.OUT, R.FIO.RETRY.SEC, R.FIO.STATUS.LATCHED, R.FIO.STATUS.LEVEL, R.FIO.STATUS.SHORT, R.FIO.STATUS.WIRED, R.FIO.STATUS.THERM, R.FIO.STATUS.WRAP, R.FIO.STATUS.HIT] ++
  (List.range 4).map (fun n => R.FIO.CFG.MODE n) ++
  (List.range 4).map (fun n => R.FIO.CFG.PULL n) ++
  (List.range 4).map (fun n => R.FIO.CFG.SAMP n) ++
  (List.range 4).map (fun n => R.FIO.CFG.DEB n) ++
  (List.range 4).map (fun n => R.FIO.CFG.WIDTH n) ++
  (List.range 4).map (fun n => R.FIO.CFG.GAP n) ++
  (List.range 4).map (fun n => R.FIO.CNT.CNT n) ++
  (List.range 4).map (fun n => R.FIO.THR.THR n) ++
  (List.range 4).map (fun n => R.FIO.ADD.ADD n) ++
  (List.range 4).map (fun n => R.FIO.PEND.PEND n) ++
  (List.range 4).map (fun n => R.FIO.SHORTS.SHORTS n)

/-- The fields of the GPIO window. -/
def windowGPIO : List Fld :=
  [R.GPIO.DIR.OUT, R.GPIO.OD.OD, R.GPIO.OUT.OUT, R.GPIO.IN.IN, R.GPIO.CONTEND.CONTEND, R.GPIO.WAKE_EDGE.EDGE]

/-- The fields of the BRIDGE window. -/
def windowBRIDGE : List Fld :=
  [R.BRIDGE.STATUS.LAST_ID .app, R.BRIDGE.STATUS.DIR .app, R.BRIDGE.STATUS.DOMAIN_OFF .app, R.BRIDGE.STATUS.REQ .app, R.BRIDGE.STATUS.TIMEOUT .app, R.BRIDGE.STATUS.MULTI .app, R.BRIDGE.FAULT_ADDR.ADDR .app, R.BRIDGE.OVR.AON_EV, R.BRIDGE.OVR.AON_RQ, R.BRIDGE.OVR.RF_EV, R.BRIDGE.OVR.RF_RQ, R.BRIDGE.TIMEOUT.RF_LIMIT] ++
  [R.BRIDGE.TIMEOUT.AON_LIMIT .app, R.BRIDGE.LOCKUP.LOCKUP_N .app, R.BRIDGE.CLKSTAT.HFXO_RUN .app, R.BRIDGE.CLKSTAT.LFXO_RUN .app, R.BRIDGE.CLKSTAT.TOSC_OK .app, R.BRIDGE.CLKSTAT.TOSC_FAIL .app, R.BRIDGE.COUNTS.TO_COUNT .app, R.BRIDGE.COUNTS.OVR_COUNT .app]

/-- The fields of the METVIEW window. -/
def windowMETVIEW : List Fld :=
  [R.METVIEW.SEAL.SEAL, R.METVIEW.SEAL.SEAL_EV, R.METVIEW.MSTATE.MSTATE, R.METVIEW.MSTATE.FRESH, R.METVIEW.MRST.MRST, R.METVIEW.IMAGE.ACTIVE, R.METVIEW.IMAGE.NONE, R.METVIEW.IMAGE.ROLLBACK, R.METVIEW.IMAGE.ARB2, R.METVIEW.VERSION.VERSION, R.METVIEW.GEN.GEN, R.METVIEW.TAG4.TAG4] ++
  (List.range 2).map (fun n => R.METVIEW.PUB.PUB n)

/-- The fields of the UPDATE window. -/
def windowUPDATE : List Fld :=
  [R.UPDATE.CTRL.RX_EN, R.UPDATE.CTRL.AUTO_APPLY, R.UPDATE.ACTIVE.BANK, R.UPDATE.CMD.APPLY, R.UPDATE.CMD.ABANDON, R.UPDATE.CMD.CONFIRM, R.UPDATE.CMD.DECRYPT, R.UPDATE.STATUS.STATE, R.UPDATE.STATUS.REASON, R.UPDATE.STATUS.DONE, R.UPDATE.STATUS.FAIL, R.UPDATE.STATUS.CMD_REF] ++
  [R.UPDATE.STATUS.STUCK, R.UPDATE.CID.CID, R.UPDATE.RX.RECEIVED, R.UPDATE.RX.TOTAL, R.UPDATE.FIRST_MISS.IDX, R.UPDATE.COUNTS.DUP, R.UPDATE.COUNTS.BAD, R.UPDATE.PROGRESS.BYTES, R.UPDATE.TRIAL.COUNT, R.UPDATE.TRIAL.MAX, R.UPDATE.PARTS.NEXT, R.UPDATE.PART_GEN.GEN] ++
  [R.UPDATE.DEC_OFS.VALUE, R.UPDATE.DEC_LEN.VALUE, R.UPDATE.DEC_DST.VALUE]

/-- The fields of the MSYSCTL window. -/
def windowMSYSCTL : List Fld :=
  [R.SYSCTL.READ_SYNC.SYNC .met, R.MSYSCTL.EVQ_HEAD.CODE, R.MSYSCTL.EVQ_HEAD.LEN, R.MSYSCTL.EVQ_TIME.UTIME, R.MSYSCTL.EVQ_CTL.POP, R.MSYSCTL.EVQ_CTL.IE, R.MSYSCTL.EVQ_STATUS.COUNT, R.MSYSCTL.EVQ_STATUS.OVERWRITTEN, R.MSYSCTL.EVQ_STATUS.OVF] ++
  (List.range 3).map (fun n => R.MSYSCTL.EVQ_DATA.DATA n)

/-- The fields of the MPWR window. -/
def windowMPWR : List Fld :=
  [R.PWR.PACE_CTRL.TARGET .met, R.PWR.PACE_CTRL.MODE .met, R.PWR.PACE_CTRL.FIXED_CODE .met, R.PWR.PACE_STATUS.VCORE_CODE .met, R.PWR.PACE_STATUS.LOCKED .met, R.PWR.PACE_STATUS.AT_CEIL .met, R.PWR.PACE_STATUS.AT_FLOOR .met, R.PWR.PACE_STATUS.UNDER .met, R.PWR.PACE_STATUS.CEIL_HIT .met, R.PWR.PACE_STATUS.RATE .met, R.PWR.PACE_LIMIT.VMIN_CODE .met, R.PWR.PACE_LIMIT.VMAX_CODE .met] ++
  [R.PWR.PACE_LIMIT.PERIOD .met, R.PWR.PACE_LIMIT.STEP .met, R.PWR.BIAS_CTRL.EN .met, R.PWR.BIAS_CTRL.MAX_RBB .met, R.PWR.BIAS_CTRL.TRACK .met, R.PWR.BIAS_STATUS.RBB_CODE .met, R.PWR.BIAS_STATUS.RET_GUARD .met, R.PWR.BIAS_STATUS.RET_LIMIT .met, R.PWR.WAKE_EN.EN .met, R.PWR.WAKE_CAUSE.C0 .met, R.PWR.WAKE_CAUSE.C1 .met, R.PWR.WAKE_CAUSE.C2 .met] ++
  [R.PWR.WAKE_CAUSE.C3 .met, R.PWR.WAKE_CAUSE.COUNT .met, R.PWR.WAKE_CAUSE.MORE .met, R.PWR.WAKE_CAUSE.REPLAY .met, R.PWR.WAKE_CAUSE.FROM .met, R.PWR.WAKE_CLR.CLR .met, R.MPWR.MCTL.RUN, R.MPWR.MCTL.KEEP, R.MPWR.MCTL.SHIP_OK, R.MPWR.MCTL.SERVICE, R.MPWR.MCTL.FREEZE_DONE, R.MPWR.RST_CAUSE.POR] ++
  [R.MPWR.RST_CAUSE.NRESET, R.MPWR.RST_CAUSE.MWDT, R.MPWR.RST_CAUSE.LOCKUP, R.MPWR.RST_CAUSE.CLKLOSS, R.MPWR.RST_CAUSE.MET_RESETS, R.MPWR.WDT.FEED, R.MPWR.WDT.PERIOD, R.MPWR.WDT.REMAIN, R.MPWR.ARB2.VALUE, R.MPWR.ARB2.TARGET, R.MPWR.ARB2.BURN, R.MPWR.ARB2.REFUSED] ++
  [R.MPWR.ARB2.SAT, R.MPWR.ARB2.KEY, R.MPWR.ECHK.START, R.MPWR.ECHK.BUSY, R.MPWR.ECHK.PASS, R.MPWR.ECHK.FRESH, R.MPWR.ECHK.FAIL, R.MPWR.ECHK.VLOAD, R.MPWR.ECHK.THR, R.MPWR.SEAL_STATUS.STATE, R.MPWR.SEAL_STATUS.SW, R.MPWR.SEAL_STATUS.SW_VALID] ++
  [R.MPWR.SEAL_STATUS.CYCLE, R.MPWR.SEAL_STATUS.REMAIN, R.MPWR.SEAL_STATUS.BURN, R.MPWR.SEAL_STATUS.SPLIT, R.MPWR.SEAL_STATUS.REFUSED, R.MPWR.SEAL_STATUS.BROKE, R.MPWR.SEAL_CMD.CMD, R.MPWR.SEAL_CMD.KEY]

/-- The fields of the MBRIDGE window. -/
def windowMBRIDGE : List Fld :=
  [R.BRIDGE.STATUS.LAST_ID .met, R.BRIDGE.STATUS.DIR .met, R.BRIDGE.STATUS.DOMAIN_OFF .met, R.BRIDGE.STATUS.REQ .met, R.BRIDGE.STATUS.TIMEOUT .met, R.BRIDGE.STATUS.MULTI .met, R.BRIDGE.FAULT_ADDR.ADDR .met, R.BRIDGE.TIMEOUT.AON_LIMIT .met, R.BRIDGE.LOCKUP.LOCKUP_N .met, R.BRIDGE.CLKSTAT.HFXO_RUN .met, R.BRIDGE.CLKSTAT.LFXO_RUN .met, R.BRIDGE.CLKSTAT.TOSC_OK .met] ++
  [R.BRIDGE.CLKSTAT.TOSC_FAIL .met, R.BRIDGE.COUNTS.TO_COUNT .met, R.BRIDGE.COUNTS.OVR_COUNT .met, R.MBRIDGE.OVR.MAON_EV, R.MBRIDGE.OVR.MAON_RQ]

/-- The fields of the MBUS window. -/
def windowMBUS : List Fld :=
  [R.ARB.FAULT_STATUS.CAUSE .met, R.ARB.FAULT_STATUS.REQ .met, R.ARB.FAULT_STATUS.DIR .met, R.ARB.FAULT_STATUS.FETCH .met, R.ARB.FAULT_STATUS.VALID .met, R.ARB.FAULT_STATUS.MULTI .met, R.ARB.FAULT_STATUS.COUNT .met, R.ARB.FAULT_ADDR.ADDR .met]

/-- The fields of the MFLASHC window. -/
def windowMFLASHC : List Fld :=
  [R.FLASHC.STATUS.BUSY .met, R.FLASHC.STATUS.BUSY0 .met, R.FLASHC.STATUS.BUSY1 .met, R.FLASHC.STATUS.BUSYB .met, R.FLASHC.STATUS.OP .met, R.FLASHC.STATUS.ARMED .met, R.FLASHC.STATUS.DONE .met, R.FLASHC.STATUS.PFAIL .met, R.FLASHC.STATUS.EFAIL .met, R.FLASHC.STATUS.VERIFY_CORR .met, R.FLASHC.STATUS.TIRED_HIT .met, R.FLASHC.STATUS.NOT_ERASED .met] ++
  [R.FLASHC.STATUS.SEQERR .met, R.FLASHC.STATUS.STRAY .met, R.FLASHC.STATUS.PROTERR .met, R.FLASHC.STATUS.REFUSED .met, R.FLASHC.STATUS.ABORTED .met, R.FLASHC.OP_ADDR.ADDR .met, R.FLASHC.LAST_PULSES.PROG .met, R.FLASHC.LAST_PULSES.ERASE .met, R.FLASHC.CTRL.DONE_IE .met, R.FLASHC.CTRL.FAIL_IE .met, R.FLASHC.CTRL.ECC_IE .met, R.FLASHC.CTRL.SEQ_IE .met] ++
  [R.FLASHC.ECC_STATUS.COR .met, R.FLASHC.ECC_STATUS.UNCOR .met, R.FLASHC.ECC_STATUS.FETCH .met, R.FLASHC.ECC_STATUS.REQ .met, R.FLASHC.ECC_STATUS.COR_COUNT .met, R.FLASHC.ECC_STATUS.UNCOR_COUNT .met, R.FLASHC.ECC_ADDR.ADDR .met, R.FLASHC.ECNT_IDX.BLOCK .met, R.FLASHC.ECNT_IDX.ARRAY .met, R.FLASHC.ECNT.COUNT .met, R.FLASHC.ECNT.TIRED .met, R.FLASHC.ECNT.LOST .met] ++
  [R.FLASHC.ECNT.VALID .met, R.FLASHC.ECNT.OVER .met, R.MFLASHC.MPROT.HWPROT, R.MFLASHC.MPROT.LOCK, R.MFLASHC.MPROT.ACTIVE] ++
  (List.range 4).map (fun n => R.MFLASHC.MXO.START n) ++
  (List.range 4).map (fun n => R.MFLASHC.MXO.END n) ++
  (List.range 4).map (fun n => R.MFLASHC.MXO.EN n) ++
  (List.range 4).map (fun n => R.MFLASHC.MXO.LOCK n)

/-- The fields of the MADC window. -/
def windowMADC : List Fld :=
  [R.MADC.CTRL.OSR, R.MADC.CTRL.CHOP, R.MADC.STATUS.BUSY, R.MADC.STATUS.OWNER, R.MADC.STATUS.QUEUED, R.MADC.STATUS.READINGS]

/-- The fields of the STRIP window. -/
def windowSTRIP : List Fld :=
  [R.STRIP.CFG.NCELL, R.STRIP.CFG.VEXC, R.STRIP.CFG.FS, R.STRIP.CFG.SETTLE, R.STRIP.CFG.EXC_SETTLE, R.STRIP.CFG.SPAN_AUTO, R.STRIP.CFG.IE, R.STRIP.LIMIT.CELL_MIN, R.STRIP.LIMIT.CELL_MAX, R.STRIP.CMD.START, R.STRIP.CMD.CONT, R.STRIP.CMD.ABORT] ++
  [R.STRIP.STATUS.BUSY, R.STRIP.STATUS.DONE, R.STRIP.STATUS.FAULT, R.STRIP.STATUS.REJECT, R.STRIP.STATUS.ABORTED, R.STRIP.STATUS.IMPL, R.STRIP.STATUS.OVR, R.STRIP.STATUS.VALID, R.STRIP.IMON.CURRENT, R.STRIP.IMON.LOW, R.STRIP.DIAG.TAP_SUSPECT, R.STRIP.DIAG.CELL_SUSPECT] ++
  [R.STRIP.DIAG.CLASS, R.STRIP.LEVELS.TAP_HIGH, R.STRIP.LEVELS.OPEN_CELL, R.STRIP.CONT.TAP_OPEN, R.STRIP.CONT.DONE] ++
  (List.range 8).map (fun n => R.STRIP.CELL.CODE n) ++
  (List.range 8).map (fun n => R.STRIP.SPAN.CODE n)

/-- The fields of the PT window. -/
def windowPT : List Fld :=
  [R.PT.CFG.EN_A, R.PT.CFG.EN_B, R.PT.CFG.VEXC, R.PT.CFG.FS_A, R.PT.CFG.FS_B, R.PT.CFG.SETTLE, R.PT.CFG.EXC_SETTLE, R.PT.CMD.START, R.PT.CMD.ABORT, R.PT.STATUS.BUSY, R.PT.STATUS.DONE, R.PT.STATUS.FAULT] ++
  [R.PT.STATUS.REJECT, R.PT.STATUS.ABORTED, R.PT.STATUS.IMPL_A, R.PT.STATUS.IMPL_B, R.PT.STATUS.OVR_A, R.PT.STATUS.OVR_B, R.PT.STATUS.OPEN, R.PT.IMON.CURRENT, R.PT.LIM_A.MIN, R.PT.LIM_A.MAX, R.PT.RES_A.CODE, R.PT.LIM_B.MIN] ++
  [R.PT.LIM_B.MAX, R.PT.RES_B.CODE]

/-- The fields of the FLOW window. -/
def windowFLOW : List Fld :=
  [R.FLOW.CFG.NPAIR, R.FLOW.CFG.ORDER, R.FLOW.CFG.EXCL, R.FLOW.CFG.MIN_GOOD, R.FLOW.CFG.IE, R.FLOW.TIMING.NPULSE, R.FLOW.TIMING.HALF, R.FLOW.TIMING.RX_DELAY, R.FLOW.TIMING2.RX_WIN, R.FLOW.TIMING2.SHOT_PERIOD, R.FLOW.TIMING2.PAIR_PERIOD, R.FLOW.RX.GAIN] ++
  [R.FLOW.RX.SKIP, R.FLOW.RX.HITS, R.FLOW.RX.FRAC, R.FLOW.RX.LOOP_K, R.FLOW.RX.LOOP_EN, R.FLOW.THR_LIM.THR_MIN, R.FLOW.THR_LIM.THR_MAX, R.FLOW.CMD.START, R.FLOW.CMD.ABORT, R.FLOW.STATUS.BUSY, R.FLOW.STATUS.QUEUED, R.FLOW.STATUS.DONE] ++
  [R.FLOW.STATUS.FAULT, R.FLOW.STATUS.REJECT, R.FLOW.STATUS.ABORTED, R.FLOW.STATUS.EMPTY, R.FLOW.STATUS.LOST, R.FLOW.STATUS.SLIP, R.FLOW.STATUS.AMP_LOW, R.FLOW.STATUS.DRV_OPEN, R.FLOW.STATUS.DRV_SHORT, R.FLOW.STATUS.VUS_LOW, R.FLOW.STATUS.CAL_FAIL, R.FLOW.STATUS.RESEED] ++
  [R.FLOW.STATUS.DRV_CH, R.FLOW.STATUS.GOOD, R.FLOW.COUNTS.NOECHO, R.FLOW.COUNTS.SLIPS, R.FLOW.COUNTS.SEQS, R.FLOW.DT_MEAN.DT, R.FLOW.DT_SPREAD.SPREAD, R.FLOW.AMP.AMP_DN, R.FLOW.AMP.AMP_UP, R.FLOW.LOOP_STATE.THR_DN, R.FLOW.LOOP_STATE.THR_UP, R.FLOW.CAL.FOSC_CNT] ++
  [R.FLOW.MEAN_DN.TOF, R.FLOW.TOF_EXP_DN.TOF, R.FLOW.MEAN_UP.TOF, R.FLOW.TOF_EXP_UP.TOF]

/-- The fields of the TOUCH window. -/
def windowTOUCH : List Fld :=
  [R.TOUCH.CFG.EN, R.TOUCH.CFG.IDLE_INT, R.TOUCH.CFG.FAST_INT, R.TOUCH.CFG.DEB, R.TOUCH.CFG.IE, R.TOUCH.THR.ON_THR, R.TOUCH.THR.OFF_THR, R.TOUCH.THR2.NEG_THR, R.TOUCH.THR2.TRACK_K, R.TOUCH.THR2.STUCK_STEP, R.TOUCH.MAX_ON.SEC, R.TOUCH.STATUS.STATE] ++
  [R.TOUCH.STATUS.PRESS, R.TOUCH.STATUS.RELEASE, R.TOUCH.STATUS.STUCK, R.TOUCH.STATUS.RECAL, R.TOUCH.STATUS.OVR, R.TOUCH.PU.PU_TOUCH, R.TOUCH.PU.PU_LOW, R.TOUCH.PU.NOREF, R.TOUCH.CMD.RECAL] ++
  (List.range 4).map (fun n => R.TOUCH.RAW.RAW n) ++
  (List.range 4).map (fun n => R.TOUCH.BASE.BASE n)

/-- The fields of the TAMPER window. -/
def windowTAMPER : List Fld :=
  [R.TAMPER.CFG.MODE0, R.TAMPER.CFG.MODE1, R.TAMPER.CFG.INT, R.TAMPER.CFG.DEB, R.TAMPER.CFG.IE, R.TAMPER.STATUS.LEVEL0, R.TAMPER.STATUS.LEVEL1, R.TAMPER.STATUS.TRIG0, R.TAMPER.STATUS.TRIG1, R.TAMPER.COUNT.COUNT0, R.TAMPER.COUNT.COUNT1, R.TAMPER.TIME0.TIME] ++
  [R.TAMPER.TIME1.TIME]

/-- The fields of the LCD window. -/
def windowLCD : List Fld :=
  [R.LCD.CFG.EN, R.LCD.CFG.FRAME, R.LCD.CFG.CONTRAST, R.LCD.CFG.TCOMP, R.LCD.CFG.BLINK, R.LCD.CTRL.SWAP, R.LCD.STATUS.VLCD_MV, R.LCD.STATUS.READY, R.LCD.STATUS.SHED, R.LCD.STATUS.PUMP_FAIL] ++
  (List.range 4).map (fun n => R.LCD.SEG_COM.SEG n) ++
  (List.range 4).map (fun n => R.LCD.BLINK_COM.BLINK n) ++
  (List.range 12).map (fun n => R.LCD.PINSEL.SEL n)

/-- The fields of the MLOFTC window. -/
def windowMLOFTC : List Fld :=
  [R.LOFTC.CMD.SLOT .met, R.LOFTC.CMD.OP .met, R.LOFTC.CMD.TO .met, R.LOFTC.CMD.AS .met, R.LOFTC.CMD.LEN .met, R.LOFTC.CMD_STATUS.RESULT .met, R.LOFTC.CMD_STATUS.SLOT .met, R.LOFTC.BELL.BELL .met, R.LOFTC.STATS.FREE_NOW .met, R.LOFTC.STATS.FREE_MIN .met, R.LOFTC.STATS.REFUSED .met, R.LOFTC.VIOLATION.FLAG .met] ++
  [R.LOFTC.VIOLATION.MULTI .met, R.LOFTC.VIOLATION.SLOT .met, R.LOFTC.VIOLATION.PARTY .met, R.LOFTC.VIOLATION.KIND .met, R.LOFTC.VIOLATION.COUNT .met] ++
  (List.range 32).map (fun n => R.LOFTC.SLOT_STATE.OWNER .met n) ++
  (List.range 32).map (fun n => R.LOFTC.SLOT_STATE.PUBLISH .met n) ++
  (List.range 32).map (fun n => R.LOFTC.SLOT_STATE.FROZEN .met n) ++
  (List.range 32).map (fun n => R.LOFTC.SLOT_STATE.FROM .met n) ++
  (List.range 32).map (fun n => R.LOFTC.SLOT_STATE.HANDS .met n) ++
  (List.range 32).map (fun n => R.LOFTC.SLOT_STATE.LEN .met n) ++
  [R.MLOFTC.RESERVE.MET_RSV, R.MLOFTC.IMG_META.ACTIVE, R.MLOFTC.IMG_META.NONE, R.MLOFTC.IMG_META.ROLLBACK] ++
  (List.range 2).map (fun n => R.MLOFTC.PUB.PUB n) ++
  [R.MLOFTC.IMG_VER.VALUE, R.MLOFTC.IMG_GEN.VALUE, R.MLOFTC.IMG_TAG.VALUE]

/-- The fields of the MAON window. -/
def windowMAON : List Fld :=
  [R.MAON.RTC_SEC.SEC, R.MAON.RTC_SUB.SUB, R.MAON.ALARM_M.AT, R.MAON.ALARM_M_CTL.EN, R.MAON.ALARM_M_CTL.FIRED, R.MAON.ALARM_M_CTL.MISSED, R.MAON.STATUS.LEVEL, R.MAON.STATUS.LOCK7, R.MAON.STATUS.TIME_UNSET, R.MAON.STATUS.LFXO_RUN, R.MAON.STATUS.TOSC_FAIL] ++
  (List.range 40).map (fun n => R.MAON.SHADOW.OPT n)

/-- The fields of the window at a base address (Tables MAP-2 and MAP-5); none where no window with registers stands. -/
def windowFields (base : Nat) : List Fld :=
  match base with
  | 0x40000000 => windowSYSCTL
  | 0x40001000 => windowPWR
  | 0x40002000 => windowAON
  | 0x40003000 => windowFLASHC
  | 0x40004000 => windowDMA
  | 0x40005000 => windowARB
  | 0x40006000 => windowCMACE
  | 0x40007000 => windowDICT
  | 0x40008000 => windowRADIO
  | 0x40009000 => windowLINK
  | 0x4000A000 => windowTUNER
  | 0x4000B000 => windowLOFTC
  | 0x4000C000 => windowUART0
  | 0x4000D000 => windowUART1
  | 0x4000E000 => windowSPI
  | 0x4000F000 => windowI2C
  | 0x40010000 => windowFIO
  | 0x40011000 => windowGPIO
  | 0x40012000 => windowBRIDGE
  | 0x40014000 => windowMETVIEW
  | 0x40015000 => windowUPDATE
  | 0x48000000 => windowMSYSCTL
  | 0x48001000 => windowMPWR
  | 0x48002000 => windowMBRIDGE
  | 0x48003000 => windowMBUS
  | 0x48004000 => windowMFLASHC
  | 0x48005000 => windowMADC
  | 0x48006000 => windowSTRIP
  | 0x48007000 => windowPT
  | 0x48008000 => windowFLOW
  | 0x48009000 => windowTOUCH
  | 0x4800A000 => windowTAMPER
  | 0x4800B000 => windowLCD
  | 0x4800C000 => windowMLOFTC
  | 0x4800D000 => windowMAON
  | _ => []

/-- CFG_COMMIT of the window at `base` (Table REG-1). -/
def R.CFG_COMMIT.PENDING (base : Nat) : Fld :=
  { addr := base + 0xFC, lsb := 8, width := 1, acc := .ro, rst := 0 }
def R.CFG_COMMIT.DROPPED (base : Nat) : Fld :=
  { addr := base + 0xFC, lsb := 9, width := 1, acc := .w1c, rst := 0 }
def R.CFG_COMMIT.LOCKED (base : Nat) : Fld :=
  { addr := base + 0xFC, lsb := 10, width := 1, acc := .ro, rst := 0 }

end Sys2Proof
end

