-- ==== Sys2Proof/Machine/State.lean ====
section
/-! DEFINITION. The state of the block as plain data, its reset value, and the reasons a step can stop. -/

namespace Sys2Proof.Machine

open Sys2Proof

/-- Field values by key, in the order of the keys; a field that is not listed holds the value its table gives for reset. -/
abbrev RegFile := List (Nat × Nat)

/-- One entry of an event log (Table CAT-11, Table LREC-6). -/
structure Event where
  seq : Nat
  utime : Nat
  code : Nat
  flags : Nat
  data : List Nat
  deriving DecidableEq, Repr

/-- A code that R523 limits to one entry in each minute interval, with the occurrences not yet reported. -/
structure MinuteCount where
  code : Nat
  more : Nat
  data : List Nat
  deriving DecidableEq, Repr

/-- The two hardware logs: the system event log (R563), its minute counts (R523) and the MET event queue (R378). -/
structure Logs where
  sys : List Event
  nextSeq : Nat
  minute : List MinuteCount
  met : List Event
  deriving DecidableEq, Repr

/-- What the last access to a fabric gave its requester: the data, and for a fault its cause (Table MAP-6) and what the
core takes (R202). -/
structure AccessResult where
  data : Nat
  cause : Nat
  mcause : Nat
  mtval : Nat
  deriving DecidableEq, Repr

/-- One access at a word bridge (R48): what it is, its limit in ticks (R51, R63), 0 while it stands before a FIFO whose two
entries are taken; whether it is a READ_SYNC and whether AON has already taken that (R179).  `mode` is 0 for a plain
access and 1, 2, 3 for a set, clear or toggle alias. -/
structure BridgeAccess where
  id : Nat
  req : Nat
  write : Bool
  addr : Nat
  data : Nat
  mode : Nat
  limit : Nat
  sync : Bool
  taken : Bool
  deriving DecidableEq, Repr

/-- The bridges to the clocked islands (ch. 02): accesses in order of entry, pulse events not yet acknowledged, the
consecutive timeouts of each bridge (R56), and the fallback to LFXO periods that TOSC_FAIL starts (R57). -/
structure Bridges where
  waiting : List BridgeAccess
  pulses : List Nat
  runs : RegFile
  fallback : Bool
  deriving DecidableEq, Repr

/-- One pace loop and back-bias loop (R35 to R44): updates in band so far, the rate required at the last update, the
bias in force, the R44 limit of this sleep, and whether the loop acts in it (R62). -/
structure RailLoop where
  inBand : Nat
  required : Nat
  bias : Nat
  biasCap : Option Nat
  biasOn : Bool
  deriving DecidableEq, Repr

/-- The states of a domain (ch. 04); SHIP and reset are Off. -/
inductive DomState where
  | on
  | retained
  | off
  deriving DecidableEq, Repr

/-- A domain with the transition in progress: the state being entered, or the exit; the causes latched during an entry
(R116); whether its entry is held, and whether ENTRY_HELD was logged for it (R112). -/
structure DomainPower where
  st : DomState
  entering : Option DomState
  exiting : Bool
  latched : List Nat
  held : Bool
  heldLogged : Bool
  deriving DecidableEq, Repr

/-- The mode controller (ch. 04) and the reset holds (ch. 05): the domains; SHIP, its entry in progress, its exit for a wake
latched in that entry, and an accepted SHIP request; the locked HIBERNATE of L7 and the wait for FREEZE_DONE before it;
ACORE's demand, its hold in reset from L5, and the WFI of each core; the clock-loss hold; and the demands of the link
engine: a frame exchange, work on frames that needs APP engines, an open gleaning window, a frame that waits.  `stretch`
counts measurement alarms at L6. -/
structure Power where
  app : DomainPower
  met : DomainPower
  rf : DomainPower
  loft : DomainPower
  ship : Bool
  shipping : Bool
  shipExit : Bool
  shipAccepted : Bool
  frozen : Bool
  freezeWait : Bool
  acoreRuns : Bool
  acoreHeld : Bool
  acoreWfi : Bool
  mcoreWfi : Bool
  clockLoss : Bool
  exchange : Bool
  linkWork : Bool
  gleanOpen : Bool
  frameWait : Bool
  stretch : Nat
  deriving DecidableEq, Repr

/-- A sample of the supply monitor as SUPPLY_MONITOR_SAMPLE carries it. -/
structure MonitorSample where
  vmeas : Nat
  upsets : List Upset
  onAir : Nat
  deriving DecidableEq, Repr

/-- The supply monitor's runs (R81, R82): consecutive samples below each of L1 to L7, and above the way up; VBAT in mV as the
last measurement of the reservoir met it (R71); and the ladder sample that waits for the energy check to end (R367). -/
structure SupplyRuns where
  below : List Nat
  up : Nat
  vbat : Nat
  due : Option MonitorSample := none
  deriving DecidableEq, Repr

/-- One-time-programmable content (ch. 09): unit ID, root key, the three anti-rollback counters, and the seal fuse pairs
S_1 to S_8 and B_1 to B_8, each 0 intact, 1 split, 2 blown; the split pairs of the counters; and whether a word reads
uncorrectable (R150). -/
structure Otp where
  unitId : Nat
  rootKey : List Nat
  arb : List Nat
  sealS : List Nat
  sealB : List Nat
  splits : List (Nat × Nat)
  bad : Bool
  deriving DecidableEq, Repr

/-- One burn of the fuse programmer (R249): a step of counter `item` 0 to 2, or with `item` 3 the seal pair 2k for S_k and
2k + 1 for B_k; the counter's value before its advance, and whether the burn is the last of its request; for S whether
the command was RESEAL; the requester that waits for the burn's end, 15 for none. -/
structure Burn where
  item : Nat
  pair : Nat
  before : Nat
  last : Bool
  reseal : Bool
  sd : Side
  req : Nat
  deriving DecidableEq, Repr

/-- A command sequence in progress in the decoder of one flash array (R223, R224): the requester it is bound to, the
writes taken, the command of write 3, and what write 4 gave. -/
structure FlashSeq where
  arr : Nat
  req : Nat
  step : Nat
  cmd : Nat
  addr : Nat
  low : Nat
  deriving DecidableEq, Repr

/-- An operation that runs in a flash array: a program of a double word or an erase of a block, with its physical
address; whether an abort has been taken (R230). -/
structure FlashOp where
  arr : Nat
  erase : Bool
  addr : Nat
  data : List Nat
  req : Nat
  aborting : Bool
  deriving DecidableEq, Repr

/-- One slot of the Loft (R283): owner code 0 FREE, 1 MET, 2 APP, 3 DMA, 4 DICT, 5 LINK
(ch. 10); its flags, the last giver, the GIVEs since the claim and the valid bytes. -/
structure Slot where
  owner : Nat
  publish : Bool
  frozen : Bool
  giver : Nat
  hands : Nat
  len : Nat
  deriving DecidableEq, Repr

/-- A copy of the Loft bridge in progress (R287), with its order as latched at START, the words served before a command met
it (R297), and the fault that stopped it there: the address, the kind of access and the cause. -/
structure CopyJob where
  slot : Nat
  toSlot : Bool
  words : Nat
  party : Nat
  sram : Nat
  served : Nat := 0
  fault : Option (Nat × Nat × Nat) := none
  deriving DecidableEq, Repr

/-- How one channel of a scan is read, latched at its START (R304, R305, R309): the code of FS, CHOP, and the bounds in 64
codes. -/
structure Channel where
  fs : Nat
  chop : Bool
  lo : Int
  hi : Int
  deriving DecidableEq, Repr

/-- A reading as it is stored: its code, and whether it overranged. -/
structure Code where
  value : Int
  clipped : Bool
  deriving DecidableEq, Repr

/-- A job that uses the MADC, or shares its turns (R306, R314, R338), with the configuration latched at its START. -/
inductive MetJob where
  | strip (n : Nat) (spanAuto : Bool) (ch : Channel)
  | cont (n : Nat)
  | pt (a b : Option Channel)
  | flow
  deriving DecidableEq, Repr

/-- One shot of a flow sequence: its time of flight and amplitude, and whether it was good (R329). -/
structure FlowShot where
  tof : Nat
  amp : Nat
  good : Bool
  deriving DecidableEq, Repr

/-- The configuration of a flow sequence, latched at START with its "acts as" rules applied (R332, Table FLOW-6). -/
structure FlowCfg where
  npair : Nat
  order : Bool
  excl : Bool
  minGood : Nat
  half : Nat
  delay : Nat
  window : Nat
  skip : Nat
  hits : Nat
  frac : Nat
  loopK : Nat
  loopEn : Bool
  thrMin : Nat
  thrMax : Nat
  deriving DecidableEq, Repr

/-- The flow front-end (ch. 12): the sequence, if any, whether its calibration has passed, its shots in order, the channel
that sends in the shot that runs, 1 or 2 (R326), and the consecutive slips of each direction (R331). -/
structure Flow where
  cfg : Option FlowCfg
  calibrated : Bool
  shots : List FlowShot
  sending : Option Nat
  slipsDn : Nat
  slipsUp : Nat
  deriving DecidableEq, Repr

/-- One touch channel (ch. 13): whether it has powered up (R350), a CMD.RECAL not yet taken, the consecutive samples at
or above ON_THR and below OFF_THR, and the samples gathered at power-up or in RECAL. -/
structure TouchCh where
  up : Bool
  recal : Bool
  onRun : Nat
  offRun : Nat
  samples : List Nat
  deriving DecidableEq, Repr

/-- One tamper input (R351, R352): the level of its last sample, the consecutive samples at it, the reference of mode 3,
and whether the debounced condition stands. -/
structure TamperIn where
  last : Option Bool
  run : Nat
  ref : Option Bool
  active : Bool
  deriving DecidableEq, Repr

/-- The charge pump of the display (R355). -/
inductive Pump where
  | off
  | starting
  | running
  | failed
  deriving DecidableEq, Repr

/-- The sequencer of ch. 13: the four touch channels, the two tamper inputs, the displayed copy of the segment data (R356)
and the charge pump. -/
structure Sequencer where
  touch : List TouchCh
  tamper : List TamperIn
  shown : List Nat
  pump : Pump
  deriving DecidableEq, Repr

/-- The MROM routines: what the last one returned in a0, the tag CMAC computed, the cursor of the legal event log since
the last MET start (R376: its next position and sequence number), whether the journal's is built (R371), whether MROM
waits without a legal image (R151); and the registers that take one write after a MET reset: whether WDT.PERIOD has had
it, and the addresses of the IMG registers that have (R291). -/
structure Mrom where
  result : Nat
  tag : List Nat
  cursor : Option (Nat × Nat)
  journal : Bool
  noImage : Bool
  wdtSet : Bool
  imgSet : List Nat
  deriving DecidableEq, Repr

/-- The boot ROM (ch. 05, 23, 25, 26): what its last routine returned in a0, the check value PW_TAG computed, whether the
ROM loader runs, whether it sleeps until a wake (R149), whether ACORE starts from it when APP is next On (R106), and its
last answer frame (R640). -/
structure BootRom where
  result : Nat
  tag : List Nat
  loader : Bool
  sleeping : Bool
  restart : Bool
  reply : List Nat
  deriving DecidableEq, Repr

/-- One UART (ch. 25): its RX and TX FIFOs and the byte in the transmit shifter. -/
structure Uart where
  rx : List Nat
  tx : List Nat
  shifter : Option Nat
  deriving DecidableEq, Repr

/-- Where a claim of the service link stands (R637 to R639). -/
inductive SvcPhase where
  | idle
  | waiting
  | claiming
  | backoff
  deriving DecidableEq, Repr

/-- A transfer of the I2C controller: target address, direction, bytes, and whether STOP follows. -/
structure I2cXfer where
  addr : Nat
  read : Bool
  len : Nat
  stop : Bool
  deriving DecidableEq, Repr

/-- One field I/O pin (R644 to R647): the level of its last sample, the consecutive samples at it and the debounced level;
whether a pulse is low, whether its gap runs, and whether the thermal shutdown holds. -/
structure FioPin where
  last : Option Bool
  run : Nat
  level : Option Bool
  pulse : Bool
  gap : Bool
  therm : Bool
  deriving DecidableEq, Repr

/-- The wired ports (ch. 25): whether POSC runs, whether its calibration has ended and its count, 0 for none; the two
UARTs; the service link's claim with its round and the bytes last sent for it; SPI and I2C; the FIO pins. -/
structure Ports where
  posc : Bool
  ready : Bool
  scale : Nat
  uarts : List Uart
  svc : SvcPhase
  round : Option Nat
  svcSent : List Nat
  spiRx : List Nat
  spiTx : List Nat
  i2cRx : List Nat
  i2cTx : List Nat
  i2c : Option I2cXfer
  fio : List FioPin
  deriving DecidableEq, Repr

/-- What a synthesiser calibration is for (R398, R413). -/
inductive CalFor where
  | tune
  | tx
  | glean
  | test
  deriving DecidableEq, Repr

/-- The front-end pins by their meaning (Table RF-6): the external PA powered, PA_MODE at the gain path, TRX at transmit,
the external LNA powered. -/
structure FrontPins where
  pa : Bool
  gain : Bool
  tx : Bool
  lna : Bool
  deriving DecidableEq, Repr

/-- The configuration that a radio operation latches at its start (R401): of the tuner EN, AUTO, RL_THR, FAIL_THR, MIS_N,
MAX_PROBES and the initial codes; of the front end the times in microseconds, LNA_USE, and POL, MODE_TX and MODE_BYP, as
they act. -/
structure OpConfig where
  tuner : Bool
  auto : Bool
  rlThr : Nat
  failThr : Nat
  misN : Nat
  maxProbes : Nat
  initCs : Nat
  initCp : Nat
  swGap : Nat
  paLead : Nat
  paLag : Nat
  lnaLead : Nat
  lnaUse : Bool
  pol : Nat
  modeTx : Bool
  modeByp : Bool
  deriving DecidableEq, Repr

/-- The transceiver and tuner beside their registers (ch. 15): the carrier (in Hz × 2^19) and die temperature of the last
calibration, the calibration in progress and whether it is the retry, the test that runs, the DIRTY bands, a CMD.RETUNE
not yet taken, the bands retuned less than RETUNE_MIN ago, and those whose trigger is held.  The front-end pins, with the
moves that took them there in microseconds from the start of the transmission, its last bit, or the start of the
reception; what the transceiver turns to once the end of a transmission is over (R406); and the configuration of the last
operation. -/
structure Radio where
  calAt : Option (Nat × Int)
  calFor : Option CalFor
  calRetry : Bool
  test : Nat
  testExt : Bool
  dirty : List Nat
  retuneCmd : Bool
  recent : List Nat
  held : List Nat
  pins : FrontPins
  moves : List (Nat × FrontPins)
  turn : Option Nat
  op : OpConfig
  deriving DecidableEq, Repr

/-- Where a frame comes from: a slot given to LINK, the forward queue, the alarm frame, or the BUSY buffer. -/
inductive FrameSrc where
  | slot
  | fwd
  | alarm
  | busy
  deriving DecidableEq, Repr

/-- A frame in play (ch. 16 to 18): its source, slot and giver; the submission header's FORM, flags, CHAN, DBM and RETRY;
the bytes as they go on air without FCS, once built; the attempts made, whether one went on air, the last failure's
result, its duty wait (`some 0` passed, to be resumed; `some (n + 1)` n + 1 minutes left) and whether it was reported;
for WMBUS the sub-header; and its place in order of arrival. -/
structure TxFrame where
  src : FrameSrc
  slot : Nat
  giver : Nat
  form : Nat
  flags : Nat
  chan : Nat
  dbm : Nat
  retry : Nat
  bytes : List Nat
  built : Bool
  attempts : Nat
  onAir : Bool
  lastFail : Nat
  wait : Option Nat
  told : Bool
  wmb : List Nat
  seq : Nat
  deriving DecidableEq, Repr

/-- The stages of an attempt (R433): `again` between an attempt that failed and the next of its frame, `energy` and
`tuneWait` while the frame or its retune waits for energy, `admitted` and `tuneReady` once it may go on and waits for
RF_READY (R394). -/
inductive AttPhase where
  | again
  | backoff
  | energy
  | admitted
  | tuneWait
  | tuneReady
  | tuneCal
  | tune
  | cal
  | ready
  | tx
  | ackWait
  | window
  deriving DecidableEq, Repr

/-- The attempt in progress: its frame and stage; the address it goes to and the parents latched; the carrier in
Hz × 2^19, the bits on air and the rate; the power and whether the external PA serves it, and whether the ladder caps the
one or blocks the other; whether a retune has been tried, and the die temperature at its start. -/
structure Attempt where
  frame : TxFrame
  phase : AttPhase
  dst : Nat
  parents : Nat
  freq : Nat
  bits : Nat
  rate : Nat
  dbm : Int
  ext : Bool
  capped : Bool
  blocked : Bool
  tuned : Bool
  temp : Int
  deriving DecidableEq, Repr

/-- A DONE entry (R439). -/
structure DoneEntry where
  slot : Nat
  giver : Nat
  result : Nat
  attempts : Nat
  deriving DecidableEq, Repr

/-- An entry of the parent table (R488), with what the last beacon of that sender said. -/
structure Parent where
  addr : Nat
  ring : Nat
  rssi : Nat
  age : Nat
  intEff : Nat
  root : Nat
  tq : Nat
  ctSec : Nat
  bseq : Nat
  ttag : List Nat
  deriving DecidableEq, Repr

/-- An acknowledgement owed (R444): the frame's FCS, whether it is a duplicate, and its carrier. -/
structure AckOwed where
  fcs : Nat
  dup : Bool
  freq : Nat
  deriving DecidableEq, Repr

/-- A beacon delivered to the mesh function: its bytes without FCS, its RSSI code, and the RTC time of its sync word in
units of 1/32,768 s. -/
structure BeaconIn where
  bytes : List Nat
  rssi : Nat
  time : Nat
  deriving DecidableEq, Repr

/-- The link engine and its mesh function (ch. 16 to 19): the transmit queue, DICT's response lane, the forward queue, the
alarm frame and the BUSY buffer; the attempt in progress, one that yielded the head to the BUSY buffer (R515), and the
number of the next arrival; DONE; the acknowledgement owed, and the carrier and charge of one on air; the RX FIFO as the words of each record; the duplicate cache
as (ORIG, FC, UTIME); the descendant table as (ORIG, UTIME); the duty buckets of each sub-band in microseconds, oldest
first; the gleaning window: 0 closed, 1 calibrating, 2 open, 3 and 4 the same for a rescue listen.  Parents in table
order, the beacons waiting, the BSEQ this collector sent last, the time budget used today in 1/32,768 s, whether
TIME_REFUSED was reported today, whether the event for this period without a parent was, and the data of the CONFIG in
force from its compatibility window on (R496). -/
structure Link where
  txq : List TxFrame
  lane : List TxFrame
  fwd : List TxFrame
  alarm : Option TxFrame
  busy : Option TxFrame
  att : Option Attempt
  yielded : Option Attempt
  nextSeq : Nat
  done : List DoneEntry
  ack : Option AckOwed
  ackAir : Option (Nat × Nat)
  rx : List (List Nat)
  dups : List (Nat × Nat × Nat)
  desc : List (Nat × Nat)
  duty : List (List Nat)
  glean : Nat
  parents : List Parent
  beacons : List BeaconIn
  bseq : Nat
  budget : Nat
  refusedToday : Bool
  lonelyTold : Bool
  config : List Nat
  deriving DecidableEq, Repr

/-- A memory or register access whose handshake is held: by UNDER on its rail (R61), by a fire that names its block
(R172), by a data access of MCORE before it (R200), or, with `arb`, by the arbiter until it is granted (R204). -/
structure HeldAccess where
  sd : Side
  req : Nat
  kind : Nat
  size : Nat
  addr : Nat
  data : Nat
  rom : Bool
  arb : Bool := false
  deriving DecidableEq, Repr

/-- A register write that waits for DICT's lock or for a fire (R172, R177); `mode` as in a bridge access, what the
environment adds to the register's own command, and whether it has crossed its bridge and waits on the far side. -/
structure HeldWrite where
  sd : Side
  req : Nat
  mode : Nat
  addr : Nat
  data : Nat
  env : List Nat
  rom : Bool := false
  arrived : Bool := false
  deriving DecidableEq, Repr

/-- How far a unit of DMA has come (R618): its read is outstanding, its write of `d` is, that write has crossed its bridge
and meets a lock (R177), or the fire that its write has started is in progress (R172). -/
inductive UnitStage where
  | read
  | write (d : Nat)
  | arrived (d : Nat)
  | fire
  deriving DecidableEq, Repr

/-- The unit that a DMA channel has outstanding; while no bridge holds its access, what holds it is the fabric. -/
structure HeldUnit where
  ch : Nat
  stage : UnitStage
  env : List Nat
  deriving DecidableEq, Repr

/-- A commit fire (R172, R176): who wrote it and whether it is DICT's, the groups still to fire with the one in progress
first, and what stops: windows whose far side latches nothing, and, with 0x20 added, windows whose clock stops after the
prepare phase; whether the first group has reached its apply phase and waits for a clocked block there, and the mask that
the group had at its prepare phase. -/
structure FireJob where
  req : Nat
  dict : Bool
  groups : List Nat
  stopped : List Nat
  applied : Bool
  mask : Nat := 0
  deriving DecidableEq, Repr

/-- The application fabric between accesses: held accesses and writes in order, the units of DMA that are outstanding, the
fires in order with the one in the apply phase first, the windows that have yet to commit at an edge (R175), the
requesters now forced (R206, R214), the engines whose access waits at a target, as (target, requester) (R204), and which
forced requester has been granted ahead of which that is forced and waits, as (granted, waiting) (R207). -/
structure Fabric where
  held : List HeldAccess
  writes : List HeldWrite
  units : List HeldUnit
  fires : List FireJob
  late : List Nat
  forced : List Nat
  raised : List (Nat × Nat)
  passed : List (Nat × Nat)
  deriving DecidableEq, Repr

/-- A descriptor (Table DICT-3): the type code, the size in bytes, whether the entry is writable, needs SERVICE for a write
and is a requested-state entry; its read and write class, 4 for none; the backing kind of Table DICT-2 and its window; the
address, slot or tag; the place of a REG field; the effective entry's subindex; the bounds as 32-bit patterns; and for a
PARAM entry its bit in DICT.PDIRTY. -/
structure Desc where
  index : Nat
  sub : Nat
  ty : Nat
  size : Nat
  writable : Bool
  service : Bool
  pair : Bool
  rc : Nat
  wc : Nat
  kind : Nat
  win : Nat
  addr : Nat
  lsb : Nat
  width : Nat
  eff : Nat
  lo : Nat
  hi : Nat
  deriving DecidableEq, Repr

/-- One operation of a request (Table DICT-4), with the status it has and the value its result carries; the descriptors of
its entry and of the effective entry, and the bit of DICT.PDIRTY, as the check phase found them (R552). -/
structure DictOp where
  op : Nat
  index : Nat
  sub : Nat
  value : List Nat
  status : Nat
  result : List Nat
  desc : Option Desc
  effDesc : Option Desc
  dirty : Nat
  deriving DecidableEq, Repr

/-- The stages of a request: the wait for the RF domain before its check, the shadow writes, the group-3 fire, the writes
at once, the callback or legal write, the reads. -/
inductive DictPhase where
  | check
  | stage
  | fire
  | writes
  | calls
  | reads
  deriving DecidableEq, Repr

/-- A request DICT serves: the frame it came in, or the slot of a local request; whether it is a CONFIG; class, RID and FC;
its operations; the stage, the next operation of the stage, whether its first access is done with the value that gave, and
the slot given out for a callback. -/
structure DictJob where
  frame : List Nat
  slot : Option Nat
  config : Bool
  cls : Nat
  hdr : Nat
  rid : Nat
  fc : Nat
  ops : List DictOp
  phase : DictPhase
  next : Nat
  half : Option (Option (List Nat))
  call : Option Nat
  deriving DecidableEq, Repr

/-- A watched pair (R542): its entries, the value asked for, the settle time in ms and whether it has diverged. -/
structure WatchedPair where
  index : Nat
  sub : Nat
  eff : Nat
  value : List Nat
  settle : Nat
  diverged : Bool
  deriving DecidableEq, Repr

/-- DICT beside its registers (ch. 20): the request it serves, the watch list in order of entry, the slots given out for
callbacks that DICT no longer waits for (R544, R550), the windows it holds locked (R177), whether its fire has ended
and how, whether it holds RF On (R557), by the slot of each response the FC of its request, which TAG8 takes at the
build of the frame (R545), and the watched pair whose read is on its way through a bridge, with whether its settle time
has passed. -/
structure Dict where
  job : Option DictJob
  watch : List WatchedPair
  stale : List Nat
  locks : List Nat
  fired : Option Bool
  rfHold : Bool
  responses : RegFile
  polling : Option (Nat × Nat × Bool)
  deriving DecidableEq, Repr

/-- A job of CMACE in a context (R573, R582): who submitted it (1 the registers, 2 the link engine, 3 UPDATE, 4 DICT,
5 FLASHC; 6 the registers from boot ROM code), and for the registers what START latched: operation, key, attributes and
buffers. -/
structure CmacJob where
  user : Nat
  op : Nat
  final : Bool
  slot : Nat
  key : List Nat
  dhalf : Nat
  dattr : Nat
  dslot : Nat
  exportKey : Bool
  tlen : Nat
  src0 : Nat
  len0 : Nat
  src1 : Nat
  len1 : Nat
  dst : Nat
  iv : List Nat
  tag : List Nat
  deriving DecidableEq, Repr

/-- CMACE beside its registers (ch. 22, 23): the bytes of the ten key slots, the parent of an unfinished session key, the two contexts in order of arrival,
whether BACKGROUND is suspended, the class keys that DICT keeps (R597), and the slots whose counter has warned and ended
since their load (R604). -/
structure Cmac where
  keys : List (List Nat)
  halfParent : List Nat
  background : List CmacJob
  urgent : List CmacJob
  suspended : Bool
  classKeys : List (List Nat)
  warned : List Nat
  exhausted : List Nat
  deriving DecidableEq, Repr

/-- The DMA block beside its registers (ch. 24): the channels whose registers hold a descriptor
that has not ended, those whose descriptor has started, the slots given to DMA that no
channel has taken yet (R617), and a ring whose content was lost, to be shown when APP is next On (R626). -/
structure Dma where
  loaded : List Nat
  started : List Nat
  given : List Nat
  ringLost : Bool
  deriving DecidableEq, Repr

/-- Work of UPDATE that a command asks for and that waits for idle arrays (R668): the staging of a bank erased (R674), TRIAL
programmed (R671), a decryption whose requester waits (R672), the reception state rebuilt (R663).  The lists say how the
flash operations end. -/
inductive UpdWork where
  | erase (bank : Nat) (ops : List Nat)
  | confirm (ops : List Nat)
  | decrypt (req : Nat)
  | rebuild
  deriving DecidableEq, Repr

/-- UPDATE beside its registers (ch. 26): the sheaf in its input buffer, whether ACTIVE has had its one write, the regions
an apply has lifted, the container ID under which the staging of each bank was opened, which outlives power, and the work
that waits for idle arrays, oldest first. -/
structure Update where
  sheaf : Option (List Nat)
  activeSet : Bool
  lifted : Nat
  staged : List Nat
  due : List UpdWork
  deriving DecidableEq, Repr

/-- The reasons a step can stop with a fault. -/
inductive Fault where
  /-- No meaning raises it: every stop the spec describes is a next state.  Safe. -/
  | unused
  deriving DecidableEq, Repr

/-- The reasons a step can be refused. -/
inductive Refusal where
  /-- A command of the table that has no meaning yet, by its mnemonic.  Safe. -/
  | notModelled (mnemonic : String)
  deriving DecidableEq, Repr

/-- The whole block.  `mirror`, `metMirror` and `rfMirror` are the copies of AON_M, MAON_M and RF_M; `copies` the copies of
voted fields that differ from the value in force (R181), by (ID × 0x1000 + field) × 4 + copy, and as copy 3 a value in force
that differs from the option shadow it came from; `xoLost` the ranges that a lost majority of ID 0x03 makes execute-only
(R184, R264); `protEntry` is the requester and the mask of a protection entry whose check waits for CMACE (R259); `rtcMoves` says that LFXO runs and the RTC goes over to it at the next second boundary (R119, R139);
`resetHold` is 0 for none, 1 POR, 2 NRESET, 3 POR with NRESET low, 4 NRESET after a POR that has released. -/
structure State where
  variant : Variant
  regs : RegFile
  shadow : RegFile
  mirror : RegFile
  metMirror : RegFile
  rfMirror : RegFile
  copies : RegFile
  xoLost : List (Side × Nat × Nat)
  mem : List Host.Cell
  epochs : RegFile
  freeCtr : Nat
  logs : Logs
  last : AccessResult
  bridges : Bridges
  appRail : RailLoop
  metRail : RailLoop
  power : Power
  supply : SupplyRuns
  opt : List Nat
  otp : Otp
  burns : List Burn
  lfxoArmed : Bool
  rtcOnTosc : Bool
  rtcMoves : Bool
  flashSeqs : List FlashSeq
  protEntry : Option (Nat × Nat)
  appFlash : Option FlashOp
  metFlash : Option FlashOp
  flashMarks : RegFile
  flashHeaders : RegFile
  flashCache : RegFile
  mxoFrozen : List Nat
  activeWritten : Bool
  slots : List Slot
  copy : Option CopyJob
  madcRun : Option MetJob
  madcQueue : List MetJob
  flow : Flow
  seqr : Sequencer
  mrom : Mrom
  boot : BootRom
  ports : Ports
  radio : Radio
  link : Link
  requests : List (List Nat)
  fabric : Fabric
  votes : RegFile
  resetHold : Nat
  dict : Dict
  cmac : Cmac
  dma : Dma
  update : Update
  pending : List Instr
  deriving DecidableEq, Repr

/-- The part right after reset: every field at the value its table gives, and what the tables leave open at the value
the log entries name; no command waits. -/
def State.reset : State where
  variant := .a
  regs := []
  shadow := []
  mirror := []
  metMirror := []
  rfMirror := []
  copies := []
  xoLost := []
  mem := []
  epochs := []
  freeCtr := 0
  logs := { sys := [], nextSeq := 1, minute := [], met := [] }
  last := { data := 0, cause := 0, mcause := 0, mtval := 0 }
  bridges := { waiting := [], pulses := [], runs := [], fallback := false }
  appRail := { inBand := 0, required := 0, bias := 0, biasCap := none, biasOn := false }
  metRail := { inBand := 0, required := 0, bias := 0, biasCap := none, biasOn := false }
  power :=
    { app := { st := .on, entering := none, exiting := false, latched := [], held := false, heldLogged := false }
      met := { st := .off, entering := none, exiting := true, latched := [], held := false, heldLogged := false }
      rf := { st := .off, entering := none, exiting := false, latched := [], held := false, heldLogged := false }
      loft := { st := .on, entering := none, exiting := false, latched := [], held := false, heldLogged := false }
      ship := false, shipping := false, shipExit := false, shipAccepted := false, frozen := false, freezeWait := false
      acoreRuns := true, acoreHeld := false, acoreWfi := false, mcoreWfi := false, clockLoss := false
      exchange := false, linkWork := false, gleanOpen := false, frameWait := false, stretch := 0 }
  supply := { below := [0, 0, 0, 0, 0, 0, 0], up := 0, vbat := 3600 }
  opt := List.replicate 160 0xFF
  otp :=
    { unitId := 0, rootKey := List.replicate 32 0, arb := [0, 0, 0]
      sealS := [0, 0, 0, 0, 0, 0, 0, 0], sealB := [0, 0, 0, 0, 0, 0, 0, 0], splits := [], bad := false }
  burns := []
  lfxoArmed := false
  rtcOnTosc := true
  rtcMoves := false
  flashSeqs := []
  protEntry := none
  appFlash := none
  metFlash := none
  flashMarks := []
  flashHeaders := []
  flashCache := []
  mxoFrozen := []
  activeWritten := false
  slots := List.replicate 32 { owner := 0, publish := false, frozen := false, giver := 0, hands := 0, len := 0 }
  copy := none
  madcRun := none
  madcQueue := []
  flow := { cfg := none, calibrated := false, shots := [], sending := none, slipsDn := 0, slipsUp := 0 }
  seqr :=
    { touch := List.replicate 4 { up := false, recal := false, onRun := 0, offRun := 0, samples := [] }
      tamper := List.replicate 2 { last := none, run := 0, ref := none, active := false }
      shown := [0, 0, 0, 0], pump := .off }
  mrom :=
    { result := 0, tag := [], cursor := none, journal := false, noImage := false, wdtSet := false, imgSet := [] }
  boot := { result := 0, tag := [], loader := false, sleeping := false, restart := false, reply := [] }
  ports :=
    { posc := false, ready := false, scale := 0, uarts := List.replicate 2 { rx := [], tx := [], shifter := none }
      svc := .idle, round := none, svcSent := [], spiRx := [], spiTx := [], i2cRx := [], i2cTx := [], i2c := none
      fio := List.replicate 4 { last := none, run := 0, level := none, pulse := false, gap := false, therm := false } }
  radio :=
    { calAt := none, calFor := none, calRetry := false, test := 0, testExt := false, dirty := [], retuneCmd := false
      recent := [], held := [], pins := { pa := false, gain := false, tx := false, lna := false }, moves := [], turn := none
      op :=
        { tuner := true, auto := true, rlThr := 20, failThr := 8, misN := 2, maxProbes := 48, initCs := 32, initCp := 32
          swGap := 5, paLead := 15, paLag := 5, lnaLead := 5, lnaUse := false, pol := 0, modeTx := true, modeByp := false } }
  link :=
    { txq := [], lane := [], fwd := [], alarm := none, busy := none, att := none, yielded := none, nextSeq := 0, done := [], ack := none, ackAir := none, rx := []
      dups := [], desc := [], duty := List.replicate 8 (List.replicate 60 0), glean := 0, parents := [], beacons := []
      bseq := 0, budget := 0, refusedToday := false, lonelyTold := false, config := [] }
  requests := []
  fabric := { held := [], writes := [], units := [], fires := [], late := [], forced := [], raised := [], passed := [] }
  votes := []
  resetHold := 0
  dict := { job := none, watch := [], stale := [], locks := [], fired := none, rfHold := false, responses := [], polling := none }
  cmac :=
    { keys := List.replicate 10 [], halfParent := [0, 0], background := [], urgent := [], suspended := false
      classKeys := [], warned := [], exhausted := [] }
  dma := { loaded := [], started := [], given := [], ringLost := false }
  update := { sheaf := none, activeSet := false, lifted := 0, staged := [0, 0], due := [] }
  pending := []

end Sys2Proof.Machine
end

