-- ==== Sys2Proof/Machine/Ops.lean ====
section
/-! DEFINITION. The named operations over registers and memory: reading and writing one field, one byte, a run of
bytes; forgetting content; free values. -/

namespace Sys2Proof.Machine

open Sys2Proof

/-! ### Register fields -/

/-- The value listed under a key. -/
def RegFile.find : RegFile → Nat → Option Nat
  | [], _ => none
  | e :: r, k => if e.1 = k then some e.2 else RegFile.find r k

/-- A list with an entry put in at its place by key. -/
def RegFile.insert (e : Nat × Nat) : RegFile → RegFile
  | [] => [e]
  | x :: r => if x.1 < e.1 then x :: RegFile.insert e r else e :: x :: r

/-- The file with every entry of a key removed. -/
def RegFile.drop (r : RegFile) (k : Nat) : RegFile := r.filter (fun e => e.1 != k)

/-- The file with a key set. -/
def RegFile.put (r : RegFile) (k v : Nat) : RegFile := RegFile.insert (k, v) (r.drop k)

/-- Whether the keys rise strictly, so that each is listed once. -/
def RegFile.wf : RegFile → Bool
  | [] => true
  | [_] => true
  | x :: y :: r => decide (x.1 < y.1) && RegFile.wf (y :: r)

/-- The value a key holds in a count file, 0 where it is not listed. -/
def RegFile.count (r : RegFile) (k : Nat) : Nat := (r.find k).getD 0

/-- The value of a field: what is listed for it, else the reset value of its table. -/
def State.rd (s : State) (f : Fld) : Nat := (s.regs.find f.key).getD f.rst

/-- A field set to the low bits of a value. -/
def State.wr (s : State) (f : Fld) (v : Nat) : State := { s with regs := s.regs.put f.key (v % 2 ^ f.width) }

/-- Whether a field is not zero. -/
def State.flag (s : State) (f : Fld) : Bool := s.rd f != 0

/-- A one-bit field set or cleared. -/
def State.wrBool (s : State) (f : Fld) (b : Bool) : State := s.wr f (b2n b)

/-- A flag set. -/
def State.raise (s : State) (f : Fld) : State := s.wr f 1

/-- A flag or field cleared. -/
def State.clear (s : State) (f : Fld) : State := s.wr f 0

/-- Bit `n` of a field. -/
def State.rdBit (s : State) (f : Fld) (n : Nat) : Bool := bit (s.rd f) n

/-- A field with bit `n` set or cleared. -/
def State.wrBit (s : State) (f : Fld) (n : Nat) (b : Bool) : State :=
  let v := s.rd f
  s.wr f (v - 2 ^ n * b2n (bit v n) + 2 ^ n * b2n b)

/-- A counter raised by `k`, stopping at the greatest value its field holds (Table REG-5, MERGE). -/
def State.count (s : State) (f : Fld) (k : Nat) : State := s.wr f (satAdd (2 ^ f.width - 1) (s.rd f) k)

/-- The fields of an address range back at the reset values of their tables. -/
def State.resetRange (s : State) (lo hi : Nat) : State :=
  { s with
    regs := s.regs.filter (fun e => !(decide (lo * 2048 ≤ e.1) && decide (e.1 < hi * 2048)))
    shadow := s.shadow.filter (fun e => !(decide (lo * 2048 ≤ e.1) && decide (e.1 < hi * 2048))) }

/-- The fields of one register back at their reset values. -/
def State.resetReg (s : State) (addr : Nat) : State := s.resetRange addr (addr + 1)

/-! ### Free values -/

/-- The next free value and the state that has used it. -/
def State.fresh (s : State) : Nat × State := (Config.freeValue s.freeCtr, { s with freeCtr := s.freeCtr + 1 })

/-! ### Memory

One list of (address, byte) pairs holds every memory of the part under physical addresses: those of the APP view, and
for the memories only MCORE reaches those of the MET view with 2^32 added. -/

/-- Where the MET view's own memories stand among the physical addresses. -/
def metPhys : Nat := 0x100000000

/-- The memories whose content can be lost, by number: APP SRAM banks 0 to 3, the AON retention SRAM 4, MSRAM 5, the
ROMs 6, the area of MSRAM that the MROM routines use 7 (R279), Loft slot s 8 + s; none for flash. -/
def memRegion (a : Nat) : Option Nat :=
  if 0x20000000 ≤ a ∧ a < 0x20020000 then some ((a - 0x20000000) / 0x8000)
  else if 0x21000000 ≤ a ∧ a < 0x21004000 then some (8 + (a - 0x21000000) / 0x200)
  else if 0x22000000 ≤ a ∧ a < 0x22000800 then some 4
  else if metPhys + 0x20003E00 ≤ a ∧ a < metPhys + 0x20004000 then some 7
  else if metPhys + 0x20000000 ≤ a ∧ a < metPhys + 0x20004000 then some 5
  else if a < 0x4000 then some 6
  else if metPhys ≤ a ∧ a < metPhys + 0x8000 then some 6
  else none

/-- What an address that is not listed reads as: 0xFF in flash, which is erased; nothing fixed elsewhere. -/
def unlisted (a : Nat) : Option Byte :=
  match memRegion a with
  | none => some 0xFF#8
  | some _ => none

/-- The memory lists no address twice, in rising order, and no byte equal to what its address reads as unlisted. -/
def Memory.wf (m : List Host.Cell) : Bool :=
  RegFile.wf (m.map (fun c => (c.1, 0))) && m.all (fun c => unlisted c.1 != some c.2)

/-- The byte listed at an address. -/
def Memory.find : List Host.Cell → Nat → Option Byte
  | [], _ => none
  | c :: m, a => if c.1 = a then some c.2 else Memory.find m a

/-- A memory with one cell put in at its place. -/
def Memory.insert (c : Host.Cell) : List Host.Cell → List Host.Cell
  | [] => [c]
  | x :: m => if x.1 < c.1 then x :: Memory.insert c m else c :: x :: m

/-- A memory with one byte written: the byte an unlisted address reads as is not listed. -/
def Memory.put (m : List Host.Cell) (a : Nat) (b : Byte) : List Host.Cell :=
  let m' := m.filter (fun c => c.1 != a)
  if unlisted a = some b then m' else Memory.insert (a, b) m'

/-- How a flash double word stands beside its listed bytes (R219, R228, R230): 0 as listed, 1 with one bit in error, 2
uncorrectable, 3 programmed with all ones, 4 the same with one bit in error; from 5 on undefined, one code for each time.
A mark at the block's base address + 1 stands for every double word of the block without a mark of its own. -/
def State.flashMark (s : State) (a : Nat) : Nat :=
  match s.flashMarks.find (a - a % 8) with
  | some c => c
  | none => s.flashMarks.count (a - a % 0x1000 + 1)

/-- The outcome of reading undefined flash content. -/
def undefOutcome (code a : Nat) : Nat := Config.eccOutcome code (a - a % 8) % 4

/-- A byte of memory: listed, erased, or undefined content (log entry 5); the zeros of an uncorrectable double word
(R219). -/
def State.byte (s : State) (a : Nat) : Byte :=
  match memRegion a with
  | some r =>
    match Memory.find s.mem a with
    | some b => b
    | none => Config.freeByte (s.epochs.count r) a
  | none =>
    let c := s.flashMark a
    if c = 2 then 0
    else if c ≥ 5 then
      if undefOutcome c a = 2 then 0
      else if undefOutcome c a = 3 then 0xFF#8
      else Config.freeByte c a
    else (Memory.find s.mem a).getD 0xFF#8

/-- A byte of memory written. -/
def State.setByte (s : State) (a : Nat) (b : Byte) : State := { s with mem := Memory.put s.mem a b }

/-- `n` bytes of memory as numbers, from an address upwards. -/
def State.bytes (s : State) (a : Nat) : Nat → List Nat
  | 0 => []
  | n + 1 => (s.byte a).toNat :: State.bytes s (a + 1) n

/-- Bytes written from an address upwards. -/
def State.setBytes (s : State) (a : Nat) : List Nat → State
  | [] => s
  | b :: bs => (s.setByte a (BitVec.ofNat 8 b)).setBytes (a + 1) bs

/-- The little-endian number of `n` bytes. -/
def State.load (s : State) (a n : Nat) : Nat := leNat (s.bytes a n)

/-- A little-endian number stored in `n` bytes. -/
def State.store (s : State) (a n v : Nat) : State := s.setBytes a (leBytes n v)

/-- The cells of an address range dropped: erased flash, or content lost. -/
def State.forget (s : State) (lo hi : Nat) : State :=
  { s with mem := s.mem.filter (fun c => !(decide (lo ≤ c.1) && decide (c.1 < hi))) }

/-- The content of a memory region lost: undefined from now on (R104, R105, R197). -/
def State.loseRegion (s : State) (r lo hi : Nat) : State :=
  let s' := s.forget lo hi
  { s' with epochs := s'.epochs.put r (s'.epochs.count r + 1) }

/-- An APP SRAM bank's content lost. -/
def State.loseBank (s : State) (n : Nat) : State :=
  s.loseRegion n (0x20000000 + 0x8000 * n) (0x20000000 + 0x8000 * (n + 1))

/-- The AON retention SRAM's content lost. -/
def State.loseRetention (s : State) : State := s.loseRegion 4 0x22000000 0x22000800

/-- The area of MSRAM that the MROM routines use, after one of them has run (R279). -/
def State.loseRoutineArea (s : State) : State := s.loseRegion 7 (metPhys + 0x20003E00) (metPhys + 0x20004000)

/-- MSRAM's content lost. -/
def State.loseMsram (s : State) : State :=
  (s.loseRegion 5 (metPhys + 0x20000000) (metPhys + 0x20003E00)).loseRoutineArea

/-- A Loft slot's content undefined. -/
def State.loseSlot (s : State) (n : Nat) : State :=
  s.loseRegion (8 + n) (0x21000000 + 0x200 * n) (0x21000000 + 0x200 * (n + 1))

/-- Every `n` below a bound applied in turn. -/
def forEach {α : Type} (n : Nat) (f : Nat → α → α) (a : α) : α := (List.range n).foldl (fun x i => f i x) a

end Sys2Proof.Machine
end

