-- ==== Sys2Proof/Machine/Flags.lean ====
section
/-! DEFINITION. The status flags every block shares: the event logs with their minute counts (R378, R523, R563, R728),
and the record of a bus fault (R202, R203). -/

namespace Sys2Proof.Machine

open Sys2Proof

/-- The RTC time as the logs stamp it (Table CAT-6). -/
def State.utime (s : State) : Nat := s.rd R.AON.RTC_SEC.SEC

/-- The sequence number after `q`: it wraps from 0xFFFF_FFFF to 1 (R563). -/
def nextLogSeq (q : Nat) : Nat := if q ≥ 0xFFFFFFFF then 1 else q + 1

/-- A list cut to its newest `n` entries. -/
def newest {α : Type} (n : Nat) (l : List α) : List α := l.drop (l.length - n)

/-- One entry added to the system event log, which overwrites its oldest entry when it holds 64 (R523, R563); FLAGS
holds UNTIMED and the MET mark. -/
def State.logEntry (s : State) (met : Bool) (code : Nat) (data : List Nat) : State :=
  let e : Event :=
    { seq := s.logs.nextSeq, utime := s.utime, code := code,
      flags := s.rd R.AON.RST_CAUSE.TIME_UNSET + 2 * b2n met, data := data }
  let full := decide (s.logs.sys.length ≥ 64)
  let s1 : State :=
    { s with logs := { s.logs with sys := newest 64 (s.logs.sys ++ [e]), nextSeq := nextLogSeq s.logs.nextSeq } }
  let s2 := if full then s1.count R.SYSCTL.EVLOG_STAT.OVERWRITTEN 1 else s1
  (s2.wr R.SYSCTL.EVLOG_STAT.COUNT s2.logs.sys.length).wr R.SYSCTL.EVLOG_HEAD.SEQ e.seq

/-- An event of the APP side logged. -/
def State.log (s : State) (code : Nat) (data : List Nat) : State := s.logEntry false code data

/-- An event raised on the MET side: placed in the MET event queue of 16, which overwrites its oldest entry when full
(R378), which a BST420C does not have (R388), and written to the system event log with the MET mark (R728). -/
def State.logMet (s : State) (code : Nat) (data : List Nat) : State :=
  if s.variant == .c then s.logEntry true code data else
  let e : Event := { seq := 0, utime := s.utime, code := code, flags := 0, data := data }
  let full := decide (s.logs.met.length ≥ 16)
  let s1 : State := { s with logs := { s.logs with met := newest 16 (s.logs.met ++ [e]) } }
  let s2 :=
    if full then (s1.count R.MSYSCTL.EVQ_STATUS.OVERWRITTEN 1).raise R.MSYSCTL.EVQ_STATUS.OVF else s1
  (s2.wr R.MSYSCTL.EVQ_STATUS.COUNT s2.logs.met.length).logEntry true code data

/-- An event of the side it is raised on. -/
def State.logSide (s : State) (sd : Side) (code : Nat) (data : List Nat) : State :=
  match sd with
  | .app => s.log code data
  | .met => s.logMet code data

/-- An event logged at most once in each minute interval (R523): the first occurrence at once, with the count 1 before
its DATA; later ones are counted until the minute tick. -/
def State.logMinute (s : State) (code : Nat) (data : List Nat) : State :=
  if s.logs.minute.any (fun m => m.code == code) then
    { s with logs := { s.logs with minute := s.logs.minute.map (fun m =>
        if m.code == code then { m with more := min 0xFFFF (m.more + 1), data := data } else m) } }
  else
    ({ s with logs := { s.logs with minute := s.logs.minute ++ [{ code := code, more := 0, data := data }] } } : State).log
      code (leBytes 2 1 ++ data)

/-- The minute tick of R523: every count not yet reported becomes one more entry, and a new interval begins. -/
def State.flushMinute (s : State) : State :=
  let s' := s.logs.minute.foldl
    (fun a m => if m.more = 0 then a else a.log m.code (leBytes 2 m.more ++ m.data)) s
  { s' with logs := { s'.logs with minute := [] } }

/-! ### Bus faults (Table MAP-6) -/

/-- The causes of Table MAP-6 by their codes. -/
def causeFlashBusy : Nat := 1
def causeXoRead : Nat := 2
def causeBridgeTimeout : Nat := 3
def causeLoftOwner : Nat := 4
def causeProtWrite : Nat := 5
def causeDecode : Nat := 6

/-- The kinds of an access: fetch, read, write. -/
def kindFetch : Nat := 0
def kindRead : Nat := 1
def kindWrite : Nat := 2

/-- The machine-mode cause code of R202 for an access kind. -/
def mcauseOf (kind : Nat) : Nat := if kind = kindFetch then 1 else if kind = kindRead then 5 else 7

/-- Whether a requester is a core, which takes a bus fault as an exception (R202). -/
def isCore (req : Nat) : Bool := decide (req ≤ 1)

/-- MCORE in user mode, as a requester of MET (R280). -/
def mcoreUser : Nat := 2

/-- The requester that a fabric sees: MCORE in user mode is MCORE's data port. -/
def portOf (sd : Side) (req : Nat) : Nat := if sd = .met ∧ req = mcoreUser then 1 else req

/-- The unit of a channel that is no longer outstanding. -/
def State.dropUnit (s : State) (ch : Nat) : State :=
  { s with fabric := { s.fabric with units := s.fabric.units.filter (fun u => u.ch != ch) } }

/-- A DMA access that faults ends its chain and its unit (R623): EN cleared, IDLE with the cause, IRQ.ERR set. -/
def State.dmaFault (s : State) (ch cause : Nat) : State :=
  let s0 := s.dropUnit ch
  let s1 : State := { s0 with dma := { s0.dma with loaded := s0.dma.loaded.filter (fun c => c != ch), started := s0.dma.started.filter (fun c => c != ch) } }
  (((s1.clear (R.DMA.CFG.EN ch)).clear (R.DMA.STAT.STATE ch)).wr (R.DMA.STAT.CAUSE ch) cause).wrBit R.DMA.IRQ.ERR ch true

/-- A bus fault: the read gives zero and the write has no effect (R201); the record of R203 is made or MULTI is set, the
core takes its exception (R202), and a DMA channel ends its chain. -/
def State.busFault (s : State) (sd : Side) (req kind cause addr : Nat) : State :=
  let dir := b2n (kind == kindWrite)
  let fetch := b2n (kind == kindFetch)
  let s0 := if sd == .app && decide (2 ≤ req) && decide (req ≤ 9) then s.dmaFault (req - 2) cause else s
  let s1 : State :=
    { s0 with last :=
        { data := 0, cause := cause
          mcause := if isCore req then mcauseOf kind else 0
          mtval := if isCore req then addr else 0 } }
  let s2 := s1.count (R.ARB.FAULT_STATUS.COUNT sd) 1
  if s2.flag (R.ARB.FAULT_STATUS.VALID sd) then s2.raise (R.ARB.FAULT_STATUS.MULTI sd)
  else
    let s3 := (((s2.wr (R.ARB.FAULT_STATUS.CAUSE sd) cause).wr (R.ARB.FAULT_STATUS.REQ sd) req).wr
      (R.ARB.FAULT_STATUS.DIR sd) dir).wr (R.ARB.FAULT_STATUS.FETCH sd) fetch
    let s4 := (s3.wr (R.ARB.FAULT_ADDR.ADDR sd) addr).raise (R.ARB.FAULT_STATUS.VALID sd)
    s4.logSide sd (sd.pick 0x0A30 0x0A31) ([cause, req, dir + 2 * fetch, 0] ++ leBytes 4 addr)

/-- An access that completes without fault, with the data a read gives. -/
def State.done (s : State) (data : Nat) : State :=
  { s with last := { data := data, cause := 0, mcause := 0, mtval := 0 } }

end Sys2Proof.Machine
end

