-- ==== Sys2Proof/Machine/Operands.lean ====
section
/-! DEFINITION. The forms in which a register is accessed (ch. 06): decoding an address inside a window, the access
classes, the set, clear and toggle aliases, the shadow of buffered configuration, its commit and discard, and the collision codes. -/

namespace Sys2Proof.Machine

open Sys2Proof

/-! ### Decoding an address (R161 to R164) -/

/-- The window an address lies in. -/
def windowBase (a : Nat) : Nat := a - a % 0x1000

/-- The register an address reaches: bits [11:8] are ignored (R161). -/
def regAddr (a : Nat) : Nat := windowBase a + a % 0x100 - a % 4

/-- The fields of the register an address reaches. -/
def regFields (a : Nat) : List Fld := (windowFields (windowBase a)).filter (fun f => f.addr == regAddr a)

/-- The buffered-configuration fields of a window. -/
def rwcFields (base : Nat) : List Fld := (windowFields base).filter (fun f => f.acc == .rwc)

/-- Whether a window has buffered configuration, so that its CFG_COMMIT exists (Table REG-1). -/
def hasCommit (base : Nat) : Bool := (windowFields base).any (fun f => f.acc == .rwc)

/-- The address of the register an alias address stands for, with the alias: 0 none, 1 set, 2 clear, 3 toggle (R164). -/
def aliasMode (a : Nat) : Nat :=
  let page := a / 0x1000000
  if 0x41 ≤ page ∧ page ≤ 0x43 then page - 0x40
  else if 0x49 ≤ page ∧ page ≤ 0x4B then page - 0x48
  else 0

/-- The normal address of an alias address. -/
def aliasTarget (a : Nat) : Nat := a - aliasMode a * 0x1000000

/-- The word that field values spell. -/
def wordOf (val : Fld → Nat) (fs : List Fld) : Nat :=
  fs.foldl (fun w f => w + val f % 2 ^ f.width * 2 ^ f.lsb) 0

/-! ### Bitwise operations on field values -/

/-- The bits of `a` that are not in `b`. -/
def clearBits (a b : Nat) : Nat := a - (a &&& b)

/-- The value an alias operation gives (R164): 1 set, 2 clear, 3 toggle. -/
def aliasOp (mode old d : Nat) : Nat :=
  if mode = 1 then old ||| d
  else if mode = 2 then clearBits old d
  else if mode = 3 then old ^^^ d
  else d

/-! ### Buffered configuration (R168 to R171) -/

/-- The shadow value of a buffered field. -/
def State.shadowRd (s : State) (f : Fld) : Nat := (s.shadow.find f.key).getD (s.rd f)

/-- A write to a buffered field: it changes only the shadow and sets PENDING (R168, R170). -/
def State.shadowWr (s : State) (f : Fld) (v : Nat) : State :=
  ({ s with shadow := s.shadow.put f.key (v % 2 ^ f.width) } : State).raise (R.CFG_COMMIT.PENDING (windowBase f.addr))

/-- The shadow of a window equal to its committed copy again. -/
def State.dropShadow (s : State) (base : Nat) : State :=
  { s with shadow := s.shadow.filter (fun e => !(decide (base * 2048 ≤ e.1) && decide (e.1 < (base + 0x1000) * 2048))) }

/-- The commit of a window: every buffered field takes its shadow value in one step, and PENDING clears (R169, R170). -/
def State.commitWindow (s : State) (base : Nat) : State :=
  let s' := (rwcFields base).foldl
    (fun a f => match s.shadow.find f.key with
      | some v => a.wr f v
      | none => a) s
  (s'.dropShadow base).clear (R.CFG_COMMIT.PENDING base)

/-- The discard of a window's shadow (R170). -/
def State.discardWindow (s : State) (base : Nat) : State :=
  (s.dropShadow base).clear (R.CFG_COMMIT.PENDING base)

/-- A window's shadow lost with its domain or at a reset: DROPPED is set where a write was pending (R171). -/
def State.loseShadow (s : State) (base : Nat) : State :=
  let p := s.flag (R.CFG_COMMIT.PENDING base)
  let s' := s.discardWindow base
  if p then s'.raise (R.CFG_COMMIT.DROPPED base) else s'

/-- Whether DICT holds the shadow of a window (R177). -/
def State.locked (s : State) (base : Nat) : Bool := s.flag (R.CFG_COMMIT.LOCKED base)

/-! ### Software and hardware in the same window (R185, Table REG-5) -/

/-- The RW fields that count what hardware does: collision code MERGE. -/
def mergeFields : List Fld :=
  [Side.app, Side.met].flatMap (fun sd =>
    [R.BRIDGE.COUNTS.TO_COUNT sd, R.BRIDGE.COUNTS.OVR_COUNT sd, R.ARB.FAULT_STATUS.COUNT sd,
      R.FLASHC.ECC_STATUS.COR_COUNT sd, R.FLASHC.ECC_STATUS.UNCOR_COUNT sd, R.LOFTC.STATS.REFUSED sd,
      R.LOFTC.VIOLATION.COUNT sd]) ++
  [R.AON.RST_CAUSE.APP_RESETS, R.MPWR.RST_CAUSE.MET_RESETS, R.SYSCTL.COMMIT_STATUS.FIRES, R.SYSCTL.VOTE_FIX.COUNT,
    R.SYSCTL.EVLOG_STAT.OVERWRITTEN, R.MSYSCTL.EVQ_STATUS.OVERWRITTEN, R.ARB.FORCED.COUNT, R.MADC.STATUS.READINGS,
    R.FLOW.COUNTS.SEQS, R.TAMPER.COUNT.COUNT0, R.TAMPER.COUNT.COUNT1, R.RADIO.COUNTS.CALS, R.RADIO.COUNTS.UNLOCKS,
    R.TUNER.COUNTS.RETUNES, R.TUNER.COUNTS.MISMATCHES] ++
  [R.LINK.COUNT0.TX_ATTEMPTS, R.LINK.COUNT0.RETRIES, R.LINK.COUNT1.RX_OK, R.LINK.COUNT1.RX_FCS, R.LINK.COUNT2.RX_DUP,
    R.LINK.COUNT2.RX_DROP, R.LINK.COUNT3.ACKS_SENT, R.LINK.COUNT3.ACK_SKIP, R.LINK.WMB_ACC.ACC, R.LINK.WMB_MCNT.MCNT,
    R.LINK.MESH_COUNT.FWD, R.LINK.MESH_COUNT.LOOP, R.LINK.FWD_STAT.DROPPED, R.LINK.RX_STAT.REFUSED] ++
  [R.DICT.QSTAT.BUSY_LOST, R.DICT.QSTAT.BUSY_SENT, R.DICT.COUNTS.REQS, R.DICT.COUNTS.AUTH_FAIL, R.DICT.COUNTS.REPLAY,
    R.DICT.COUNTS2.PENDINGS, R.DICT.COUNTS2.DIVERGES, R.CMACE.COUNTS.JOBS, R.CMACE.COUNTS.PREEMPTS, R.CMACE.FCNT2.FC,
    R.CMACE.FCNT5.FC, R.DMA.RING_STAT.DROPPED, R.UART1.SVC_STAT.COLL, R.UPDATE.COUNTS.DUP, R.UPDATE.COUNTS.BAD] ++
  (List.range 8).map (fun n => R.DMA.STAT.DESCS n) ++
  (List.range 4).flatMap (fun n => [R.FIO.CNT.CNT n, R.FIO.SHORTS.SHORTS n])

/-- The counters that wrap where the others stop at the greatest value they hold: WMB_ACC and the pulse counts. -/
def wrapFields : List Fld := R.LINK.WMB_ACC.ACC :: (List.range 4).map (fun n => R.FIO.CNT.CNT n)

/-- The RW fields that hardware writes as well: collision code HW.  DATA of the ports, of which software and hardware
reach different ends, is not among them. -/
def hwFields : List Fld :=
  [R.PWR.DOMAIN_REQ.RF_HOLD, R.MPWR.MCTL.RUN, R.MPWR.MCTL.SERVICE, R.MAON.ALARM_M_CTL.EN, R.LOFTC.STATS.FREE_MIN .app,
    R.LOFTC.STATS.FREE_MIN .met, R.RADIO.TEST.MODE, R.LINK.MESH_GEN.GEN, R.LINK.FWD_STAT.PEAK, R.LINK.RX_STAT.PEAK] ++
  (List.range 5).map (fun n => R.DICT.FLOOR.FC n) ++
  (List.range 8).flatMap (fun n =>
    [R.TUNER.BAND.CS n, R.TUNER.BAND.CP n, R.TUNER.BAND.VALID n, R.DMA.SRC.ADDR n, R.DMA.DST.ADDR n, R.DMA.CTL.CTL n,
      R.DMA.NEXT.NEXT n, R.DMA.CFG.EN n]) ++
  (List.range 4).flatMap (fun n => [R.CMACE.IV.IV n, R.CMACE.TAG.TAG n])

/-- The collision code of a field (Tables SCOPE-4 and REG-5, and the Collision columns of the register tables). -/
def colOf (f : Fld) : Col :=
  match f.acc with
  | .rwc => .late
  | .rw => if mergeFields.contains f then .merge else if hwFields.contains f then .hw else .sw
  | .wo =>
    if (List.range 4).any (fun n => f == R.FLASHC.PW.PW n) || (List.range 8).any (fun n => f == R.CMACE.KEY_DATA.DATA n)
    then .sw else .hw
  | .ro | .w1c | .w1s | .rc => .hw

/-- A counter's value `v` with `k` increments (R185). -/
def mergeInto (f : Fld) (v k : Nat) : Nat :=
  if wrapFields.contains f then (v + k) % 2 ^ f.width else min (v + k) (2 ^ f.width - 1)

/-- The part of a written word that falls on a field. -/
def dataFor (f : Fld) (data : Nat) : Nat := bitsOf data f.lsb f.width

/-- The value that a field takes where software writes `d` in the window `ct` (R185): a field of flags or requests is
decided bit by bit, a field that holds one value as a whole.  `now` is what hardware has left in it. -/
def resolve (f : Fld) (ct : Contest) (now d : Nat) : Nat :=
  match colOf f with
  | .sw => d
  | .late => d
  | .merge => mergeInto f d (dataFor f ct.adds)
  | .hw =>
    if f.acc == .rw then (if dataFor f ct.bits = 0 then d else now) else clearBits d (dataFor f ct.bits)

/-! ### Writing a register -/

/-- A plain write to one field by its access class (Table SCOPE-3). -/
def State.writeField (s : State) (data : Nat) (f : Fld) : State :=
  let d := dataFor f data
  match f.acc with
  | .rw => s.wr f d
  | .rwc => s.shadowWr f d
  | .w1c => s.wr f (clearBits (s.rd f) d)
  | .w1s => s.wr f (s.rd f ||| d)
  | .ro | .wo | .rc => s

/-- A plain write to a register by the access classes of its fields, with no behaviour of its own. -/
def State.writeReg (s : State) (addr data : Nat) : State :=
  (regFields addr).foldl (fun a f => a.writeField data f) s

/-- Whether a write falls on a buffered field: any, for a plain write; one with a data bit at 1, for an alias (R192). -/
def writesRwc (mode addr data : Nat) : Bool :=
  (regFields addr).any (fun f => f.acc == .rwc && (mode == 0 || dataFor f data != 0))

/-- Whether a register is named by the tables: it has a field, or is the CFG_COMMIT of its window (R162). -/
def isNamed (addr : Nat) : Bool := !(regFields addr).isEmpty || addr % 0x100 / 4 * 4 == 0xFC

end Sys2Proof.Machine
end

