-- ==== Sys2Proof/Machine/Options.lean ====
section
/-! DEFINITION. The option-area fields in force (ch. 05, Table START-5) and the ladder thresholds they give (R84). -/

namespace Sys2Proof.Machine

open Sys2Proof

/-- The voted bytes of the option shadows, little-endian (R141, R145). -/
def State.optRaw (s : State) (off n : Nat) : Nat := leNat ((List.range n).map (fun i => s.opt.getD (off + i) 0xFF))

/-- A field of the option area in force: the stored value where the area is VALID and the value is within its bounds, else
the default (R142). -/
def State.optField (s : State) (off n lo hi dflt : Nat) : Nat :=
  let v := s.optRaw off n
  if s.flag R.AON.OPT_STATUS.VALID && decide (lo ≤ v) && decide (v ≤ hi) then v else dflt

/-- The bounds of the codes of LADDER_L1 to LADDER_L6 (Table START-5). -/
def ladderBounds : List (Nat × Nat) := [(70, 120), (62, 110), (55, 100), (48, 90), (40, 75), (30, 60)]

/-- The default codes of LADDER_L1 to LADDER_L6. -/
def ladderDefaults : List Nat := [95, 85, 75, 60, 45, 35]

/-- Whether a list of codes falls by at least 3 steps of 10 mV each, with the last at least 5 above L7 (R84). -/
def ladderSpaced : List Nat → Bool
  | [] => true
  | [x] => decide (x ≥ 30)
  | x :: y :: r => decide (x ≥ y + 3) && ladderSpaced (y :: r)

/-- Whether a set of codes is valid (R84). -/
def ladderSetOk (l : List Nat) : Bool :=
  (l.zip ladderBounds).all (fun p => decide (p.2.1 ≤ p.1) && decide (p.1 ≤ p.2.2)) && ladderSpaced l

/-- The stored codes. -/
def State.ladderStored (s : State) : List Nat := (List.range 6).map (fun i => s.optRaw (0x10 + i) 1)

/-- Whether the stored thresholds are in force (R84, CFG_DEFAULT 0). -/
def State.ladderMoved (s : State) : Bool := s.flag R.AON.OPT_STATUS.VALID && ladderSetOk s.ladderStored

/-- The threshold of level `n`, in mV: L1 to L6 by code, L7 fixed (Table SUP-4). -/
def State.threshold (s : State) (n : Nat) : Nat :=
  if n = 7 then 2250
  else 2000 + 10 * ((if s.ladderMoved then s.ladderStored else ladderDefaults).getD (n - 1) 0)

/-- R_SRC in steps of 0.25 Ω (R80). -/
def State.cellRsrc (s : State) : Nat := s.optField 0x18 1 0 255 40
/-- Minutes after 00:00 UTC of the daily alarm frame. -/
def State.alarmTod (s : State) : Nat := s.optField 0x1A 2 0 1439 600
/-- The alarm divisor at L6. -/
def State.measStretch (s : State) : Nat := s.optField 0x1C 1 2 8 4
/-- The SERVICE limit in minutes. -/
def State.serviceMax (s : State) : Nat := s.optField 0x1D 1 5 240 60
/-- The key of copy `c` of a voted field of Table REG-4 in `State.copies`; `c` 3 stands for the value in force. -/
def voteKey (id index c : Nat) : Nat := (id * 0x1000 + index) * 4 + c
/-- A voted value taken from the option shadows: what the voters have put in force since, else `d`. -/
def State.inForce (s : State) (id index d : Nat) : Nat := (s.copies.find (voteKey id index 3)).getD d
/-- The preference among boot twins (R147); voted under ID 0x06. -/
def State.bootSel (s : State) : Nat := s.inForce 6 0 (s.optField 0x1E 1 0 2 0)
/-- The form of HFXO (R393): 0 crystal, 1 external clock; voted under ID 0x05. -/
def State.hfxoMode (s : State) : Nat := s.inForce 5 0 (s.optField 0x24 1 0 1 0)
/-- The load-capacitance trim of HFXO (R393); voted under ID 0x05. -/
def State.hfxoTrim (s : State) : Nat := s.inForce 5 1 (s.optField 0x25 1 0 63 32)
/-- Entry `i` of AXO as the option shadows hold it, start and end as one value of 64 bits (R263); voted under ID 0x03. -/
def State.axoWord (s : State) (i : Nat) : Nat :=
  s.inForce 3 (2 + i) (if s.flag R.AON.OPT_STATUS.VALID then s.optRaw (0x80 + 8 * i) 8 else 2 ^ 64 - 1)
/-- The ACORE watchdog period in 0.125 s; 0 disables it, and 1 to 3 are out of bounds. -/
def State.awdtPeriod (s : State) : Nat :=
  if s.flag R.AON.OPT_STATUS.VALID && s.optRaw 0x1F 1 == 0 then 0 else s.optField 0x1F 1 4 255 16
/-- The regulatory duty limits of the sub-bands are in ch. 16; the stored limit of sub-band `n`, 0xFFFF for none. -/
def State.dutyLimitRaw (s : State) (n : Nat) : Nat := s.optField (0x28 + 2 * n) 2 0 0xFFFF 0xFFFF
/-- The factory reading of touch channel `n`, 0xFFFF for none. -/
def State.touchRef (s : State) (n : Nat) : Nat := s.optField (0x40 + 2 * n) 2 0 0xFFFF 0xFFFF
/-- The power-up deviation threshold of the touch channels. -/
def State.touchPuThr (s : State) : Nat := s.optField 0x48 2 16 4095 200
/-- The protection map of R256: bits [15:9] must be 0; voted under ID 0x03. -/
def State.protMask (s : State) : Nat := s.inForce 3 0 (s.optField 0x60 2 0 0x1FF 3)
/-- The password check value. -/
def State.protPwTag (s : State) : List Nat :=
  if s.flag R.AON.OPT_STATUS.VALID then (List.range 16).map (fun i => s.opt.getD (0x64 + i) 0xFF)
  else List.replicate 16 0xFF

end Sys2Proof.Machine
end

