-- ==== Sys2Proof/Machine/Bridge.lean ====
section
/-! DEFINITION. Bridges to the clocked islands (ch. 02): which register lies behind which bridge, entering a bridge, the
record of a timeout, pulse events and overruns. -/

namespace Sys2Proof.Machine

open Sys2Proof

/-- The side a bridge belongs to (Table CLK-4). -/
def bridgeSide (id : Nat) : Side := if id ≥ 0x10 then .met else .app

/-- Whether a bridge is a word bridge. -/
def isWordBridge (id : Nat) : Bool := [0x01, 0x08, 0x09, 0x0A, 0x0E, 0x11].contains id

/-- Whether a bridge is a pulse bridge. -/
def isPulseBridge (id : Nat) : Bool := [0x03, 0x04, 0x0C, 0x0D, 0x13, 0x14].contains id

/-- Whether a bridge leads to the RF domain. -/
def isRfBridge (id : Nat) : Bool := decide (0x08 ≤ id) && decide (id ≤ 0x0E)

/-- Whether the far domain of a bridge is powered (R53): RF for the RF bridges, AON otherwise. -/
def State.farPowered (s : State) (id : Nat) : Bool :=
  if isRfBridge id then s.power.rf.st == .on else !s.power.ship

/-- The limit of a bridge in ticks (R51, R55): a committed value below 16 acts as 16; once TOSC has failed, LFXO periods,
ceil(limit ÷ 30) of them (R57). -/
def State.bridgeLimit (s : State) (id : Nat) : Nat :=
  let v := if isRfBridge id then s.rd R.BRIDGE.TIMEOUT.RF_LIMIT else s.rd (R.BRIDGE.TIMEOUT.AON_LIMIT (bridgeSide id))
  let t := max 16 v
  if s.bridges.fallback then (t + 29) / 30 else t

/-- The record of a timeout (R51, R53): the first is kept, later ones set MULTI; every one counts and is logged. -/
def State.recordTimeout (s : State) (id req : Nat) (write off : Bool) (addr : Nat) : State :=
  let sd := bridgeSide id
  let s1 :=
    if s.flag (R.BRIDGE.STATUS.TIMEOUT sd) then s.raise (R.BRIDGE.STATUS.MULTI sd)
    else
      (((((s.wr (R.BRIDGE.STATUS.LAST_ID sd) id).wrBool (R.BRIDGE.STATUS.DIR sd) write).wrBool
        (R.BRIDGE.STATUS.DOMAIN_OFF sd) off).wr (R.BRIDGE.STATUS.REQ sd) req).wr
        (R.BRIDGE.FAULT_ADDR.ADDR sd) addr).raise (R.BRIDGE.STATUS.TIMEOUT sd)
  (s1.count (R.BRIDGE.COUNTS.TO_COUNT sd) 1).logSide sd 0x0A11 []

/-- The consecutive timeouts of a bridge set (R56). -/
def State.setRun (s : State) (id n : Nat) : State :=
  { s with bridges := { s.bridges with runs := s.bridges.runs.put id n } }

/-- One more timeout in a bridge's run (R56); a dropped event does not count (R53). -/
def State.lengthenRun (s : State) (id : Nat) : State := s.setRun id (s.bridges.runs.count id + 1)

/-- The word bridge a register write or a Word read takes: RF_REG for RADIO, LINK and TUNER, AON_W or MAON_W for the
registers held in AON; none where no bridge stands. -/
def bridgeOf (addr : Nat) : Option Nat :=
  let w := windowBase addr
  if w = 0x40008000 ∨ w = 0x40009000 ∨ w = 0x4000A000 then some 0x08
  else if w = 0x40002000 then some 0x01
  else if w = 0x4800D000 then some 0x11
  else if (regFields addr).any (fun f => f.kind == .mirror) then some (if w < 0x48000000 then 0x01 else 0x11)
  else none

/-- The address an access was made at: that of the register, or the set, clear or toggle alias of it (R164). -/
def issuedAddr (mode addr : Nat) : Nat := addr + 0x1000000 * mode

/-- How many accesses stand at a bridge. -/
def State.bridgeFill (s : State) (id : Nat) : Nat := (s.bridges.waiting.filter (fun a => a.id == id)).length

/-- An access enters a word bridge and waits behind those already in it, its limit running once it is in one of the two
entries of the FIFO (R48, R51), or faults at once towards an unpowered domain (R53). -/
def State.enterBridge (s : State) (id req : Nat) (write sync : Bool) (mode addr data : Nat) : State :=
  if s.farPowered id then
    let a : BridgeAccess :=
      { id := id, req := req, write := write, addr := addr, data := data, mode := mode
        limit := if s.bridgeFill id < 2 then s.bridgeLimit id else 0, sync := sync, taken := false }
    { s with bridges := { s.bridges with waiting := s.bridges.waiting ++ [a] } }
  else
    ((s.recordTimeout id req write true (issuedAddr mode addr)).lengthenRun id).busFault (bridgeSide id) req
      (if write then kindWrite else kindRead) causeBridgeTimeout (issuedAddr mode addr)

/-- The access at the head of a bridge. -/
def State.bridgeHead (s : State) (id : Nat) : Option BridgeAccess := s.bridges.waiting.find? (fun a => a.id == id)

/-- A list with the first access of a bridge taken out. -/
def dropHead (id : Nat) : List BridgeAccess → List BridgeAccess
  | [] => []
  | a :: r => if a.id = id then r else a :: dropHead id r

/-- The first `k` accesses of a bridge in its FIFO: one that enters it now starts its count with the limit `lim`. -/
def fillFifo (id lim : Nat) : Nat → List BridgeAccess → List BridgeAccess
  | 0, l => l
  | _, [] => []
  | k + 1, a :: r =>
    if a.id = id then (if a.limit = 0 then { a with limit := lim } else a) :: fillFifo id lim k r
    else a :: fillFifo id lim (k + 1) r

/-- The head of a bridge leaves it, and the next access before the FIFO enters. -/
def State.popBridge (s : State) (id : Nat) : State :=
  { s with bridges :=
      { s.bridges with waiting := fillFifo id (s.bridgeLimit id) 2 (dropHead id s.bridges.waiting) } }

/-- The OVR flag of a pulse bridge (Table CLK-15, R726). -/
def ovrFlag (id : Nat) : Option Fld :=
  if id = 0x03 then some R.BRIDGE.OVR.AON_EV
  else if id = 0x04 then some R.BRIDGE.OVR.AON_RQ
  else if id = 0x0C then some R.BRIDGE.OVR.RF_EV
  else if id = 0x0D then some R.BRIDGE.OVR.RF_RQ
  else if id = 0x13 then some R.MBRIDGE.OVR.MAON_EV
  else if id = 0x14 then some R.MBRIDGE.OVR.MAON_RQ
  else none

/-- An event meets one not yet acknowledged (R47): it is merged; the OVR bit is set, every overrun counts, and the event
is logged when the bit goes from 0 to 1. -/
def State.overrun (s : State) (id : Nat) : State :=
  let sd := bridgeSide id
  let s1 := s.count (R.BRIDGE.COUNTS.OVR_COUNT sd) 1
  match ovrFlag id with
  | none => s1
  | some f => if s1.flag f then s1 else (s1.raise f).logSide sd 0x0A10 []

/-- PULSE_BRIDGE_EVENT (R47, R53): dropped and recorded towards an unpowered domain; merged with a pending event; else
pending until the far side acknowledges, which BRIDGE_FAR_LATCH does. -/
def execPulseBridgeEvent (id : Nat) (s : State) : Host.Outcome State Fault Refusal :=
  if !isPulseBridge id then .next s
  else if !s.farPowered id then .next (s.recordTimeout id 15 false true 0)
  else if s.bridges.pulses.contains id then .next (s.overrun id)
  else .next { s with bridges := { s.bridges with pulses := s.bridges.pulses ++ [id] } }

/-- Whether a bridge's timeouts run: not once TOSC has failed while LFXO has stopped as well (R57). -/
def State.timeoutsRun (s : State) : Bool := !s.bridges.fallback || s.flag (R.BRIDGE.CLKSTAT.LFXO_RUN .app)

/-- Whether edges of a bridge's far clock come (R50, R725, Table CLK-4): HFXO for the RF bridges, TOSC for the pulse bridges
to AON, and for the others LFXO, or the tick of TOSC while the RTC counts on that. -/
def State.farClock (s : State) (id : Nat) : Bool :=
  if isRfBridge id then s.flag (R.BRIDGE.CLKSTAT.HFXO_RUN .app)
  else if isPulseBridge id then s.flag (R.BRIDGE.CLKSTAT.TOSC_OK .app)
  else s.rtcOnTosc || s.flag (R.BRIDGE.CLKSTAT.LFXO_RUN .app)

/-- A pulse event that its far side has not taken within the limit is withdrawn (R51): it has no requester to fault. -/
def State.pulseTimeout (s : State) (id : Nat) : State :=
  let s1 : State := { s with bridges := { s.bridges with pulses := s.bridges.pulses.filter (fun n => n != id) } }
  (s1.recordTimeout id 15 false false 0).lengthenRun id

/-- The access at the head of a bridge withdrawn without effect at its limit: it completes with a bus fault (R51). -/
def State.withdraw (s : State) (a : BridgeAccess) : State :=
  let addr := issuedAddr a.mode a.addr
  (((s.popBridge a.id).recordTimeout a.id a.req a.write false addr).lengthenRun a.id).busFault (bridgeSide a.id) a.req
    (if a.write then kindWrite else kindRead) causeBridgeTimeout addr

end Sys2Proof.Machine
end

