-- ==== Sys2Proof/Machine/Power.lean ====
section
/-! DEFINITION. The pace and back-bias loops (ch. 02), the rail hold of UNDER, and the mode controller (ch. 04): demands,
the effective mode, wake causes, entries and exits. -/

namespace Sys2Proof.Machine

open Sys2Proof

/-! ### Who runs -/

/-- The ladder level. -/
def State.level (s : State) : Nat := s.rd R.PWR.LADDER.LEVEL

/-- Whether ACORE executes: its demand stands, APP is On, and it is neither in WFI nor held in reset. -/
def State.acoreExecuting (s : State) : Bool :=
  s.power.app.st == .on && s.power.acoreRuns && !s.power.acoreHeld && !s.power.acoreWfi

/-- Whether MCORE executes. -/
def State.mcoreExecuting (s : State) : Bool :=
  s.power.met.st == .on && s.flag R.MPWR.MCTL.RUN && !s.power.mcoreWfi

/-- The ACORE watchdog fed: REMAIN takes the period of the option area (R136). -/
def State.feedApp (s : State) : State := s.wr R.AON.WDT.REMAIN s.awdtPeriod

/-- The MCORE watchdog fed: REMAIN takes PERIOD, below 2 as 2 and above 64 as 64 (R136, Table START-13). -/
def State.feedMet (s : State) : State := s.wr R.MPWR.WDT.REMAIN (max 2 (min 64 (s.rd R.MPWR.WDT.PERIOD)))

/-- Whether channel 0 has a record to drain into its ring (R625). -/
def State.ringDrains (s : State) : Bool :=
  s.flag R.DMA.CTRL.CH0_RING && s.flag (R.DMA.CFG.EN 0) && !s.flag (R.DMA.CFG.PAUSE 0) && s.rd R.LINK.RXLEVEL.BYTES != 0

/-- Whether channel 0's ring, CMACE in either context, DICT or UPDATE is at work. -/
def State.enginesWork (s : State) : Bool :=
  s.ringDrains || !s.cmac.background.isEmpty || !s.cmac.urgent.isEmpty || s.rd R.DICT.STATUS.STATE != 0 ||
    s.rd R.UPDATE.STATUS.STATE == 3 || s.update.sheaf.isSome

/-- Whether a DMA channel, CMACE, DICT or UPDATE is at work (R36). -/
def State.engineActive (s : State) : Bool :=
  (List.range 8).any (fun n => s.rd (R.DMA.STAT.STATE n) == 2) || s.enginesWork

/-- The APP engine activity of Table MODE-2: the link engine at its frames, channel 0, DICT, UPDATE (R660) and CMACE. -/
def State.engineDemand (s : State) : Bool := s.enginesWork || s.power.exchange || s.power.linkWork

/-! ### The pace loop -/

/-- The loop of a side. -/
def State.rail (s : State) (sd : Side) : RailLoop := sd.pick s.appRail s.metRail

/-- The loop of a side replaced. -/
def State.setRail (s : State) (sd : Side) (r : RailLoop) : State :=
  match sd with
  | .app => { s with appRail := r }
  | .met => { s with metRail := r }

/-- The upper limit of the code (R35). -/
def State.codeHi (s : State) (sd : Side) : Nat := min 90 (s.rd (R.PWR.PACE_LIMIT.VMAX_CODE sd))

/-- The lower limit of the code (R35). -/
def State.codeLo (s : State) (sd : Side) : Nat := min (min 90 (s.rd (R.PWR.PACE_LIMIT.VMIN_CODE sd))) (s.codeHi sd)

/-- The rate a loop requires (R36, R41); none where nothing is active. -/
def State.requiredRate (s : State) (sd : Side) : Option Nat :=
  match sd with
  | .app =>
    let t := min 96 (s.rd (R.PWR.PACE_CTRL.TARGET .app))
    let e := min 96 (s.rd R.PWR.PACE_CTRL.ENG_TARGET)
    if s.acoreExecuting then (if s.engineActive then some (max t e) else some t)
    else if s.engineActive then some e
    else none
  | .met => if s.mcoreExecuting then some (min 24 (s.rd (R.PWR.PACE_CTRL.TARGET .met))) else none

/-- A code moved towards another by at most `k`. -/
def stepTowards (c t k : Nat) : Nat := if c < t then min t (c + k) else max t (c - k)

/-- A value held between two limits. -/
def clampNat (lo hi v : Nat) : Nat := max lo (min hi v)

/-- The code the loop moves towards (R37): the code where the measured rate first reaches the required one, which is
upwards while the rate is short of it and downwards while it exceeds it; FIXED_CODE; or the lower limit. -/
def State.paceGoal (s : State) (sd : Side) (rate goal cur : Nat) : Nat :=
  let mode := s.rd (R.PWR.PACE_CTRL.MODE sd)
  let lo := s.codeLo sd
  let hi := s.codeHi sd
  if mode = 0 then
    match s.requiredRate sd with
    | none => lo
    | some q =>
      if rate < q then clampNat lo hi (max cur goal)
      else if q < rate then clampNat lo hi (min cur goal)
      else clampNat lo hi cur
  else if mode = 1 then clampNat lo hi (s.rd (R.PWR.PACE_CTRL.FIXED_CODE sd))
  else lo

/-- PACE_UPDATE (R35 to R41, R60): `rate` was measured over the period that ended; `goal` is the code at which the rate
first reaches the required one.  While neither oscillator runs the code holds. -/
def execPaceUpdate (sd : Side) (rate goal : Nat) (s : State) : Host.Outcome State Fault Refusal :=
  if s.power.clockLoss then .next s
  else
    let cur := s.rd (R.PWR.PACE_STATUS.VCORE_CODE sd)
    let c := stepTowards cur (s.paceGoal sd rate goal cur) (s.rd (R.PWR.PACE_LIMIT.STEP sd) + 1)
    let req := s.requiredRate sd
    let q := req.getD 0
    let inBand := req.isSome && decide (100 * (max rate q - min rate q) ≤ 3 * q)
    let r := s.rail sd
    let n := if !inBand then 0 else if r.required = q then min 4 (r.inBand + 1) else 1
    let s1 := s.setRail sd { r with inBand := n, required := q }
    let s2 := (s1.wr (R.PWR.PACE_STATUS.VCORE_CODE sd) c).wr (R.PWR.PACE_STATUS.RATE sd) (min 127 rate)
    let s3 := s2.wrBool (R.PWR.PACE_STATUS.LOCKED sd) (n == 4)
    let s4 := s3.wrBool (R.PWR.PACE_STATUS.AT_CEIL sd) (req.isSome && c == s.codeHi sd && decide (rate < q))
    .next (s4.wrBool (R.PWR.PACE_STATUS.AT_FLOOR sd) (c == s.codeLo sd))

/-- PACE_CEILING (R40): AT_CEIL has stayed 1 for 1 ms. -/
def execPaceCeiling (sd : Side) (s : State) : Host.Outcome State Fault Refusal :=
  if s.flag (R.PWR.PACE_STATUS.AT_CEIL sd) && !s.flag (R.PWR.PACE_STATUS.CEIL_HIT sd) then
    .next ((s.raise (R.PWR.PACE_STATUS.CEIL_HIT sd)).log 0x0110 [])
  else .next s

/-! ### The hold below 0.43 V (R61) -/

/-- Whether a side's rail is powered. -/
def State.railPowered (s : State) (sd : Side) : Bool := (sd.pick s.power.app s.power.met).st == .on

/-- Whether MCORE makes accesses: MET is On, as it never is on a BST420C (R3). -/
def State.metRuns (s : State) : Bool := s.power.met.st == .on && s.variant != .c

/-- UNDER: the flag of the rail is set, and its SRAM and flash handshakes are held from now on (R61). -/
def execUnder (sd : Side) (s : State) : Host.Outcome State Fault Refusal :=
  if s.railPowered sd then .next (s.raise (R.PWR.PACE_STATUS.UNDER sd)) else .next s

/-- VCORE_UNDER: the hold has lasted 1 ms (R61). -/
def execVcoreUnder (sd : Side) (s : State) : Host.Outcome State Fault Refusal :=
  if s.flag (R.PWR.PACE_STATUS.UNDER sd) then .next (s.log 0x0112 []) else .next s

/-! ### The back-bias loop (R42 to R44, R724) -/

/-- HIBERNATE or WATCH: the modes in which the back-bias loops act (R42). -/
def State.restMode (s : State) : Bool := s.rd R.PWR.MODE_STATUS.EFFECTIVE == 1 || s.rd R.PWR.MODE_STATUS.EFFECTIVE == 2

/-- Whether the arrays of a side are retained. -/
def State.retained (s : State) (sd : Side) : Bool := (sd.pick s.power.app s.power.met).st == .retained

/-- Whether the bias of a side ramps up, at the entry of its domain (R43). -/
def State.biasRamps (s : State) (sd : Side) : Bool :=
  (sd.pick s.power.app s.power.met).entering == some .retained && s.flag (R.PWR.BIAS_CTRL.EN sd)

/-- The highest bias the loop may apply: MAX_RBB, and the limit of R44 in this sleep. -/
def State.biasCeiling (s : State) (sd : Side) : Nat :=
  let m := min 15 (s.rd (R.PWR.BIAS_CTRL.MAX_RBB sd))
  match (s.rail sd).biasCap with
  | none => m
  | some c => min m c

/-- BIAS_REEVALUATE: one step of 100 mV towards the level the leakage monitor asks for (R42, R724). -/
def execBiasReevaluate (sd : Side) (asked : Nat) (s : State) : Host.Outcome State Fault Refusal :=
  if s.retained sd && s.restMode && (s.rail sd).biasOn && s.rd (R.PWR.BIAS_CTRL.TRACK sd) != 3 then
    let r := s.rail sd
    .next (s.setRail sd { r with bias := stepTowards r.bias (min asked (s.biasCeiling sd)) 1 })
  else .next s

/-- RETENTION_FLIP (R44): one step less, RET_GUARD and RET_LIMIT set, and the bias never above that level again until the
next mode entry.  How far the ramp has come where the flip meets the entry is a free value up to the ceiling (log entry 162). -/
def execRetentionFlip (sd : Side) (s : State) : Host.Outcome State Fault Refusal :=
  if s.biasRamps sd || (s.retained sd && s.restMode && (s.rail sd).biasOn) then
    let r := s.rail sd
    let v := s.fresh
    let f := if s.biasRamps sd then (v.1 % (s.biasCeiling sd + 1), v.2) else (r.bias, s)
    let b := f.1 - 1
    let s1 := f.2.setRail sd { r with bias := b, biasCap := some b }
    .next (((s1.raise (R.PWR.BIAS_STATUS.RET_GUARD sd)).raise (R.PWR.BIAS_STATUS.RET_LIMIT sd)).log 0x0111 [])
  else .next s

/-- A mode entry begins: the limit of R44 holds no longer. -/
def State.freeBias (s : State) (sd : Side) : State :=
  (s.setRail sd { s.rail sd with biasCap := none }).clear (R.PWR.BIAS_STATUS.RET_GUARD sd)

/-- The bias at the end of an entry: the level asked for, at most MAX_RBB and the limit of R44, or none where EN is 0
(R62, R724). -/
def State.enterBias (s : State) (sd : Side) (asked : Nat) : State :=
  let en := s.flag (R.PWR.BIAS_CTRL.EN sd)
  s.setRail sd { s.rail sd with bias := if en then min asked (s.biasCeiling sd) else 0, biasOn := en }

/-- The bias removed on a wake (R43); RBB_CODE keeps the one in force just before (Table CLK-12). -/
def State.removeBias (s : State) (sd : Side) : State :=
  let r := s.rail sd
  (s.wr (R.PWR.BIAS_STATUS.RBB_CODE sd) r.bias).setRail sd { r with bias := 0, biasOn := false }

/-! ### The effective mode (R97, Table MODE-1) -/

/-- Whether ACORE's execution demand stands with APP On: a WFI ends it only with APP_OFF = 1 (Table MODE-2). -/
def State.acoreInRun (s : State) : Bool := s.power.app.st == .on && s.power.acoreRuns && !s.power.acoreHeld

/-- Whether gleaning is armed (Table MODE-2). -/
def State.gleanArmed (s : State) : Bool := s.flag R.LINK.CTRL.EN && s.flag R.LINK.GLEAN.EN

/-- The one effective mode. -/
def State.effectiveMode (s : State) : Nat :=
  if s.power.ship then 0
  else if s.flag R.MPWR.MCTL.SERVICE then 7
  else if s.power.exchange && s.power.rf.st == .on then 6
  else if s.acoreInRun then 5
  else if s.flag R.MPWR.MCTL.RUN && !s.power.frozen && s.variant != .c then 3
  else if s.gleanArmed && decide (s.level ≤ 3) && !s.power.frozen then 4
  else if s.flag R.MPWR.MCTL.KEEP && !s.power.frozen then 2
  else 1

/-! ### Domains -/

/-- A domain's power. -/
def State.dom (s : State) (d : Dom) : DomainPower :=
  match d with
  | .met => s.power.met
  | .app => s.power.app
  | .rf => s.power.rf
  | .loft => s.power.loft

/-- A domain's power replaced. -/
def State.setDom (s : State) (d : Dom) (p : DomainPower) : State :=
  match d with
  | .met => { s with power := { s.power with met := p } }
  | .app => { s with power := { s.power with app := p } }
  | .rf => { s with power := { s.power with rf := p } }
  | .loft => { s with power := { s.power with loft := p } }

/-- Whether SERVICE is granted. -/
def State.inService (s : State) : Bool := s.flag R.MPWR.MCTL.SERVICE

/-- Whether SHIP is entered, or being entered. -/
def State.shipped (s : State) : Bool := s.power.ship || s.power.shipping

/-- The state a domain's demands ask for (Table MODE-3, R101, R106, R107, R127, R128). -/
def State.demanded (s : State) (d : Dom) : DomState :=
  match d with
  | .met =>
    if s.power.frozen || s.shipped || s.variant == .c then .off
    else if s.flag R.MPWR.MCTL.RUN || s.inService || s.power.freezeWait then .on
    else if s.flag R.MPWR.MCTL.KEEP then .retained
    else .off
  | .app =>
    if s.shipped then .off
    else if (s.power.acoreRuns && !s.power.acoreHeld) || (s.engineDemand && decide (s.level ≤ 4)) || s.inService then .on
    else .retained
  | .rf =>
    if s.shipped || s.power.frozen || decide (s.level = 7) then .off
    else if s.power.exchange || (s.power.gleanOpen && decide (s.level ≤ 3)) ||
        ((s.flag R.PWR.DOMAIN_REQ.RF_HOLD || s.dict.rfHold) && decide (s.level ≤ 3)) then .on
    else if s.power.frameWait then .retained
    else .off
  | .loft =>
    if s.shipped then .off
    else if s.power.app.st == .on || s.power.met.st == .on then .on
    else if s.flag R.MPWR.MCTL.KEEP && !s.power.frozen then .retained
    else .off

/-- Every domain. -/
def allDoms : List Dom := [.met, .app, .rf, .loft]

/-- Whether a domain is to leave its state: its demands ask for less than On, or SHIP is to be entered (R112). -/
def State.entryDue (s : State) (d : Dom) : Bool :=
  (s.demanded d != .on && s.demanded d != (s.dom d).st && (s.dom d).st != .off) || (d == .app && s.power.shipAccepted)

/-- A hold, and that it was logged, last no longer than the entry is due (R112). -/
def State.settleHold (s : State) (d : Dom) : State :=
  let p := s.dom d
  let h := p.held && s.entryDue d
  s.setDom d { p with held := h, heldLogged := p.heldLogged && h }

/-- The fields of MODE_STATUS that show the domains, their holds and the base. -/
def State.showDomains (s : State) : State :=
  let s0 := allDoms.foldl State.settleHold s
  let s1 := s0.wr R.PWR.MODE_STATUS.BASE (if s0.flag R.MPWR.MCTL.KEEP then 2 else 1)
  let s2 := (s1.wrBool R.PWR.MODE_STATUS.APP_ON (s0.power.app.st == .on)).wrBool R.PWR.MODE_STATUS.MET_ON
    (s0.power.met.st == .on)
  let s3 := (s2.wrBool R.PWR.MODE_STATUS.MET_RET (s0.power.met.st == .retained)).wrBool R.PWR.MODE_STATUS.RF_ON
    (s0.power.rf.st == .on)
  s3.wrBool R.PWR.MODE_STATUS.HELD (allDoms.any (fun d => (s0.dom d).held))

/-- The owner of a voted field writes all its copies (R181): none differs any more. -/
def State.ownCopies (s : State) (id index : Nat) : State :=
  { s with copies := s.copies.filter (fun e => e.1 / 4 != id * 0x1000 + index) }

/-- The loop of a Retained side that does not act yet begins to: what its leakage monitor asks for is free. -/
def State.biasSide (s : State) (sd : Side) : State :=
  let p := sd.pick s.power.app s.power.met
  if p.st == .retained && p.entering.isNone && !(s.rail sd).biasOn && s.flag (R.PWR.BIAS_CTRL.EN sd) then
    s.fresh.2.enterBias sd (s.fresh.1 % 16)
  else s

/-- HIBERNATE or WATCH has become effective: the loops of both sides act (R42). -/
def State.restEntered (s : State) (before : Bool) : State :=
  if s.restMode && !before then (s.biasSide .app).biasSide .met else s

/-- EFFECTIVE recomputed (R97), as at the completion of a domain transition (R124). -/
def State.modeComplete (s : State) : State :=
  (((s.wr R.PWR.MODE_STATUS.EFFECTIVE s.effectiveMode).ownCopies 1 0).restEntered s.restMode).showDomains

/-- Whether a domain is on its way to another state: entering or leaving one, or its demands ask for On where it is not, or
for less where it is. -/
def State.inTransit (s : State) (d : Dom) : Bool :=
  let p := s.dom d
  p.entering.isSome || p.exiting || (p.st == .on) != (s.demanded d == .on)

/-- What a change of a demand does to MODE_STATUS (R97, R124): EFFECTIVE is recomputed unless a transition follows, whose
completion recomputes it. -/
def State.updateMode (s : State) : State :=
  if [Dom.met, .app, .rf].any s.inTransit then s.showDomains else s.modeComplete

/-- A domain leaves its resting state for On. -/
def State.startExit (s : State) (d : Dom) : State :=
  let p := s.dom d
  if p.st == .on || p.exiting || p.entering.isSome then s else s.setDom d { p with exiting := true }

/-! ### Wake causes (Table MODE-6, R115 to R118) -/

/-- Whether a cause can be routed to a side. -/
def routable (sd : Side) (c : Nat) : Bool :=
  (sd.pick [0x1, 0x3, 0x4, 0x5, 0x6, 0xA, 0xB, 0xC, 0xD, 0xE] [0x2, 0x3, 0x4, 0x7, 0x8, 0x9, 0xB, 0xC, 0xE, 0xF]).contains c

/-- Whether a cause is enabled towards a side: causes 0xE and 0xF always, where they apply; none towards MET on BST420C,
which has no MPWR (R101, R160). -/
def State.wakeEnabled (s : State) (sd : Side) (c : Nat) : Bool :=
  routable sd c && !(sd == .met && s.variant == .c) && (decide (c ≥ 0xE) || s.rdBit (R.PWR.WAKE_EN.EN sd) (c - 1))

/-- Who holds the lead of GPIO `n` (Table PIN-3, R708): 0 the application side, 1 segment line `n`, 2 touch channel `n`. -/
def State.leadOwner (s : State) (n : Nat) : Nat :=
  if s.variant == .c || decide (n ≥ 12) || s.power.met.st == .off then 0
  else if s.rd (R.LCD.PINSEL.SEL n) = 1 then 1
  else if s.rd (R.LCD.PINSEL.SEL n) = 2 ∧ n < 4 then 2
  else 0

/-- Whether the island holds the lead of GPIO `n` (R709). -/
def State.leadHeld (s : State) (n : Nat) : Bool := s.leadOwner n != 0

/-- Whether a cause can arise at its source: an edge of GPIO0 to GPIO3 where WAKE_EDGE selects one, and a start bit of
UART0_RX, while APP is not On (R635, R643); neither at a lead that the island holds (R709). -/
def State.causeArises (s : State) (c : Nat) : Bool :=
  if c = 0x5 then
    s.power.app.st != .on &&
      (List.range 4).any (fun n => bitsOf (s.rd R.GPIO.WAKE_EDGE.EDGE) (2 * n) 2 != 0 && !s.leadHeld n)
  else if c = 0xD then s.power.app.st != .on && !s.leadHeld 3
  else true

/-- What WAKE_EN reads: bits that cannot go to the side read 0, fixed bits read 1 (R115). -/
def State.wakeEnRead (s : State) (sd : Side) : Nat :=
  (List.range 15).foldl (fun v i => v + 2 ^ i * b2n (s.wakeEnabled sd (i + 1))) 0

/-- The causes listed on a side, in order of arrival. -/
def State.wakeList (s : State) (sd : Side) : List Nat :=
  [s.rd (R.PWR.WAKE_CAUSE.C0 sd), s.rd (R.PWR.WAKE_CAUSE.C1 sd), s.rd (R.PWR.WAKE_CAUSE.C2 sd),
    s.rd (R.PWR.WAKE_CAUSE.C3 sd)].take (s.rd (R.PWR.WAKE_CAUSE.COUNT sd))

/-- The field of the n-th listed cause. -/
def wakeSlot (sd : Side) (n : Nat) : Fld :=
  match n with
  | 0 => R.PWR.WAKE_CAUSE.C0 sd
  | 1 => R.PWR.WAKE_CAUSE.C1 sd
  | 2 => R.PWR.WAKE_CAUSE.C2 sd
  | _ => R.PWR.WAKE_CAUSE.C3 sd

/-- A cause listed (R117): not twice; beyond four, MORE is set and the event logged at the first. -/
def State.listCause (s : State) (sd : Side) (c : Nat) : State :=
  let n := s.rd (R.PWR.WAKE_CAUSE.COUNT sd)
  if (s.wakeList sd).contains c then s
  else if n ≥ 4 then
    if s.flag (R.PWR.WAKE_CAUSE.MORE sd) then s else (s.raise (R.PWR.WAKE_CAUSE.MORE sd)).log 0x0121 []
  else
    let s1 := (s.wr (wakeSlot sd n) c).wr (R.PWR.WAKE_CAUSE.COUNT sd) (n + 1)
    if n = 0 then s1.wr (R.PWR.WAKE_CAUSE.FROM sd) (s.rd R.PWR.MODE_STATUS.EFFECTIVE) else s1

/-- The domain a side's wakes lead to. -/
def wakeDom (sd : Side) : Dom := sd.pick .app .met

/-- The demand a wake raises: ACORE's execution, unless it is held in reset, or MPWR.MCTL.RUN (R115, R106); a core that
leaves its WFI with its domain On leaves its watchdog's pause, which reloads the count (R136). -/
def State.raiseDemand (s : State) (sd : Side) : State :=
  match sd with
  | .app =>
    let s1 : State :=
      { s with power := { s.power with acoreRuns := s.power.acoreRuns || !s.power.acoreHeld, acoreWfi := false } }
    if !s.acoreExecuting && s1.acoreExecuting then s1.feedApp else s1
  | .met =>
    let s1 := ({ s with power := { s.power with mcoreWfi := false } } : State).raise R.MPWR.MCTL.RUN
    if !s.mcoreExecuting && s1.mcoreExecuting then s1.feedMet else s1

/-- One enabled cause arrives (R116, R118): listed, its demand raised; latched for replay while its domain is entering,
else the exit starts unless the domain is On.  In the locked HIBERNATE nothing is accepted (R126); during the entry to
SHIP a cause of either side is latched for its exit (R125).  A wake through UART0 sets WOKE (R635). -/
def State.wake (s : State) (sd : Side) (c : Nat) : State :=
  if s.power.frozen || s.power.ship || !s.wakeEnabled sd c then s
  else if s.power.shipping then
    s.setDom .app { s.power.app with latched := s.power.app.latched ++ [c] }
  else
    let s0 := if c = 0xD ∧ sd = .app ∧ s.power.app.st = .retained then s.raise (R.UART.STATUS.WOKE 0) else s
    let s1 := (s0.listCause sd c).raiseDemand sd
    let p := s1.dom (wakeDom sd)
    let s2 :=
      if p.entering.isSome then s1.setDom (wakeDom sd) { p with latched := p.latched ++ [c] }
      else if s1.demanded (wakeDom sd) == .on then s1.startExit (wakeDom sd)
      else s1
    s2.updateMode

/-- One cause towards both sides at one moment: both lists give the mode it found (Table MODE-13). -/
def State.wakeBoth (s : State) (c : Nat) : State :=
  (((s.wake .app c).wr R.PWR.MODE_STATUS.EFFECTIVE (s.rd R.PWR.MODE_STATUS.EFFECTIVE)).wake .met c).updateMode

/-- Causes in ascending code order, each once (R117). -/
def causesInOrder (l : List Nat) : List Nat := (List.range 16).filter (fun c => l.contains c)

/-- The list of a side emptied. -/
def State.clearCauses (s : State) (sd : Side) : State :=
  s.resetReg (R.PWR.WAKE_CAUSE.C0 sd).addr

/-- WAKE_CLR (R117). -/
def execWakeClr (sd : Side) (s : State) : Host.Outcome State Fault Refusal := .next (s.clearCauses sd)

/-! ### Demands written by the cores -/

/-- MCTL_RUN (R99, R129): legal firmware ends or raises the MCORE run demand. -/
def execMctlRun (v : Bool) (s : State) : Host.Outcome State Fault Refusal :=
  if s.variant == .c then .next s
  else
    let s1 := s.wrBool R.MPWR.MCTL.RUN v
    let s2 := if s1.demanded .met == .on then s1.startExit .met else s1
    .next s2.updateMode

/-- MCTL_KEEP (R97, R124). -/
def execMctlKeep (v : Bool) (s : State) : Host.Outcome State Fault Refusal :=
  if s.variant == .c then .next s else .next (s.wrBool R.MPWR.MCTL.KEEP v).updateMode

/-- SERVICE ended with its reason (R101): 1 after SERVICE_MAX minutes, 2 at L5. -/
def State.endService (s : State) (reason : Nat) : State :=
  ((s.clear R.MPWR.MCTL.SERVICE).logMet 0x0124 [reason]).updateMode

/-- SERVICE_GRANT (R101): granted, ended, or cleared at once at L5 and deeper; SERVICE holds MET and APP On. -/
def execServiceGrant (v : Bool) (s : State) : Host.Outcome State Fault Refusal :=
  if s.variant == .c then .next s
  else if v && decide (s.level ≥ 5) then .next (s.endService 2)
  else
    let s1 := s.wrBool R.MPWR.MCTL.SERVICE v
    let s2 := if v then (s1.startExit .met).startExit .app else s1
    .next s2.updateMode

/-- SERVICE_END: SERVICE has lasted SERVICE_MAX minutes (R101). -/
def execServiceEnd (s : State) : Host.Outcome State Fault Refusal :=
  if s.inService then .next (s.endService 1) else .next s

/-- A write of RF_HOLD (R107, R127). -/
def State.setRfHold (s : State) (v : Bool) : State :=
  let s1 := s.wrBool R.PWR.DOMAIN_REQ.RF_HOLD v
  let s2 := if s1.demanded .rf == .on then s1.startExit .rf else s1
  s2.updateMode

/-- WFI of ACORE: with APP_OFF = 1 it ends ACORE's demand, and with that RF_HOLD (R107, Table MODE-2), while SERVICE holds
APP On all the same (R101); else ACORE idles with APP On. -/
def State.acoreSleep (s : State) : State :=
  let s1 : State := { s with power := { s.power with acoreWfi := true } }
  if s.flag R.PWR.REST.APP_OFF then
    (({ s1 with power := { s1.power with acoreRuns := false } } : State).clear R.PWR.DOMAIN_REQ.RF_HOLD).updateMode
  else s1.updateMode

/-! ### SHIP (R100, R125) -/

/-- A SHIP request refused. -/
def State.refuseShip (s : State) : State :=
  (({ s with power := { s.power with shipAccepted := false } } : State).clear R.PWR.MODE_REQ.SHIP |>.raise
    R.PWR.MODE_STATUS.REFUSED).log 0x0120 []

/-- SHIP_REQUEST: PWR has been committed with MODE_REQ.SHIP at 1; the request is judged. -/
def execShipRequest (s : State) : Host.Outcome State Fault Refusal :=
  if !s.flag R.PWR.MODE_REQ.SHIP then .next s
  else if s.rd R.PWR.MODE_REQ.KEY = 0xC7 ∧ (s.flag R.MPWR.MCTL.SHIP_OK ∨ s.variant = .c) ∧
      s.flag R.PWR.LADDER.LOCK7 = false ∧ s.inService = false then
    .next { s with power := { s.power with shipAccepted := true } }
  else .next s.refuseShip

end Sys2Proof.Machine
end

