-- ==== Sys2Proof/Machine/Sensing.lean ====
section
/-! DEFINITION. Temperature sensing and flow (ch. 11, 12): the MADC and its turns, the strip scan with its classification,
the continuity test, the Pt1000 pair, and the ultrasonic flow front-end. -/

namespace Sys2Proof.Machine

open Sys2Proof

/-! ### Turns of the MADC (R306, R338) -/

/-- Whether a job is of the STRIP scanner. -/
def MetJob.isStrip : MetJob → Bool
  | .strip _ _ _ => true
  | .cont _ => true
  | .pt _ _ => false
  | .flow => false

/-- Whether a job is of the PT scanner. -/
def MetJob.isPt : MetJob → Bool
  | .pt _ _ => true
  | .strip _ _ _ => false
  | .cont _ => false
  | .flow => false

/-- Whether a job is a flow sequence. -/
def MetJob.isFlow : MetJob → Bool
  | .flow => true
  | .strip _ _ _ => false
  | .cont _ => false
  | .pt _ _ => false

/-- OWNER for a job (Table TEMP-7). -/
def MetJob.owner (j : MetJob) : Nat := if j.isStrip then 1 else if j.isPt then 2 else 0

/-- The busy, owner and queue flags brought up to date. -/
def State.syncMadc (s : State) : State :=
  let run := s.madcRun.toList
  let all := run ++ s.madcQueue
  let s1 := (s.wrBool R.MADC.STATUS.BUSY (run.any (fun j => !j.isFlow))).wr R.MADC.STATUS.OWNER
    (match s.madcRun with
      | none => 0
      | some j => j.owner)
  let s2 := (s1.wrBool R.MADC.STATUS.QUEUED (s.madcQueue.any (fun j => !j.isFlow))).wrBool R.STRIP.STATUS.BUSY
    (all.any MetJob.isStrip)
  let s3 := (s2.wrBool R.PT.STATUS.BUSY (all.any MetJob.isPt)).wrBool R.FLOW.STATUS.QUEUED (s.madcQueue.any MetJob.isFlow)
  s3.wrBool R.FLOW.STATUS.BUSY s.flow.cfg.isSome

/-- A job takes its turn: it runs, or waits behind the one that runs and those that wait. -/
def State.submitMadc (s : State) (j : MetJob) : State :=
  (if s.madcRun.isNone && s.madcQueue.isEmpty then ({ s with madcRun := some j } : State)
    else { s with madcQueue := s.madcQueue ++ [j] }).syncMadc

/-- The running job ends and the next one starts. -/
def State.releaseMadc (s : State) : State :=
  (match s.madcQueue with
    | [] => ({ s with madcRun := none } : State)
    | j :: r => { s with madcRun := some j, madcQueue := r }).syncMadc

/-- The jobs of a kind withdrawn, running or queued. -/
def State.withdrawMadc (s : State) (p : MetJob → Bool) : State :=
  let s1 : State := { s with madcQueue := s.madcQueue.filter (fun j => !p j) }
  match s1.madcRun with
  | none => s1.syncMadc
  | some j => if p j then s1.releaseMadc else s1.syncMadc

/-! ### Codes (R304, R309) -/

/-- A code clipped to 22 bits. -/
def clip22 (c : Int) : Int := max (-2097152) (min 2097151 c)

/-- The ratio at full scale that an FS code selects (Table TEMP-8). -/
def fullScale (fs : Nat) : Nat := if fs = 0 then 1 else if fs = 1 then 4 else 16

/-- The code of a conversion before it is clipped (R304). -/
def convCode (v : Conv) (fs : Nat) : Int :=
  if v.ref = 0 then Config.noReference v.sensor else openRound 16 (2 ^ 21 * v.sensor) (v.ref * fullScale fs)

/-- The outcome of one reading (R304, R305): with CHOP the mean of its two conversions, each clipped; overranged where one
clipped. -/
def readingCode (r : Reading) (ch : Channel) : Code :=
  let a := convCode r.first ch.fs
  let b := convCode r.second ch.fs
  if ch.chop then
    { value := openDiv 15 (clip22 a + clip22 b) 2, clipped := clip22 a != a || clip22 b != b }
  else { value := clip22 a, clipped := clip22 a != a }

/-- A reading that nothing was given for. -/
def noReading : Reading := { first := { sensor := 0, ref := 1 }, second := { sensor := 0, ref := 1 } }

/-- A code as its register shows it, sign-extended to 32 bits (R318). -/
def Code.word (c : Code) : Nat := uInt 32 c.value

/-- Whether a reading is implausible against bounds in 64 codes (R309). -/
def Code.implausible (c : Code) (lo hi : Int) : Bool :=
  c.clipped || decide (c.value / 64 < lo) || decide (c.value / 64 > hi)

/-! ### The strip (R308 to R314) -/

/-- The committed number of cells. -/
def State.ncell (s : State) : Nat := max 1 (min 8 (s.rd R.STRIP.CFG.NCELL))

/-- The scan that the committed configuration describes. -/
def State.stripScan (s : State) : MetJob :=
  .strip s.ncell (s.flag R.STRIP.CFG.SPAN_AUTO)
    { fs := s.rd R.STRIP.CFG.FS, chop := s.flag R.MADC.CTRL.CHOP, lo := sInt 16 (s.rd R.STRIP.LIMIT.CELL_MIN)
      hi := sInt 16 (s.rd R.STRIP.LIMIT.CELL_MAX) }

/-- STRIP_START (R306, R308): rejected while the scanner is busy. -/
def execStripStart (s : State) : Host.Outcome State Fault Refusal :=
  if !s.metRuns then .next s
  else if s.flag R.STRIP.STATUS.BUSY then .next (s.raise R.STRIP.STATUS.REJECT)
  else
    let s1 := ((s.clear R.STRIP.STATUS.VALID).clear R.STRIP.STATUS.IMPL).clear R.STRIP.STATUS.OVR
    let s2 := ((s1.clear R.STRIP.DIAG.TAP_SUSPECT).clear R.STRIP.DIAG.CELL_SUSPECT).clear R.STRIP.DIAG.CLASS
    .next (s2.submitMadc s.stripScan)

/-- A number with a bit for each index below a bound that satisfies a predicate. -/
def maskOf (n : Nat) (p : Nat → Bool) : Nat := (List.range n).foldl (fun v k => v + 2 ^ k * b2n (p k)) 0

/-- The reading at a place of a list. -/
def readingAt (l : List Reading) (ch : Channel) (k : Nat) : Code := readingCode (l.getD k noReading) ch

/-- The first `m` readings of a scan stored: CELLk and bit k of VALID (R308). -/
def State.storeCells (s : State) (m : Nat) (cell : Nat → Code) : State :=
  let s1 := forEach m (fun k a => a.wr (R.STRIP.CELL.CODE k) (cell k).word) s
  (s1.wr R.STRIP.STATUS.VALID (maskOf m (fun _ => true))).count R.MADC.STATUS.READINGS m

/-- Whether the span of tap `k` is plausible (R310). -/
def spanPlausible (spans : List Reading) (ch : Channel) (k : Nat) : Bool :=
  !(readingAt spans ch (k - 1)).implausible (2 * ch.lo) (2 * ch.hi)

/-- The spans read: those of the taps between two implausible cells (R310). -/
def State.storeSpans (s : State) (n : Nat) (ch : Channel) (impl : Nat → Bool) (spans : List Reading) : State :=
  forEach n (fun k a =>
    if k ≥ 1 ∧ impl (k - 1) = true ∧ impl k = true then
      (a.wr (R.STRIP.SPAN.CODE k) (readingAt spans ch (k - 1)).word).count R.MADC.STATUS.READINGS 1
    else a) s

/-- DIAG at the end of a scan with current (R311): tap suspects, cell suspects and class; the class is free where adjacent
implausible cells have no span read, a case R311 does not name (log entry 12). -/
def State.classify (s : State) (n : Nat) (spanAuto : Bool) (impl : Nat → Bool) (spanOk : Nat → Bool) : State :=
  let pair := fun k => decide (1 ≤ k) && decide (k < n) && impl (k - 1) && impl k
  let tap := maskOf 9 (fun k => pair k && spanAuto && spanOk k)
  let cell := maskOf n (fun k =>
    impl k && ((!pair k && !pair (k + 1)) ||
      (spanAuto && ((pair k && !spanOk k) || (pair (k + 1) && !spanOk (k + 1))))))
  let s1 := (s.wr R.STRIP.DIAG.TAP_SUSPECT tap).wr R.STRIP.DIAG.CELL_SUSPECT cell
  if maskOf n impl = 0 then s1.clear R.STRIP.DIAG.CLASS
  else if maskOf n impl = 2 ^ n - 1 then s1.wr R.STRIP.DIAG.CLASS 6
  else if cell ≠ 0 then s1.wr R.STRIP.DIAG.CLASS 2
  else if tap ≠ 0 then s1.wr R.STRIP.DIAG.CLASS 1
  else s1.fresh.2.wr R.STRIP.DIAG.CLASS s1.fresh.1

/-- The last high tap where taps 0 to k are high and the rest low. -/
def openCell (n : Nat) (high : Nat → Bool) : Option Nat :=
  (List.range n).find? (fun k => maskOf (n + 1) high == 2 ^ (k + 1) - 1)

/-- The check of the tap levels where no current flows (R313). -/
def State.noCurrent (s : State) (n : Nat) (high : Nat → Bool) : State :=
  let m := maskOf (n + 1) high
  let s1 := (s.wr R.STRIP.LEVELS.TAP_HIGH m).wr R.STRIP.STATUS.IMPL (2 ^ n - 1)
  let s2 :=
    if m = 0 then s1.wr R.STRIP.DIAG.CLASS 3
    else if m = 2 ^ (n + 1) - 1 then s1.wr R.STRIP.DIAG.CLASS 4
    else
      match openCell n high with
      | some k => (s1.wr R.STRIP.DIAG.CLASS 5).wr R.STRIP.LEVELS.OPEN_CELL k
      | none => s1.wr R.STRIP.DIAG.CLASS 7
  s2.logMet 0x0321 []

/-- The end of a scan: DONE, FAULT from CLASS, and the report of R311. -/
def State.endStrip (s : State) : State :=
  let s1 := s.raise R.STRIP.STATUS.DONE
  (if s1.rd R.STRIP.DIAG.CLASS = 0 then s1 else (s1.raise R.STRIP.STATUS.FAULT).logMet 0x0320 []).releaseMadc

/-- STRIP_SCAN_DONE (R308 to R313): the excitation current in 10 nA; for each cell its reading; for tap `k` at place `k - 1`
the reading of its span; and for each tap whether it lies above VEXC / 2.  On BST420H the strip has no lead, and a scan ends
with IMON.LOW and no tap high (R712). -/
def execStripScanDone (current : Nat) (cells spans : List Reading) (taps : List Nat) (s : State) :
    Host.Outcome State Fault Refusal :=
  match s.madcRun with
  | some (.strip n spanAuto ch) =>
    let bare := s.variant == .h
    let low := bare || decide (current < 25)
    let s1 := (s.wr R.STRIP.IMON.CURRENT (if bare then min 24 current else min 4095 current)).wrBool R.STRIP.IMON.LOW low
    if low then .next (s1.noCurrent n (fun k => !bare && taps.getD k 0 != 0)).endStrip
    else
      let impl := fun k => (readingAt cells ch k).implausible ch.lo ch.hi
      let s2 := s1.storeCells n (readingAt cells ch)
      let s3 := (s2.wr R.STRIP.STATUS.IMPL (maskOf n impl)).wr R.STRIP.STATUS.OVR
        (maskOf n (fun k => (readingAt cells ch k).clipped))
      let s4 := if spanAuto then s3.storeSpans n ch impl spans else s3
      .next (s4.classify n spanAuto impl (spanPlausible spans ch)).endStrip
  | some (.cont _) => .next s
  | some (.pt _ _) => .next s
  | some .flow => .next s
  | none => .next s

/-- STRIP_CONT (R314). -/
def execStripCont (s : State) : Host.Outcome State Fault Refusal :=
  if !s.metRuns then .next s
  else if s.flag R.STRIP.STATUS.BUSY then .next (s.raise R.STRIP.STATUS.REJECT)
  else .next (s.submitMadc (.cont s.ncell))

/-- STRIP_CONT_DONE (R314): the taps more than 500 mV above RET; taps above N read open; one among taps 0 to N is
reported. -/
def execStripContDone (opens : List Nat) (s : State) : Host.Outcome State Fault Refusal :=
  match s.madcRun with
  | some (.cont n) =>
    let m := maskOf 9 (fun k => decide (k > n) || opens.contains k)
    let s1 := (s.wr R.STRIP.CONT.TAP_OPEN m).raise R.STRIP.CONT.DONE
    .next (if m % 2 ^ (n + 1) = 0 then s1 else s1.logMet 0x0322 []).releaseMadc
  | some (.strip _ _ _) => .next s
  | some (.pt _ _) => .next s
  | some .flow => .next s
  | none => .next s

/-- STRIP_ABORT (R319): `cells` are the readings stored before it. -/
def execStripAbort (cells : List Reading) (s : State) : Host.Outcome State Fault Refusal :=
  if !s.flag R.STRIP.STATUS.BUSY then .next s
  else
    let s1 := match s.madcRun with
      | some (.strip n _ ch) => s.storeCells (min n cells.length) (readingAt cells ch)
      | some (.cont _) => s
      | some (.pt _ _) => s
      | some .flow => s
      | none => s
    .next ((s1.raise R.STRIP.STATUS.ABORTED).withdrawMadc MetJob.isStrip)

/-! ### The Pt1000 pair (R315) -/

/-- A channel as the committed configuration describes it, where it is enabled. -/
def State.ptChannel (s : State) (en fs lo hi : Fld) : Option Channel :=
  if s.flag en then
    some { fs := s.rd fs, chop := s.flag R.MADC.CTRL.CHOP, lo := sInt 16 (s.rd lo), hi := sInt 16 (s.rd hi) }
  else none

/-- The scan that the committed configuration describes. -/
def State.ptScan (s : State) : MetJob :=
  .pt (s.ptChannel R.PT.CFG.EN_A R.PT.CFG.FS_A R.PT.LIM_A.MIN R.PT.LIM_A.MAX)
    (s.ptChannel R.PT.CFG.EN_B R.PT.CFG.FS_B R.PT.LIM_B.MIN R.PT.LIM_B.MAX)

/-- PT_START (R306, R315). -/
def execPtStart (s : State) : Host.Outcome State Fault Refusal :=
  if !s.metRuns then .next s
  else if s.flag R.PT.STATUS.BUSY then .next (s.raise R.PT.STATUS.REJECT)
  else .next (s.submitMadc s.ptScan)

/-- One reading of a channel stored in its RES register. -/
def State.storePt (s : State) (res : Fld) (c : Code) : State := (s.wr res c.word).count R.MADC.STATUS.READINGS 1

/-- What a channel reads: channel A has no sense leads on a BST420A, where its reading is not valid (R325, R712), a free
value. -/
def State.ptCode (s : State) (chA : Bool) (ch : Channel) (r : Reading) : Code × State :=
  if chA && s.variant == .a then
    let x := s.fresh
    ({ value := sInt 22 x.1, clipped := bit x.1 22 }, x.2)
  else (readingCode r ch, s)

/-- One channel read, stored and checked against its bounds (R315), with whether it is implausible. -/
def State.readPt (s : State) (chA : Bool) (ch : Option Channel) (r : Reading) (res impl clip : Fld) : State × Bool :=
  match ch with
  | none => ((s.clear impl).clear clip, false)
  | some c =>
    let x := s.ptCode chA c r
    let bad := x.1.implausible c.lo c.hi
    (((x.2.storePt res x.1).wrBool impl bad).wrBool clip x.1.clipped, bad)

/-- PT_SCAN_DONE (R315): the loop current in 0.25 µA and the readings of the channels; no reading is taken without the
current. -/
def execPtScanDone (current : Nat) (readA readB : Reading) (s : State) : Host.Outcome State Fault Refusal :=
  match s.madcRun with
  | some (.pt chA chB) =>
    let isOpen := decide (current < 8)
    let s1 := (s.wr R.PT.IMON.CURRENT (min 4095 current)).wrBool R.PT.STATUS.OPEN isOpen
    let a := s1.readPt true (if isOpen then none else chA) readA R.PT.RES_A.CODE R.PT.STATUS.IMPL_A R.PT.STATUS.OVR_A
    let b := a.1.readPt false (if isOpen then none else chB) readB R.PT.RES_B.CODE R.PT.STATUS.IMPL_B R.PT.STATUS.OVR_B
    let s2 := b.1.raise R.PT.STATUS.DONE
    let s3 := if isOpen || a.2 || b.2 then s2.raise R.PT.STATUS.FAULT else s2
    let s4 := if isOpen then s3.logMet 0x0324 [] else if a.2 || b.2 then s3.logMet 0x0325 [] else s3
    .next s4.releaseMadc
  | some (.strip _ _ _) => .next s
  | some (.cont _) => .next s
  | some .flow => .next s
  | none => .next s

/-- The readings of a PT scan that an abort finds stored: A, where it is enabled, then B. -/
def State.storeAborted (s : State) (chA chB : Option Channel) (reads : List Reading) : State :=
  let a := chA.toList.map (fun c => (true, c, R.PT.RES_A.CODE))
  let b := chB.toList.map (fun c => (false, c, R.PT.RES_B.CODE))
  ((a ++ b).zip reads).foldl
    (fun x p =>
      let r := x.ptCode p.1.1 p.1.2.1 p.2
      r.2.storePt p.1.2.2 r.1) s

/-- PT_ABORT (R319). -/
def execPtAbort (reads : List Reading) (s : State) : Host.Outcome State Fault Refusal :=
  if !s.flag R.PT.STATUS.BUSY then .next s
  else
    let s1 := match s.madcRun with
      | some (.pt chA chB) => s.storeAborted chA chB reads
      | some (.strip _ _ _) => s
      | some (.cont _) => s
      | some .flow => s
      | none => s
    .next ((s1.raise R.PT.STATUS.ABORTED).withdrawMadc MetJob.isPt)

/-! ### Flow (R326 to R342) -/

/-- The configuration a sequence latches, with the "acts as" rules of Table FLOW-6. -/
def State.flowCfg (s : State) : FlowCfg :=
  let np := max 1 (s.rd R.FLOW.CFG.NPAIR)
  let lo := s.rd R.FLOW.THR_LIM.THR_MIN
  { npair := np, order := s.flag R.FLOW.CFG.ORDER, excl := s.flag R.FLOW.CFG.EXCL
    minGood := min np (s.rd R.FLOW.CFG.MIN_GOOD), half := max 4 (min 64 (s.rd R.FLOW.TIMING.HALF))
    delay := max 2 (s.rd R.FLOW.TIMING.RX_DELAY), window := max 4 (s.rd R.FLOW.TIMING2.RX_WIN)
    skip := s.rd R.FLOW.RX.SKIP, hits := max 1 (min 8 (s.rd R.FLOW.RX.HITS))
    frac := max 1 (s.rd R.FLOW.RX.FRAC), loopK := s.rd R.FLOW.RX.LOOP_K, loopEn := s.flag R.FLOW.RX.LOOP_EN
    thrMin := lo, thrMax := max lo (s.rd R.FLOW.THR_LIM.THR_MAX) }

/-- The flow state replaced. -/
def State.setFlow (s : State) (f : Flow) : State := ({ s with flow := f } : State).syncMadc

/-- The flags that START clears (Table FLOW-6). -/
def flowFlags : List Fld :=
  [R.FLOW.STATUS.EMPTY, R.FLOW.STATUS.LOST, R.FLOW.STATUS.SLIP, R.FLOW.STATUS.AMP_LOW, R.FLOW.STATUS.DRV_OPEN,
    R.FLOW.STATUS.DRV_SHORT, R.FLOW.STATUS.VUS_LOW, R.FLOW.STATUS.CAL_FAIL, R.FLOW.STATUS.RESEED]

/-- FLOW_START (R332, R338): with EXCL it takes its turn with the scanners. -/
def execFlowStart (s : State) : Host.Outcome State Fault Refusal :=
  if s.variant != .h || !s.metRuns then .next s
  else if s.flow.cfg.isSome then .next (s.raise R.FLOW.STATUS.REJECT)
  else
    let c := s.flowCfg
    let s1 := flowFlags.foldl State.clear s
    let s2 := s1.setFlow { s1.flow with cfg := some c, calibrated := false, shots := [], sending := none }
    .next (if c.excl then s2.submitMadc .flow else s2)

/-- Whether a sequence waits for its turn. -/
def State.flowWaits (s : State) : Bool := s.madcQueue.any MetJob.isFlow

/-- The result registers of a sequence over its good pairs (R333): each direction's times of flight and amplitudes. -/
def State.flowResults (s : State) (pairs : List (FlowShot × FlowShot)) : State :=
  let n := pairs.length
  let diffs := pairs.map (fun p => (p.2.tof : Int) - p.1.tof)
  let sumDn := (pairs.map (fun p => p.1.tof)).sum
  let sumUp := (pairs.map (fun p => p.2.tof)).sum
  let s1 := s.wr R.FLOW.STATUS.GOOD n
  if n = 0 then
    [R.FLOW.MEAN_DN.TOF, R.FLOW.MEAN_UP.TOF, R.FLOW.DT_MEAN.DT, R.FLOW.DT_SPREAD.SPREAD, R.FLOW.AMP.AMP_DN,
      R.FLOW.AMP.AMP_UP].foldl State.clear s1
  else
    let s2 := (s1.wr R.FLOW.MEAN_DN.TOF (openDiv 1 sumDn n).toNat).wr R.FLOW.MEAN_UP.TOF (openDiv 2 sumUp n).toNat
    let s3 := s2.wr R.FLOW.DT_MEAN.DT (uInt 32 (openDiv 3 (16 * diffs.sum) n))
    let hi := diffs.foldl max (diffs.headD 0)
    let lo := diffs.foldl min (diffs.headD 0)
    let s4 := s3.wr R.FLOW.DT_SPREAD.SPREAD (hi - lo).toNat
    (s4.wr R.FLOW.AMP.AMP_DN (openDiv 4 (pairs.map (fun p => p.1.amp)).sum n).toNat).wr R.FLOW.AMP.AMP_UP
      (openDiv 5 (pairs.map (fun p => p.2.amp)).sum n).toNat

/-- Whether shot `i` goes downstream (R332): with ORDER, odd-numbered pairs are UP then DN. -/
def isDownstream (order : Bool) (i : Nat) : Bool :=
  if order && i / 2 % 2 == 0 then i % 2 == 1 else i % 2 == 0

/-- The good pairs of a sequence, each as (downstream, upstream). -/
def goodPairs (order : Bool) (shots : List FlowShot) : List (FlowShot × FlowShot) :=
  (List.range (shots.length / 2)).filterMap (fun p =>
    match shots[2 * p]?, shots[2 * p + 1]? with
    | some a, some b =>
      if a.good && b.good then some (if isDownstream order (2 * p) then (a, b) else (b, a)) else none
    | _, none => none
    | none, some _ => none)

/-- A sequence ends: the next turn starts. -/
def State.closeFlow (s : State) : State :=
  (s.setFlow { s.flow with cfg := none, calibrated := false, shots := [], sending := none }).withdrawMadc MetJob.isFlow

/-- A sequence ended by a fault, its results zero (Table FLOW-3). -/
def State.failFlow (s : State) (flag : Fld) (code : Nat) : State :=
  ((((s.raise flag).raise R.FLOW.STATUS.FAULT).raise R.FLOW.STATUS.DONE).logMet code []).flowResults [] |>.closeFlow

/-- The next shot of a sequence begins, if there is one (R326, R332): T1 sends downstream, T2 upstream.  The driver of the
other channel holds its USD pin at ground, and only that channel's USR pin reaches the amplifier. -/
def State.beginShot (s : State) (c : FlowCfg) : State :=
  let i := s.flow.shots.length
  s.setFlow { s.flow with sending := if i < 2 * c.npair then some (if isDownstream c.order i then 1 else 2) else none }

/-- FLOW_CALIBRATION (R327): the count of FOSC cycles over 8 LFXO periods, 0 where no edge arrived. -/
def execFlowCalibration (count : Nat) (s : State) : Host.Outcome State Fault Refusal :=
  match if s.flowWaits || s.flow.calibrated then none else s.flow.cfg with
  | none => .next s
  | some c =>
    let s1 := ((s.wr R.FLOW.CAL.FOSC_CNT count).clear R.FLOW.COUNTS.NOECHO).clear R.FLOW.COUNTS.SLIPS
    if count < 7000 ∨ count > 8600 ∨ s.flag (R.BRIDGE.CLKSTAT.LFXO_RUN .app) = false then
      .next (s1.failFlow R.FLOW.STATUS.CAL_FAIL 0x0336)
    else .next ((s1.setFlow { s1.flow with calibrated := true }).beginShot c)

/-- FLOW_VUS_LOW (R334). -/
def execFlowVusLow (s : State) : Host.Outcome State Fault Refusal :=
  if s.flow.cfg.isNone || s.flowWaits || !s.flow.shots.isEmpty then .next s
  else .next (s.failFlow R.FLOW.STATUS.VUS_LOW 0x0335)

/-- The threshold of a direction. -/
def thrFld (dn : Bool) : Fld := if dn then R.FLOW.LOOP_STATE.THR_DN else R.FLOW.LOOP_STATE.THR_UP

/-- The expected time of flight of a direction. -/
def tofExpFld (dn : Bool) : Fld := if dn then R.FLOW.TOF_EXP_DN.TOF else R.FLOW.TOF_EXP_UP.TOF

/-- The threshold after a good shot (R330): rounded towards the target and clamped. -/
def nextThr (c : FlowCfg) (thr amp : Nat) : Nat :=
  let den : Nat := 16 * 2 ^ c.loopK
  let num : Int := (thr * den : Nat) + ((c.frac * amp : Nat) : Int) - (16 * thr : Nat)
  let q := if c.frac * amp ≥ 16 * thr then (num + (den - 1 : Nat)) / (den : Int) else num / (den : Int)
  max c.thrMin (min c.thrMax q.toNat)

/-- The loop after a good shot (R330). -/
def State.goodShot (s : State) (c : FlowCfg) (dn : Bool) (tof amp : Nat) : State :=
  let s1 := if c.loopEn then s.wr (thrFld dn) (nextThr c (s.rd (thrFld dn)) amp) else s
  let s2 := s1.wr (tofExpFld dn) tof
  if c.frac * amp < 16 * c.thrMin then s2.raise R.FLOW.STATUS.AMP_LOW else s2

/-- Whether a time of flight is a slip (R329): more than HALF × 31.25 ns from the expected one, in units of 8 ps. -/
def isSlip (c : FlowCfg) (expected tof : Nat) : Bool :=
  expected != 0 && decide (4 * (max tof expected - min tof expected) > 15625 * c.half)

/-- The consecutive slips of a direction. -/
def Flow.slips (f : Flow) (dn : Bool) : Nat := if dn then f.slipsDn else f.slipsUp

/-- The consecutive slips of a direction replaced. -/
def Flow.setSlips (f : Flow) (dn : Bool) (n : Nat) : Flow := if dn then { f with slipsDn := n } else { f with slipsUp := n }

/-- A slipped shot (R331, R334): counted; the fourth in a row reseeds. -/
def State.slipShot (s : State) (dn : Bool) (tof : Nat) : State :=
  let s1 := if s.flag R.FLOW.STATUS.SLIP then s else (s.raise R.FLOW.STATUS.SLIP).logMet 0x0332 []
  let s2 := s1.count R.FLOW.COUNTS.SLIPS 1
  let n := s2.flow.slips dn + 1
  if n ≥ 4 then
    let s3 := (s2.wr (tofExpFld dn) tof).setFlow (s2.flow.setSlips dn 0)
    if s3.flag R.FLOW.STATUS.RESEED then s3 else (s3.raise R.FLOW.STATUS.RESEED).logMet 0x0337 []
  else s2.setFlow (s2.flow.setSlips dn n)

/-- What an echo gives a shot (R328, R329): from the first half-wave that crosses the threshold in the receive window, its peak
and the rises of the half-waves that follow after SKIP of them; none without a detection or with fewer than HITS rises
before the window closes. -/
def shotOf (c : FlowCfg) (thr : Nat) (echo : List HalfWave) : Option FlowShot :=
  let opens := 125000 * c.delay
  let seen := echo.filter (fun w => decide (opens ≤ w.rise) && decide (w.rise ≤ opens + 125000 * c.window))
  match seen.dropWhile (fun w => decide (w.peak < thr)) with
  | [] => none
  | w :: r =>
    let stamps := ((r.drop c.skip).take c.hits).map HalfWave.rise
    if stamps.length < c.hits then none
    else some { tof := (openDiv 14 (stamps.sum : Nat) c.hits).toNat % 2 ^ 32, amp := min 255 w.peak, good := true }

/-- A shot recorded in its sequence, and the next one begun. -/
def State.addShot (s : State) (c : FlowCfg) (x : FlowShot) : State :=
  (s.setFlow { s.flow with shots := s.flow.shots ++ [x] }).beginShot c

/-- The outcome of a shot in a direction (R329 to R331). -/
def State.shotDone (s : State) (c : FlowCfg) (dn : Bool) (echo : List HalfWave) : State :=
  match shotOf c (s.rd (thrFld dn)) echo with
  | none =>
    ((s.count R.FLOW.COUNTS.NOECHO 1).setFlow (s.flow.setSlips dn 0)).addShot c { tof := 0, amp := 0, good := false }
  | some x =>
    if isSlip c (s.rd (tofExpFld dn)) x.tof then (s.slipShot dn x.tof).addShot c { x with good := false }
    else ((s.setFlow (s.flow.setSlips dn 0)).goodShot c dn x.tof x.amp).addShot c x

/-- Half-waves, from when each rises and how high it peaks. -/
def halfWaves (rises peaks : List Nat) : List HalfWave := (rises.zip peaks).map (fun p => { rise := p.1, peak := p.2 })

/-- FLOW_SHOT (R328 to R331, R334): the shot that runs ends; the half-waves that reach the amplifier from the
receiving channel rise at `rises` with the peaks `peaks`; the driver was found `opened`, or `shorted`. -/
def execFlowShot (rises peaks : List Nat) (opened shorted : Bool) (s : State) : Host.Outcome State Fault Refusal :=
  match s.flow.cfg, s.flow.sending with
  | some c, some ch =>
    if opened || shorted then
      let s1 := s.wrBool R.FLOW.STATUS.DRV_CH (ch == 2)
      .next (if opened then s1.failFlow R.FLOW.STATUS.DRV_OPEN 0x0333 else s1.failFlow R.FLOW.STATUS.DRV_SHORT 0x0334)
    else .next (s.shotDone c (ch == 1) (halfWaves rises peaks))
  | some _, none => .next s
  | none, some _ => .next s
  | none, none => .next s

/-- FLOW_SEQUENCE_DONE (R333, R334): the last window has closed. -/
def execFlowSequenceDone (s : State) : Host.Outcome State Fault Refusal :=
  match s.flow.cfg with
  | none => .next s
  | some c =>
    if s.flow.shots.length < 2 * c.npair then .next s
    else if !s.flag (R.BRIDGE.CLKSTAT.LFXO_RUN .app) then .next (s.failFlow R.FLOW.STATUS.CAL_FAIL 0x0336)
    else
      let pairs := goodPairs c.order s.flow.shots
      let empty := s.rd R.FLOW.COUNTS.NOECHO == 2 * c.npair
      let s1 := ((s.flowResults pairs).raise R.FLOW.STATUS.DONE).count R.FLOW.COUNTS.SEQS 1
      let s2 :=
        if empty then ((s1.raise R.FLOW.STATUS.EMPTY).raise R.FLOW.STATUS.FAULT).logMet 0x0330 []
        else if pairs.length < c.minGood then
          ((s1.raise R.FLOW.STATUS.LOST).raise R.FLOW.STATUS.FAULT).logMet 0x0331 []
        else s1
      .next s2.closeFlow

/-- FLOW_ABORT (R339): the results are written over the pairs completed. -/
def execFlowAbort (s : State) : Host.Outcome State Fault Refusal :=
  match s.flow.cfg with
  | none => .next s
  | some c =>
    .next (((s.flowResults (goodPairs c.order s.flow.shots)).raise R.FLOW.STATUS.ABORTED).closeFlow)

end Sys2Proof.Machine
end

