-- ==== Sys2Proof/Machine/Crypto.lean ====
section
/-! DEFINITION. The arithmetic the engines share: AES and the AES-CMAC of NIST SP 800-38B (ch. 22), the counter-mode
keystream of R578, the derivation inputs of R596, and cyclic redundancy checks. -/

namespace Sys2Proof.Machine

open Sys2Proof

/-! ### AES (FIPS 197) -/

/-- Entries 0 to 63 of the substitution table of FIPS 197. -/
def aesTable0 : List Nat := [
   0x63, 0x7C, 0x77, 0x7B, 0xF2, 0x6B, 0x6F, 0xC5, 0x30, 0x01, 0x67, 0x2B, 0xFE, 0xD7, 0xAB, 0x76,
   0xCA, 0x82, 0xC9, 0x7D, 0xFA, 0x59, 0x47, 0xF0, 0xAD, 0xD4, 0xA2, 0xAF, 0x9C, 0xA4, 0x72, 0xC0,
   0xB7, 0xFD, 0x93, 0x26, 0x36, 0x3F, 0xF7, 0xCC, 0x34, 0xA5, 0xE5, 0xF1, 0x71, 0xD8, 0x31, 0x15,
   0x04, 0xC7, 0x23, 0xC3, 0x18, 0x96, 0x05, 0x9A, 0x07, 0x12, 0x80, 0xE2, 0xEB, 0x27, 0xB2, 0x75]

/-- Entries 64 to 127 of the substitution table of FIPS 197. -/
def aesTable1 : List Nat := [
   0x09, 0x83, 0x2C, 0x1A, 0x1B, 0x6E, 0x5A, 0xA0, 0x52, 0x3B, 0xD6, 0xB3, 0x29, 0xE3, 0x2F, 0x84,
   0x53, 0xD1, 0x00, 0xED, 0x20, 0xFC, 0xB1, 0x5B, 0x6A, 0xCB, 0xBE, 0x39, 0x4A, 0x4C, 0x58, 0xCF,
   0xD0, 0xEF, 0xAA, 0xFB, 0x43, 0x4D, 0x33, 0x85, 0x45, 0xF9, 0x02, 0x7F, 0x50, 0x3C, 0x9F, 0xA8,
   0x51, 0xA3, 0x40, 0x8F, 0x92, 0x9D, 0x38, 0xF5, 0xBC, 0xB6, 0xDA, 0x21, 0x10, 0xFF, 0xF3, 0xD2]

/-- Entries 128 to 191 of the substitution table of FIPS 197. -/
def aesTable2 : List Nat := [
   0xCD, 0x0C, 0x13, 0xEC, 0x5F, 0x97, 0x44, 0x17, 0xC4, 0xA7, 0x7E, 0x3D, 0x64, 0x5D, 0x19, 0x73,
   0x60, 0x81, 0x4F, 0xDC, 0x22, 0x2A, 0x90, 0x88, 0x46, 0xEE, 0xB8, 0x14, 0xDE, 0x5E, 0x0B, 0xDB,
   0xE0, 0x32, 0x3A, 0x0A, 0x49, 0x06, 0x24, 0x5C, 0xC2, 0xD3, 0xAC, 0x62, 0x91, 0x95, 0xE4, 0x79,
   0xE7, 0xC8, 0x37, 0x6D, 0x8D, 0xD5, 0x4E, 0xA9, 0x6C, 0x56, 0xF4, 0xEA, 0x65, 0x7A, 0xAE, 0x08]

/-- Entries 192 to 255 of the substitution table of FIPS 197. -/
def aesTable3 : List Nat := [
   0xBA, 0x78, 0x25, 0x2E, 0x1C, 0xA6, 0xB4, 0xC6, 0xE8, 0xDD, 0x74, 0x1F, 0x4B, 0xBD, 0x8B, 0x8A,
   0x70, 0x3E, 0xB5, 0x66, 0x48, 0x03, 0xF6, 0x0E, 0x61, 0x35, 0x57, 0xB9, 0x86, 0xC1, 0x1D, 0x9E,
   0xE1, 0xF8, 0x98, 0x11, 0x69, 0xD9, 0x8E, 0x94, 0x9B, 0x1E, 0x87, 0xE9, 0xCE, 0x55, 0x28, 0xDF,
   0x8C, 0xA1, 0x89, 0x0D, 0xBF, 0xE6, 0x42, 0x68, 0x41, 0x99, 0x2D, 0x0F, 0xB0, 0x54, 0xBB, 0x16]

/-- The substitution of one byte. -/
def aesSub (b : Nat) : Nat :=
  (if b < 64 then aesTable0 else if b < 128 then aesTable1 else if b < 192 then aesTable2 else aesTable3).getD (b % 64) 0

/-- Two byte strings XORed, to the length of the shorter. -/
def xorBytes (a b : List Nat) : List Nat := (a.zip b).map (fun p => p.1 ^^^ p.2)

/-- Doubling in the field of AES. -/
def aesDouble (b : Nat) : Nat := if 2 * b ≥ 256 then (2 * b - 256) ^^^ 0x1B else 2 * b

/-- The rows of the state shifted; byte `i` lies in row `i % 4`. -/
def aesShift (st : List Nat) : List Nat := (List.range 16).map (fun i => st.getD ((i + 4 * (i % 4)) % 16) 0)

/-- One column mixed. -/
def aesMixCol (a b c d : Nat) : List Nat :=
  let t := a ^^^ b ^^^ c ^^^ d
  [a ^^^ t ^^^ aesDouble (a ^^^ b), b ^^^ t ^^^ aesDouble (b ^^^ c), c ^^^ t ^^^ aesDouble (c ^^^ d),
    d ^^^ t ^^^ aesDouble (d ^^^ a)]

/-- The four columns mixed. -/
def aesMix (st : List Nat) : List Nat :=
  (List.range 4).flatMap (fun c =>
    aesMixCol (st.getD (4 * c) 0) (st.getD (4 * c + 1) 0) (st.getD (4 * c + 2) 0) (st.getD (4 * c + 3) 0))

/-- The round constants. -/
def aesRcon : List Nat := [0x00, 0x01, 0x02, 0x04, 0x08, 0x10, 0x20, 0x40, 0x80, 0x1B, 0x36]

/-- The next word of the key schedule, from the words before it; `nk` is the number of words of the key. -/
def aesNextWord (nk i : Nat) (w : List (List Nat)) : List Nat :=
  let t := w.getD (i - 1) []
  let u :=
    if i % nk = 0 then xorBytes ((t.drop 1 ++ t.take 1).map aesSub) [aesRcon.getD (i / nk) 0, 0, 0, 0]
    else if nk = 8 ∧ i % 8 = 4 then t.map aesSub
    else t
  xorBytes (w.getD (i - nk) []) u

/-- The key schedule carried on by a number of words. -/
def aesExpand (nk : Nat) : Nat → Nat → List (List Nat) → List (List Nat)
  | 0, _, w => w
  | k + 1, i, w => aesExpand nk k (i + 1) (w ++ [aesNextWord nk i w])

/-- The key schedule of a key of 16 or 32 bytes, as one byte string. -/
def aesSchedule (key : List Nat) : List Nat :=
  let nk := if key.length = 32 then 8 else 4
  let w := (List.range nk).map (fun i => (key.drop (4 * i)).take 4)
  (aesExpand nk (4 * (nk + 7) - nk) nk w).flatten

/-- The inner rounds: `r` of them from round `i` on. -/
def aesRounds (ks : List Nat) : Nat → Nat → List Nat → List Nat
  | 0, _, st => st
  | r + 1, i, st =>
    aesRounds ks r (i + 1) (xorBytes (aesMix (aesShift (st.map aesSub))) ((ks.drop (16 * i)).take 16))

/-- One block encrypted under a key of 16 or 32 bytes. -/
def aesBlock (key block : List Nat) : List Nat :=
  let ks := aesSchedule key
  let nr := if key.length = 32 then 14 else 10
  let st := aesRounds ks (nr - 1) 1 (xorBytes block (ks.take 16))
  xorBytes (aesShift (st.map aesSub)) ((ks.drop (16 * nr)).take 16)

/-! ### The inverse cipher, which only boot ROM software has (R475) -/

/-- The byte whose substitution is `b`. -/
def aesSubInv (b : Nat) : Nat := ((List.range 256).find? (fun i => aesSub i == b)).getD 0

/-- The rows of the state shifted back. -/
def aesShiftInv (st : List Nat) : List Nat := (List.range 16).map (fun i => st.getD ((i + 16 - 4 * (i % 4)) % 16) 0)

/-- One column mixed back: mixing three times more, since mixing has order 4. -/
def aesMixInv (st : List Nat) : List Nat := aesMix (aesMix (aesMix st))

/-- The inner rounds undone: `r` of them from round `r` down. -/
def aesRoundsInv (ks : List Nat) : Nat → List Nat → List Nat
  | 0, st => st
  | r + 1, st =>
    aesRoundsInv ks r ((aesShiftInv (aesMixInv (xorBytes st ((ks.drop (16 * (r + 1))).take 16)))).map aesSubInv)

/-- One block decrypted under a key of 16 or 32 bytes. -/
def aesBlockInv (key block : List Nat) : List Nat :=
  let ks := aesSchedule key
  let nr := if key.length = 32 then 14 else 10
  let st := (aesShiftInv (xorBytes block ((ks.drop (16 * nr)).take 16))).map aesSubInv
  xorBytes (aesRoundsInv ks (nr - 1) st) (ks.take 16)

/-! ### CMAC (NIST SP 800-38B) -/

/-- The number that big-endian bytes spell. -/
def beNat (l : List Nat) : Nat := l.foldl (fun a b => 256 * a + b) 0

/-- `n` big-endian bytes of a number. -/
def beBytes (n v : Nat) : List Nat := (leBytes n v).reverse

/-- A block doubled, as the subkeys are made. -/
def cmacDouble (b : List Nat) : List Nat :=
  let v := beNat b
  beBytes 16 (if v ≥ 2 ^ 127 then ((2 * v) % 2 ^ 128) ^^^ 0x87 else 2 * v)

/-- A block of zeros. -/
def zeroBlock : List Nat := List.replicate 16 0

/-- The subkey K1. -/
def cmacK1 (key : List Nat) : List Nat := cmacDouble (aesBlock key zeroBlock)

/-- The subkey K2. -/
def cmacK2 (key : List Nat) : List Nat := cmacDouble (cmacK1 key)

/-- Block `i` of a message. -/
def blockAt (m : List Nat) (i : Nat) : List Nat := (m.drop (16 * i)).take 16

/-- The values of the chain over `n` blocks from block `i` on (R576). -/
def chainValues (key m : List Nat) : Nat → Nat → List Nat → List (List Nat)
  | 0, _, _ => []
  | n + 1, i, c =>
    let c' := aesBlock key (xorBytes (blockAt m i) c)
    c' :: chainValues key m n (i + 1) c'

/-- The chain value after `n` blocks. -/
def chainLast (key m : List Nat) (n : Nat) (c : List Nat) : List Nat := (chainValues key m n 0 c).getLastD c

/-- The CMAC of whole blocks, with FINAL_FULL or FINAL_PADDED as given (R575). -/
def cmacBlocks (key m : List Nat) (padded : Bool) : List Nat :=
  let n := m.length / 16
  let c := chainLast key m (n - 1) zeroBlock
  aesBlock key (xorBytes (xorBytes (blockAt m (n - 1)) c) (if padded then cmacK2 key else cmacK1 key))

/-- A message padded to whole blocks, where its length is not a positive multiple of 16 (R575). -/
def cmacPad (m : List Nat) : List Nat := m ++ [0x80] ++ List.replicate ((15 - m.length % 16) % 16) 0

/-- The CMAC of a message of any length. -/
def cmacOf (key m : List Nat) : List Nat :=
  if m.length % 16 = 0 ∧ m.length ≠ 0 then cmacBlocks key m false else cmacBlocks key (cmacPad m) true

/-- Template `t` with its last two bytes replaced by the count `n`, little-endian (R578). -/
def templateAt (t : List Nat) (n : Nat) : List Nat := t.take 14 ++ leBytes 2 n

/-- `n` blocks of the keystream of a template, with counts from `c` on (R578). -/
def keystream (key t : List Nat) (c n : Nat) : List Nat :=
  (List.range n).flatMap (fun i => cmacBlocks key (templateAt t (c + i)) false)

/-- Data XORed with the keystream of a template (R578). -/
def kstream (key t data : List Nat) : List Nat :=
  xorBytes data (keystream key t (leNat (t.drop 14)) ((data.length + 15) / 16))

/-- `n` blocks of a message decrypted in cipher block chaining after the block `c`. -/
def cbcPlain (key m : List Nat) : Nat → Nat → List Nat → List Nat
  | 0, _, _ => []
  | n + 1, i, c => xorBytes (aesBlockInv key (blockAt m i)) c ++ cbcPlain key m n (i + 1) (blockAt m i)

/-! ### Derivation (R596) -/

/-- The derivation input of Table KEY-2. -/
def deriveInput (i : Nat) (label context : List Nat) (bits : Nat) : List Nat :=
  [0x30 + i] ++ label ++ [0] ++ context ++ beBytes 2 bits

/-- A 128-bit key derived under a parent (R596). -/
def derive128 (parent label context : List Nat) : List Nat := cmacOf parent (deriveInput 1 label context 128)

/-- A 256-bit key derived under a parent (R596). -/
def derive256 (parent label context : List Nat) : List Nat :=
  cmacOf parent (deriveInput 1 label context 256) ++ cmacOf parent (deriveInput 2 label context 256)

/-- The labels of Tables KEY-3 and KEY-4. -/
def labelBoot : List Nat := [0x42, 0x4F, 0x4F, 0x54]
def labelProt : List Nat := [0x50, 0x52, 0x4F, 0x54]
def labelWrap : List Nat := [0x57, 0x52, 0x41, 0x50]
def labelWmac : List Nat := [0x57, 0x4D, 0x41, 0x43]
def labelDcls : List Nat := [0x44, 0x43, 0x4C, 0x53]

/-! ### Cyclic redundancy checks -/

/-- One step of a check that shifts left in `w` bits. -/
def crcStep (w poly c : Nat) : Nat := if c ≥ 2 ^ (w - 1) then ((2 * c) % 2 ^ w) ^^^ poly else 2 * c

/-- One step of a check that shifts right. -/
def crcStepR (poly c : Nat) : Nat := if c % 2 = 1 then (c / 2) ^^^ poly else c / 2

/-- A function applied a number of times. -/
def repeatN {α : Type} (f : α → α) : Nat → α → α
  | 0, a => a
  | n + 1, a => repeatN f n (f a)

/-- A check of `w` bits, most significant bit first. -/
def crcLeft (w poly init : Nat) (bytes : List Nat) : Nat :=
  bytes.foldl (fun c b => repeatN (crcStep w poly) 8 (c ^^^ (b * 2 ^ (w - 8)))) init

/-- A check with reflected bits, least significant bit first; `poly` is the reflected polynomial. -/
def crcRight (poly init : Nat) (bytes : List Nat) : Nat :=
  bytes.foldl (fun c b => repeatN (crcStepR poly) 8 (c ^^^ b)) init

end Sys2Proof.Machine
end

