-- ==== Sys2Proof/Machine/Loft.lean ====
section
/-! DEFINITION. The Loft (ch. 10): owners and rights of the 32 slots, commands, doorbells, violations, the copy through the
Loft bridge; and the alarms of the RTC. -/

namespace Sys2Proof.Machine

open Sys2Proof

/-- The owner codes (ch. 10). -/
def ownFree : Nat := 0
def ownMet : Nat := 1
def ownApp : Nat := 2
def ownDma : Nat := 3
def ownDict : Nat := 4
def ownLink : Nat := 5

/-- The results of a Loft command (Table MET-10). -/
def loftOk : Nat := 0
def loftNotOwner : Nat := 1
def loftNotFree : Nat := 2
def loftBadTarget : Nat := 3
def loftNoneFree : Nat := 4
def loftFrozen : Nat := 5

/-- A FREE slot as CLAIM and FREE leave it. -/
def emptySlot : Slot := { owner := 0, publish := false, frozen := false, giver := 0, hands := 0, len := 0 }

/-- Slot `n`. -/
def State.slot (s : State) (n : Nat) : Slot := s.slots.getD n emptySlot

/-- The FREE slots now. -/
def State.freeNow (s : State) : Nat := (s.slots.filter (fun x => x.owner == 0)).length

/-- A FREE_MIN field lowered to the present count (Table MET-10). -/
def State.lowerMin (s : State) (sd : Side) : State :=
  let f := R.LOFTC.STATS.FREE_MIN sd
  if s.freeNow < s.rd f then s.wr f s.freeNow else s

/-- Slot `n` replaced; FREE_MIN follows a fall of the free count on both sides. -/
def State.setSlot (s : State) (n : Nat) (x : Slot) : State :=
  (({ s with slots := s.slots.set n x } : State).lowerMin .app).lowerMin .met

/-- The address of byte 0 of a slot. -/
def slotAddr (n : Nat) : Nat := 0x21000000 + 0x200 * n

/-- The number of slots held back for MET (R285). -/
def State.reserve (s : State) : Nat := min 8 (s.rd R.MLOFTC.RESERVE.MET_RSV)

/-- Whether the reserve rule lets a party claim (R285); it does not apply on a BST420C (R303). -/
def State.mayClaim (s : State) (party : Nat) : Bool :=
  party == ownMet || s.variant == .c || decide (s.freeNow > s.reserve)

/-- The side a party's violations are recorded on (R288). -/
def partySide (party : Nat) : Side := if party = ownMet then .met else .app

/-- A violation recorded (R288): the first kept, later ones set MULTI, each counted. -/
def State.violation (s : State) (slot party kind : Nat) : State :=
  let sd := partySide party
  let s1 := s.count (R.LOFTC.VIOLATION.COUNT sd) 1
  if s1.flag (R.LOFTC.VIOLATION.FLAG sd) then s1.raise (R.LOFTC.VIOLATION.MULTI sd)
  else
    ((((s1.wr (R.LOFTC.VIOLATION.SLOT sd) slot).wr (R.LOFTC.VIOLATION.PARTY sd) party).wr
      (R.LOFTC.VIOLATION.KIND sd) kind).raise (R.LOFTC.VIOLATION.FLAG sd)).logSide sd
      (sd.pick 0x0A40 0x0A41) [slot, party, kind]

/-- Whether a party may read a slot (Table MET-4). -/
def Slot.readableBy (x : Slot) (party : Nat) : Bool :=
  x.owner != 0 && (x.owner == party || x.publish || x.frozen)

/-- Whether a party may write a slot (Table MET-4). -/
def Slot.writableBy (x : Slot) (party : Nat) : Bool := x.owner != 0 && x.owner == party && !x.frozen

/-- The kind of violation a refused access is: 0 write, 1 read, 3 write to a frozen slot (Table MET-10). -/
def Slot.refusedKind (x : Slot) (write : Bool) : Nat := if !write then 1 else if x.frozen then 3 else 0

/-- The bell of a side rung for a slot (R286): its bit is set and cause 0xB raised. -/
def State.ringBell (s : State) (sd : Side) (n : Nat) : State :=
  (s.wrBit (R.LOFTC.BELL.BELL sd) n true).wake sd 0xB

/-- A slot given to DICT (R286, R535, R544): a callback that DICT no longer waits for is set FREE, the one it waits for is
left to DICT_CALLBACK_RETURN, a slot of APP is a local request, and anything else is set FREE; a request is discarded
while DICT is not enabled. -/
def State.dictBell (s : State) (n : Nat) : State :=
  let gone (a : State) : State := a.setSlot n { a.slot n with owner := 0, publish := false, frozen := false }
  if s.dict.stale.contains n then
    gone { s with dict := { s.dict with stale := s.dict.stale.filter (fun m => m != n) } }
  else if (s.dict.job.bind (fun j => j.call)) = some n then s.startExit .app
  else if (s.slot n).giver ≠ ownApp then gone s
  else if !s.flag R.DICT.CTRL.EN then gone (s.count R.DICT.COUNTS.AUTH_FAIL 1)
  else
    let s1 : State := { s with requests := s.requests ++ [[0x100 + n]] }
    (if s1.rd R.DICT.STATUS.STATE = 0 then s1.wr R.DICT.STATUS.STATE 1 else s1).startExit .app

/-- The doorbell at a receiver (R286). -/
def State.doorbell (s : State) (target n : Nat) : State :=
  if target = ownMet then s.ringBell .met n
  else if target = ownApp then s.ringBell .app n
  else if target = ownDma then { s with dma := { s.dma with given := s.dma.given ++ [n] } }
  else if target = ownLink then
    (({ s with power := { s.power with exchange := true, linkWork := true } } : State).startExit .rf).startExit .app
      |>.updateMode
  else if target = ownDict then s.dictBell n
  else s

/-- The LEN a command carries (Table MET-10): 0x3FF keeps it, above 512 acts as 512. -/
def newLen (old len : Nat) : Nat := if len = 0x3FF then old else min 512 len

/-- The result of a command in CMD_STATUS of the acting side. -/
def State.cmdResult (s : State) (sd : Side) (slot result : Nat) : State :=
  (s.wr (R.LOFTC.CMD_STATUS.RESULT sd) result).wr (R.LOFTC.CMD_STATUS.SLOT sd) slot

/-- A claim refused by the reserve or for want of a slot (R285). -/
def State.refuseClaim (s : State) (party : Nat) : State := s.count (R.LOFTC.STATS.REFUSED (partySide party)) 1

/-- A slot claimed (Table MET-5): its content is undefined from now on. -/
def State.takeSlot (s : State) (party n : Nat) : State :=
  let s1 := (s.setSlot n { emptySlot with owner := party }).loseSlot n
  { s1 with dict := { s1.dict with stale := s1.dict.stale.filter (fun m => m != n) } }

/-- CLAIM by a party: the state and the result. -/
def State.claim (s : State) (party n : Nat) : State × Nat :=
  if (s.slot n).owner ≠ 0 then (s, loftNotFree)
  else if s.mayClaim party then (s.takeSlot party n, loftOk)
  else (s.refuseClaim party, loftNoneFree)

/-- The lowest FREE slot. -/
def State.lowestFree (s : State) : Option Nat := (List.range 32).find? (fun n => (s.slot n).owner == 0)

/-- CLAIM_ANY by a party: the state, the slot and the result. -/
def State.claimAny (s : State) (party : Nat) : State × Nat × Nat :=
  match s.lowestFree with
  | none => (s.refuseClaim party, 0, loftNoneFree)
  | some n => if s.mayClaim party then (s.takeSlot party n, n, loftOk) else (s.refuseClaim party, 0, loftNoneFree)

/-- A slot freed (Table MET-5). -/
def State.freeSlot (s : State) (n : Nat) : State :=
  s.setSlot n { s.slot n with owner := 0, publish := false, frozen := false }

/-- FREE by a party. -/
def State.free (s : State) (party n : Nat) : State × Nat :=
  if (s.slot n).owner = party then (s.freeSlot n, loftOk) else (s.violation n party 2, loftNotOwner)

/-- Whether a receiver is present in the variant (Table MET-5): MET is not on a BST420C (R3). -/
def State.hasParty (s : State) (target : Nat) : Bool :=
  decide (1 ≤ target) && decide (target ≤ 5) && !(target == ownMet && s.variant == .c)

/-- The slot handed over (Table MET-5): FROZEN is set where MET gives what it has published. -/
def handOver (x : Slot) (target len : Nat) : Slot :=
  { x with
    owner := target, giver := x.owner, hands := satAdd 255 x.hands 1, len := newLen x.len len
    frozen := x.frozen || (x.owner == ownMet && x.publish) }

/-- GIVE by a party (Table MET-5, R286). -/
def State.give (s : State) (party n target len : Nat) : State × Nat :=
  if (s.slot n).owner ≠ party ∨ party = 0 then (s.violation n party 2, loftNotOwner)
  else if target = 0 then (s.freeSlot n, loftOk)
  else if !s.hasParty target then (s, loftBadTarget)
  else if target = party then (s.setSlot n { s.slot n with len := newLen (s.slot n).len len }, loftOk)
  else ((s.setSlot n (handOver (s.slot n) target len)).doorbell target n, loftOk)

/-- PUBLISH by a party (Table MET-5). -/
def State.publish (s : State) (party n len : Nat) : State × Nat :=
  if (s.slot n).owner = party ∧ party ≠ 0 then
    (s.setSlot n { s.slot n with publish := true, len := newLen (s.slot n).len len }, loftOk)
  else (s.violation n party 2, loftNotOwner)

/-- UNPUBLISH by a party (Table MET-5). -/
def State.unpublish (s : State) (party n : Nat) : State × Nat :=
  if (s.slot n).owner ≠ party ∨ party = 0 then (s.violation n party 2, loftNotOwner)
  else if (s.slot n).frozen then (s, loftFrozen)
  else (s.setSlot n { s.slot n with publish := false }, loftOk)

/-! ### The copy through the Loft bridge (R287) -/

/-- What stops a word of a copy: its address, the kind of access, and the cause. -/
def State.copyFault (s : State) (j : CopyJob) (i : Nat) : Option (Nat × Nat × Nat) :=
  let a := j.sram + 4 * i
  let x := s.slot j.slot
  let sramOk := j.sram % 4 == 0 && decide (0x20000000 ≤ a) && decide (a + 4 ≤ 0x20020000)
  let loftOk := if j.toSlot then x.writableBy j.party else x.readableBy j.party
  let sram := if sramOk then none else some (a, if j.toSlot then kindRead else kindWrite, causeDecode)
  let loft :=
    if loftOk then none
    else some (slotAddr j.slot + 4 * i, if j.toSlot then kindWrite else kindRead, causeLoftOwner)
  if i = 0 ∧ sram.isSome then sram
  else if j.toSlot then (if sram.isSome then sram else loft) else (if loft.isSome then loft else sram)

/-- The words of a copy moved in order until one faults: the state, the words moved and the fault. -/
def State.copyWords (s : State) (j : CopyJob) (i : Nat) : Nat → State × Nat × Option (Nat × Nat × Nat)
  | 0 => (s, i, none)
  | k + 1 =>
    match s.copyFault j i with
    | some f => (s, i, some f)
    | none =>
      let a := j.sram + 4 * i
      let b := slotAddr j.slot + 4 * i
      let s' := if j.toSlot then s.setBytes b (s.bytes a 4) else s.setBytes a (s.bytes b 4)
      s'.copyWords j (i + 1) k

/-- The rest of a copy: the state, the words served in all, and the fault that stopped it. -/
def State.copyRest (s : State) (j : CopyJob) : State × Nat × Option (Nat × Nat × Nat) :=
  if j.fault.isSome then (s, j.served, j.fault) else s.copyWords j j.served (j.words - j.served)

/-- A command of the owner of slot `n` meets a copy of that slot at a word boundary (R297): the words served before it
stand. How many they are is open, so their number is a free value. -/
def State.copyMeets (s : State) (n : Nat) : State :=
  match if s.flag (R.PWR.PACE_STATUS.UNDER .app) then none else s.copy with
  | none => s
  | some j =>
    if j.slot ≠ n ∨ j.fault.isSome then s
    else
      let x := s.fresh
      match x.2.copyWords j j.served (x.1 % (j.words - j.served + 1)) with
      | (s1, k, f) => { s1 with copy := some { j with served := k, fault := f } }

/-- The state in which a command of a party that changes who may use its slot is served. -/
def State.meets (s : State) (party n : Nat) : State := if (s.slot n).owner = party ∧ party ≠ 0 then s.copyMeets n else s

/-! ### The commands of the cores -/

/-- Whether the AS of a command is one its side may act as: MET always; APP or DMA on the application side. -/
def actsAs (sd : Side) (party : Nat) : Bool := sd == .met || party == ownApp || party == ownDma

/-- The party a command acts as: MLOFTC.CMD always acts as MET. -/
def actingParty (sd : Side) (party : Nat) : Nat := sd.pick party ownMet

/-- A command of a core that runs, with its result shown: BAD_TARGET for an AS that is not allowed (Table MET-10). -/
def State.loftCommand (s : State) (sd : Side) (party slot : Nat) (f : Nat → State × Nat) :
    Host.Outcome State Fault Refusal :=
  if !s.railPowered sd then .next s
  else if actsAs sd party then
    let r := f (actingParty sd party)
    .next (r.1.cmdResult sd slot r.2)
  else .next (s.cmdResult sd slot loftBadTarget)

/-- CLAIM (R284, R285). -/
def execClaim (sd : Side) (party slot : Nat) (s : State) : Host.Outcome State Fault Refusal :=
  s.loftCommand sd party (slot % 32) (fun p => s.claim p (slot % 32))

/-- The result of a CLAIM_ANY that acted on no slot: SLOT is free. -/
def State.cmdNoSlot (s : State) (sd : Side) (result : Nat) : State :=
  let x := s.fresh
  x.2.cmdResult sd (x.1 % 32) result

/-- CLAIM_ANY (R284, R285): CMD_STATUS.SLOT names the slot. -/
def execClaimAny (sd : Side) (party : Nat) (s : State) : Host.Outcome State Fault Refusal :=
  if !s.railPowered sd then .next s
  else if actsAs sd party then
    let r := s.claimAny (actingParty sd party)
    .next (if r.2.2 = loftOk then r.1.cmdResult sd r.2.1 r.2.2 else r.1.cmdNoSlot sd r.2.2)
  else .next (s.cmdNoSlot sd loftBadTarget)

/-- GIVE (R284, R286, R297). -/
def execGive (sd : Side) (party slot target len : Nat) (s : State) : Host.Outcome State Fault Refusal :=
  s.loftCommand sd party (slot % 32) (fun p => (s.meets p (slot % 32)).give p (slot % 32) target len)

/-- PUBLISH (R284). -/
def execPublish (sd : Side) (party slot len : Nat) (s : State) : Host.Outcome State Fault Refusal :=
  s.loftCommand sd party (slot % 32) (fun p => s.publish p (slot % 32) len)

/-- UNPUBLISH (R284, R297). -/
def execUnpublish (sd : Side) (party slot : Nat) (s : State) : Host.Outcome State Fault Refusal :=
  s.loftCommand sd party (slot % 32) (fun p => (s.meets p (slot % 32)).unpublish p (slot % 32))

/-- FREE (R284, R297). -/
def execFree (sd : Side) (party slot : Nat) (s : State) : Host.Outcome State Fault Refusal :=
  s.loftCommand sd party (slot % 32) (fun p => (s.meets p (slot % 32)).free p (slot % 32))

/-- FREE_MIN_WRITE: a write of any value loads FREE_NOW (Table MET-10). -/
def execFreeMinWrite (sd : Side) (s : State) : Host.Outcome State Fault Refusal :=
  .next (if s.railPowered sd then s.wr (R.LOFTC.STATS.FREE_MIN sd) s.freeNow else s)

/-! ### The orders of the Loft bridge (R287) -/

/-- LOFT_COPY: a start while BUSY is ignored; the order is latched; an AS other than 2 and 3 makes the copy end with ERR at
once (Table MET-11). -/
def execLoftCopy (s : State) : Host.Outcome State Fault Refusal :=
  if s.flag R.LOFTC.COPY_STATUS.BUSY || !s.railPowered .app then .next s
  else
    let w := s.rd R.LOFTC.COPY_CTL.WORDS
    let j : CopyJob :=
      { slot := s.rd R.LOFTC.COPY_CTL.SLOT, toSlot := s.flag R.LOFTC.COPY_CTL.DIR
        words := if w = 0 ∨ w > 128 then 128 else w
        party := s.rd R.LOFTC.COPY_CTL.AS, sram := s.rd R.LOFTC.COPY_SRAM.ADDR }
    let s1 := s.clear R.LOFTC.COPY_STATUS.WORDS_DONE
    if j.party ≠ ownApp ∧ j.party ≠ ownDma then .next (s1.raise R.LOFTC.COPY_STATUS.ERR)
    else .next ((({ s1 with copy := some j } : State).raise R.LOFTC.COPY_CTL.START).raise R.LOFTC.COPY_STATUS.BUSY)

/-- LOFT_COPY_END: the words left are moved, each checked when it is served; DONE, or ERR at the first fault.  While UNDER holds
the handshakes of APP SRAM the copy waits (R61). -/
def execLoftCopyEnd (s : State) : Host.Outcome State Fault Refusal :=
  match if s.flag (R.PWR.PACE_STATUS.UNDER .app) then none else s.copy with
  | none => .next s
  | some j =>
    let base := (({ s with copy := none } : State).clear R.LOFTC.COPY_STATUS.BUSY).clear R.LOFTC.COPY_CTL.START
    match base.copyRest j with
    | (s1, n, none) => .next ((s1.wr R.LOFTC.COPY_STATUS.WORDS_DONE n).raise R.LOFTC.COPY_STATUS.DONE)
    | (s1, n, some (a, kind, cause)) =>
      .next (((s1.wr R.LOFTC.COPY_STATUS.WORDS_DONE n).wr R.LOFTC.COPY_STATUS.CAUSE cause |>.raise
        R.LOFTC.COPY_STATUS.ERR).busFault .app 14 kind cause a)

/-! ### RTC alarms -/

/-- Alarm M fires (Table MET-3): FIRED set, EN cleared, and cause 0x2 raised towards MET; at L6 only every
MEAS_STRETCH-th measurement alarm passes to MET (Table SUP-3). -/
def State.fireAlarmM (s : State) : State :=
  let s1 := (s.raise R.MAON.ALARM_M_CTL.FIRED).clear R.MAON.ALARM_M_CTL.EN
  if s1.level = 6 then
    if s1.power.stretch + 1 ≥ s1.measStretch then
      ({ s1 with power := { s1.power with stretch := 0 } } : State).wake .met 0x2
    else { s1 with power := { s1.power with stretch := s1.power.stretch + 1 } }
  else s1.wake .met 0x2

/-- ALARM_M_ARM: AT and EN are written; armed with AT not later than SEC, MISSED is set and the alarm fires at once
(Table MET-3). -/
def execAlarmMArm (time en : Nat) (s : State) : Host.Outcome State Fault Refusal :=
  if s.power.met.st ≠ .on then .next s
  else
    let s1 := (s.wr R.MAON.ALARM_M.AT time).wr R.MAON.ALARM_M_CTL.EN en
    if s1.flag R.MAON.ALARM_M_CTL.EN && decide (s1.rd R.MAON.ALARM_M.AT ≤ s1.utime) then
      .next (s1.raise R.MAON.ALARM_M_CTL.MISSED).fireAlarmM
    else .next s1

/-- Whether the part is powered and out of reset. -/
def State.awake (s : State) : Bool := s.resetHold == 0 && !s.power.ship

/-- RTC_ALARM: the RTC reaches alarm A (towards APP), or alarm M while it is armed. -/
def execRtcAlarm (sd : Side) (s : State) : Host.Outcome State Fault Refusal :=
  match sd with
  | .app => if s.awake then .next (s.wake .app 0x1) else .next s
  | .met => if s.awake && s.flag R.MAON.ALARM_M_CTL.EN then .next s.fireAlarmM else .next s

end Sys2Proof.Machine
end

