-- ==== Sys2Proof/Machine/Contexts.lean ====
section
/-! DEFINITION. The two contexts of CMACE (R582): who waits in which, and the flags that show it. -/

namespace Sys2Proof.Machine

open Sys2Proof

/-- Whether a user's jobs take the URGENT context. -/
def isUrgent (user : Nat) : Bool := user == 4 || user == 5

/-- Whether a user is the register interface. -/
def isRegisters (user : Nat) : Bool := user == 1 || user == 6

/-- BG_OWNER for a user. -/
def bgOwner (user : Nat) : Nat := if user = 2 then 2 else if user = 3 then 3 else 1

/-- The context flags of STATUS brought up to date. -/
def State.syncCmac (s : State) : State :=
  let head := s.cmac.background.head?
  let fwHead := match head with
    | none => false
    | some j => isRegisters j.user
  let fw := s.cmac.background.any (fun j => isRegisters j.user)
  let s1 := (s.wrBool R.CMACE.STATUS.BUSY fw).wrBool R.CMACE.STATUS.QUEUED (fw && !fwHead)
  let s2 := (s1.wrBool R.CMACE.STATUS.SUSP (fwHead && s.cmac.suspended)).wrBool R.CMACE.STATUS.URG_BUSY
    (!s.cmac.urgent.isEmpty)
  s2.wr R.CMACE.STATUS.BG_OWNER (match head with
    | none => 0
    | some j => bgOwner j.user)

/-- The contexts replaced. -/
def State.setContexts (s : State) (bg urg : List CmacJob) (susp : Bool) : State :=
  ({ s with cmac := { s.cmac with background := bg, urgent := urg, suspended := susp } } : State).syncCmac

/-- A job of an engine, whose content its own step computes; here it takes its turn. -/
def engineJob (user op : Nat) : CmacJob :=
  { user := user, op := op, final := false, slot := 0, key := [], dhalf := 0, dattr := 0, dslot := 8, exportKey := false
    tlen := 0, src0 := 0, len0 := 0, src1 := 0, len1 := 0, dst := 0, iv := [], tag := [] }

/-- An engine's job enters its context. -/
def State.submitEngine (s : State) (user op : Nat) : State :=
  if isUrgent user then s.setContexts s.cmac.background (s.cmac.urgent ++ [engineJob user op]) s.cmac.suspended
  else s.setContexts (s.cmac.background ++ [engineJob user op]) s.cmac.urgent s.cmac.suspended

end Sys2Proof.Machine
end

