-- ==== Sys2Proof/Machine/Protect.lean ====
section
/-! DEFINITION. Boot twins, seal and protection (ch. 09): region protection and passwords, the anti-rollback counters, the
seal, and the fuse programmer. -/

namespace Sys2Proof.Machine

open Sys2Proof

/-! ### Region protection (R256, R257, R266) -/

/-- The region of an application block (Table PROT-3): arrays 0 and 1 are the banks, 2 is the boot array. -/
def protRegion (arr blk : Nat) : Nat :=
  if arr = 2 then (if blk < 4 then 0 else if blk < 8 then 1 else 2)
  else 3 + 3 * arr + (if blk < 80 then 0 else if blk < 92 then 1 else 2)

/-- Whether an application region is writable (R257); none is once ID 0x03 has no majority (Table REG-4). -/
def State.regionWritable (s : State) (r : Nat) : Bool :=
  !s.flag R.FLASHC.PROT_STATUS.MAP_LOST && (!bit s.protMask r || s.rdBit R.FLASHC.PROT_STATUS.LIFTED r)

/-- The region of an MFLASH block (Table PROT-9): slot A, slot B, journal, log, parameters. -/
def mflashRegion (blk : Nat) : Nat :=
  if blk < 12 then 0 else if blk < 24 then 1 else if blk < 26 then 2 else if blk < 30 then 3 else 4

/-- Whether the seal state is SEALED or BROKEN. -/
def State.sealClosed (s : State) : Bool := s.rd R.MPWR.SEAL_STATUS.STATE != 0

/-- Whether the seal protects an MFLASH region (R266). -/
def State.hwProtected (s : State) (r : Nat) : Bool :=
  s.sealClosed && ((decide (r ≤ 1) && s.rd R.MFLASHC.MPROT.ACTIVE == r + 1) || (r == 4 && !s.inService))

/-- Whether an MFLASH region is protected (R266). -/
def State.mflashProtected (s : State) (r : Nat) : Bool := s.hwProtected r || s.rdBit R.MFLASHC.MPROT.LOCK r

/-- What MPROT.HWPROT shows. -/
def State.hwProt (s : State) : Nat := (List.range 5).foldl (fun v r => v + 2 ^ r * b2n (s.hwProtected r)) 0

/-- MPROT_LOCK (R266): the named regions locked until the next MET-scope reset; a BST420C has no MFLASHC (R278). -/
def execMprotLock (mask : Nat) (s : State) : Host.Outcome State Fault Refusal :=
  if s.power.met.st = .on then .next (s.wr R.MFLASHC.MPROT.LOCK (s.rd R.MFLASHC.MPROT.LOCK ||| (mask % 32))) else .next s

/-! ### Execute-only regions (R263 to R265) -/

/-- Entry `i` of AXO in force: its bounds. -/
def State.axo (s : State) (i : Nat) : Nat × Nat := (s.axoWord i % 2 ^ 32, s.axoWord i / 2 ^ 32)

/-- Whether a pair of bounds is valid (R263). -/
def axoValid (e : Nat × Nat) : Bool :=
  e.1 % 0x1000 == 0 && e.2 % 0x1000 == 0 && decide (e.1 < e.2) && decide (0x00100000 ≤ e.1) && decide (e.2 ≤ 0x001C0000)

/-- Whether a place of a side lies in a range that a lost majority of ID 0x03 made execute-only (R264, Table REG-4). -/
def State.inXoLost (s : State) (sd : Side) (a : Nat) : Bool :=
  s.xoLost.any (fun r => r.1 == sd && decide (r.2.1 ≤ a) && decide (a < r.2.2))

/-- Whether an application address is execute-only (R263, R264). -/
def State.appExecuteOnly (s : State) (a : Nat) : Bool :=
  s.inXoLost .app a ||
    (List.range 4).any (fun i => axoValid (s.axo i) && decide ((s.axo i).1 ≤ a) && decide (a < (s.axo i).2))

/-- Whether an MFLASH block is execute-only (R265). -/
def State.metExecuteOnly (s : State) (blk : Nat) : Bool :=
  s.inXoLost .met blk ||
    (List.range 4).any (fun i => s.flag (R.MFLASHC.MXO.EN i) && decide (s.rd (R.MFLASHC.MXO.START i) ≤ blk) &&
      decide (blk ≤ s.rd (R.MFLASHC.MXO.END i)))

/-! ### Lifting protection (R258 to R262) -/

/-- The unit ID as bytes, least significant first. -/
def State.unitIdBytes (s : State) : List Nat := leBytes 8 s.otp.unitId

/-- A 128-bit key derived from the unit root (Table KEY-3). -/
def State.rootDerive (s : State) (label : List Nat) : List Nat := derive128 s.otp.rootKey label s.unitIdBytes

/-- The check value of a password (R258). -/
def State.passwordTag (s : State) (pw : List Nat) : List Nat := cmacOf (s.rootDerive labelProt) pw

/-- Whether no password check value is stored (R260). -/
def State.tagBlank (s : State) : Bool := s.protPwTag.all (fun b => b == 0xFF)

/-- The bytes of PW0 to PW3. -/
def State.password (s : State) : List Nat := (List.range 4).flatMap (fun n => leBytes 4 (s.rd (R.FLASHC.PW.PW n)))

/-- PW0 to PW3 cleared. -/
def State.clearPassword (s : State) : State := forEach 4 (fun n a => a.clear (R.FLASHC.PW.PW n)) s

/-- A wrong password counted; the eighth locks out (R261). -/
def State.wrongPassword (s : State) : State :=
  let n := s.rd R.FLASHC.PROT_STATUS.ATTEMPTS + 1
  let s1 := ((s.wr R.FLASHC.PROT_STATUS.ATTEMPTS n).raise R.FLASHC.PROT_STATUS.PW_BAD).raise
    (R.FLASHC.STATUS.PROTERR .app)
  let s2 := s1.log 0x0731 []
  if n = 8 then (s2.raise R.FLASHC.PROT_STATUS.LOCKOUT).log 0x0732 [] else s2

/-- The named regions lifted (R260). -/
def State.lift (s : State) (mask : Nat) : State :=
  (((s.wr R.FLASHC.PROT_STATUS.LIFTED (s.rd R.FLASHC.PROT_STATUS.LIFTED ||| (mask % 512))).ownCopies 3 1).raise
    R.FLASHC.PROT_STATUS.LIFT_OK).log 0x0730 []

/-- The outcome of a protection entry for a password (R260); an empty key slot 0 fits no password. -/
def State.protectionCheck (s : State) (mask : Nat) (pw : List Nat) : State :=
  if s.flag R.FLASHC.PROT_STATUS.LOCKOUT || s.flag R.FLASHC.PROT_STATUS.MAP_LOST then
    (s.raise (R.FLASHC.STATUS.PROTERR .app)).log 0x0731 []
  else if s.tagBlank then s.lift mask
  else if !s.otp.bad && s.passwordTag pw == s.protPwTag then s.lift mask
  else s.wrongPassword

/-- The outcome of a protection entry with the password of PW0 to PW3, which are cleared whatever the outcome (R259,
R260). -/
def State.protectionEntry (s : State) (mask : Nat) : State := (s.protectionCheck mask s.password).clearPassword

/-- PROT_RELOCK (R262). -/
def execProtRelock (mask key : Nat) (s : State) : Host.Outcome State Fault Refusal :=
  if key = 0xD2 ∧ s.power.app.st = .on then
    .next (((s.wr R.FLASHC.PROT_STATUS.LIFTED (clearBits (s.rd R.FLASHC.PROT_STATUS.LIFTED) (mask % 512))).ownCopies 3
      1).log 0x0733 [])
  else .next s

/-! ### The fuse programmer (R249) -/

/-- The flags that show the fuse programmer at work. -/
def State.syncBurn (s : State) : State :=
  let busy := !s.burns.isEmpty
  let sealBurn := match s.burns with
    | [] => false
    | b :: _ => b.item == 3
  ((s.wrBool R.FLASHC.ARB_STATUS.BURN busy).wrBool R.MPWR.ARB2.BURN busy).wrBool R.MPWR.SEAL_STATUS.BURN sealBurn

/-- Requests added to the queue of the fuse programmer. -/
def State.queueBurns (s : State) (l : List Burn) : State := ({ s with burns := s.burns ++ l } : State).syncBurn

/-- The value of anti-rollback counter `i`. -/
def State.arb (s : State) (i : Nat) : Nat := s.otp.arb.getD i 0

/-- The counters as the registers show them. -/
def State.syncArb (s : State) : State :=
  (((s.wr R.FLASHC.ARB_STATUS.ARB0 (s.arb 0)).wr R.FLASHC.ARB_STATUS.ARB1 (s.arb 1)).wr R.FLASHC.ARB_STATUS.ARB2
    (s.arb 2)).wr R.MPWR.ARB2.VALUE (s.arb 2)

/-- An event of a counter: those of counter 2 are raised on the MET side (R728). -/
def State.logArb (s : State) (i code : Nat) (data : List Nat) : State :=
  if i = 2 then s.logMet code data else s.log code data

/-- An advance refused (R254); a BST420C has no MPWR and no counter 2 command (R278). -/
def State.refuseAdvance (s : State) (i : Nat) : State :=
  let s1 := s.raise R.FLASHC.ARB_STATUS.REFUSED
  if i = 2 ∧ s.variant ≠ .c then (s1.raise R.MPWR.ARB2.REFUSED).logMet 0x0742 [] else s1.log 0x0742 []

/-- The burns of an advance of counter `i` from `v` up to `target`, for whose last the requester waits. -/
def advanceBurns (sd : Side) (req i v target : Nat) : List Burn :=
  (List.range (target - v)).map (fun k =>
    { item := i, pair := v + k, before := v, last := v + k + 1 == target, reseal := false, sd := sd, req := req })

/-- An advance of counter 0 or 1 at FLASHC, or of counter 2 at MPWR, written by a requester (R254): the write completes at
once where it is refused or has no effect, else when the last step ends. -/
def State.advanceArb (s : State) (sd : Side) (req key idx target : Nat) : State :=
  let i := sd.pick idx 2
  if key ≠ 0x9B ∨ (sd = .app ∧ idx ≥ 2) ∨ target > 64 ∨ (i = 0 ∧ target > s.rd R.AON.BOOT_STATUS.ROLLBACK) then
    s.refuseAdvance i
  else if target ≤ s.arb i then s
  else s.queueBurns (advanceBurns sd req i (s.arb i) target)

/-- Whether a core waits for a burn that its write has started (R249). -/
def State.awaitsBurn (s : State) (sd : Side) (req : Nat) : Bool := s.burns.any (fun b => b.sd == sd && b.req == req)

/-- ARB_ADVANCE (R254): the write of a core that runs and waits for no other burn. -/
def execArbAdvance (sd : Side) (key idx target : Nat) (s : State) : Host.Outcome State Fault Refusal :=
  if s.railPowered sd && !s.awaitsBurn sd 1 then .next (s.advanceArb sd 1 key idx target) else .next s

/-- The burns of a side go on without a requester that waits for them, as after a reset of its domain. -/
def State.orphanBurns (s : State) (sd : Side) : State :=
  { s with burns := s.burns.map (fun b => if b.sd == sd then { b with req := 15 } else b) }

/-- A counter's step blown: the value follows, and at 64 the counter is saturated (R253, R255). -/
def State.stepBlown (s : State) (b : Burn) : State :=
  let v := max (s.arb b.item) (b.pair + 1)
  let s1 := ({ s with otp := { s.otp with arb := s.otp.arb.set b.item v } } : State).syncArb
  let s2 := if b.last then s1.logArb b.item 0x0740 [b.item, b.before, v] else s1
  if v = 64 ∧ s.arb b.item < 64 then
    let s3 := s2.raise R.FLASHC.ARB_STATUS.SAT
    (if b.item = 2 then s3.raise R.MPWR.ARB2.SAT else s3).logArb b.item 0x0741 []
  else s2

/-! ### The seal (R267 to R271) -/

/-- The S pairs not blown. -/
def State.sealRemain (s : State) : Nat := (s.otp.sealS.filter (fun f => f == 0)).length

/-- The highest blown S. -/
def State.highestSeal (s : State) : Option Nat := (List.range 8).reverse.find? (fun k => s.otp.sealS.getD k 0 != 0)

/-- CYCLE, REMAIN and SPLIT as the fuses give them. -/
def State.syncSeal (s : State) : State :=
  let split := s.otp.sealS.any (fun f => f == 1) || s.otp.sealB.any (fun f => f == 1)
  ((s.wr R.MPWR.SEAL_STATUS.CYCLE (s.highestSeal.getD 0)).wr R.MPWR.SEAL_STATUS.REMAIN s.sealRemain).wrBool
    R.MPWR.SEAL_STATUS.SPLIT split

/-- The state of the seal derived from the fuses (R267). -/
def State.sealFromFuses (s : State) : State :=
  let st := match s.highestSeal with
    | none => 0
    | some k => if s.otp.sealB.getD k 0 != 0 then 2 else 1
  ((s.syncSeal).wr R.MPWR.SEAL_STATUS.STATE st).ownCopies 2 0

/-- The seal broken (R269): the voted state at once, the event, and the burn of B_k. -/
def State.breakSeal (s : State) : State :=
  let s1 := (((s.wr R.MPWR.SEAL_STATUS.STATE 2).ownCopies 2 0).raise R.MPWR.SEAL_STATUS.BROKE).logMet 0x0721 []
  s1.queueBurns [{ item := 3, pair := 2 * s1.rd R.MPWR.SEAL_STATUS.CYCLE + 1, before := 0, last := true, reseal := false
                   sd := .met, req := 15 }]

/-- The check of each debounced sample (R269): the seal is broken where SW reads 0 while it is SEALED. -/
def State.sealCheck (s : State) : State :=
  if s.flag R.MPWR.SEAL_STATUS.SW_VALID && !s.flag R.MPWR.SEAL_STATUS.SW && s.rd R.MPWR.SEAL_STATUS.STATE == 1 then
    s.breakSeal
  else s

/-- SEALSW_CHANGE (R268, R269): a level has held for ten samples.  The first such value after a start raises cause 0x9
only when it is 0.  It is sampled from step 3 of the start on (R268); a BST420C has no seal registers (R278). -/
def execSealswChange (level : Bool) (s : State) : Host.Outcome State Fault Refusal :=
  if s.power.ship || s.resetHold != 0 || s.variant == .c then .next s
  else
    let first := !s.flag R.MPWR.SEAL_STATUS.SW_VALID
    let changed := if first then !level else s.flag R.MPWR.SEAL_STATUS.SW != level
    let s1 := (s.wrBool R.MPWR.SEAL_STATUS.SW level).raise R.MPWR.SEAL_STATUS.SW_VALID
    .next (if changed then s1.wake .met 0x9 else s1).sealCheck

/-- A seal command from a state (R270): accepted, the next S pair is blown, and the write completes with the burn; else
REFUSED.  It is a write of MCORE, which waits for no other burn. -/
def State.sealCommand (s : State) (key fromState : Nat) (reseal : Bool) : State :=
  if s.power.met.st ≠ .on ∨ key ≠ 0x5E ∨ s.awaitsBurn .met 1 = true then s
  else if s.rd R.MPWR.SEAL_STATUS.STATE = fromState ∧ s.inService = true ∧ s.flag R.MPWR.SEAL_STATUS.SW = true ∧
      s.sealRemain ≥ 1 ∧ s.level ≤ 4 then
    let k := match s.highestSeal with
      | none => 0
      | some h => h + 1
    s.queueBurns [{ item := 3, pair := 2 * k, before := 0, last := true, reseal := reseal, sd := .met, req := 1 }]
  else (s.raise R.MPWR.SEAL_STATUS.REFUSED).logMet 0x0723 []

/-- SEAL_SET (R270). -/
def execSealSet (key : Nat) (s : State) : Host.Outcome State Fault Refusal := .next (s.sealCommand key 0 false)

/-- SEAL_RESEAL (R270). -/
def execSealReseal (key : Nat) (s : State) : Host.Outcome State Fault Refusal := .next (s.sealCommand key 2 true)

/-- A seal pair blown, whole or split: S_k sets SEALED and logs the command (R270, R274); the next debounced sample then
breaks the seal where SW is 0. -/
def State.sealBlown (s : State) (b : Burn) (f : Nat) : State :=
  let k := b.pair / 2
  if b.pair % 2 = 0 then
    let s1 : State := { s with otp := { s.otp with sealS := s.otp.sealS.set k f } }
    ((s1.syncSeal.wr R.MPWR.SEAL_STATUS.STATE 1).ownCopies 2 0).logMet (if b.reseal then 0x0722 else 0x0720) []
  else ({ s with otp := { s.otp with sealB := s.otp.sealB.set k f } } : State).syncSeal

/-- The write that waited for its last burn completes (R249). -/
def State.burnAnswered (s : State) (b : Burn) : State := if b.last && b.req != 15 then s.done 0 else s

/-- The end of the burn in progress, its pair blown or left split. -/
def State.burnDone (s : State) (split : Bool) : State :=
  match s.burns with
  | [] => s
  | b :: r =>
    let s1 := ({ s with burns := r } : State).syncBurn
    let s2 := if split then s1.raise R.FLASHC.ARB_STATUS.SPLIT else s1
    if b.item = 3 then (s2.sealBlown b (if split then 1 else 2)).burnAnswered b
    else
      let s3 : State := if split then { s2 with otp := { s2.otp with splits := s2.otp.splits ++ [(b.item, b.pair)] } } else s2
      (s3.stepBlown b).burnAnswered b

/-- FUSE_BURN_DONE (R249): the burn in progress ends, and the next request is served. -/
def execFuseBurnDone (split : Bool) (s : State) : Host.Outcome State Fault Refusal :=
  if s.resetHold = 1 ∨ s.resetHold = 3 ∨ s.power.ship = true then .next s else .next (s.burnDone split)

end Sys2Proof.Machine
end

