-- ==== Sys2Proof/Machine/Flash.lean ====
section
/-! DEFINITION. The flash controllers (ch. 08): arrays and blocks, command sequences, program, erase and abort, wear. -/

namespace Sys2Proof.Machine

open Sys2Proof

/-! ### Arrays and blocks (Table FLASH-1) -/

/-- The twin that the active-boot window shows: 0 A, 1 B; none where no twin was booted. -/
def State.mappedTwin (s : State) : Option Nat :=
  let t := s.rd R.AON.BOOT_STATUS.TWIN
  if t < 2 then some t else none

/-- An application address with the active-boot window resolved to the mapped twin. -/
def State.unwindow (s : State) (a : Nat) : Option Nat :=
  if 0x8000 ≤ a ∧ a < 0xC000 then s.mappedTwin.map (fun t => 0x10000 + 0x4000 * t + (a - 0x8000)) else some a

/-- The array an address of a side lies in: 0 and 1 the banks, 2 the boot array, 3 MFLASH. -/
def flashArray (sd : Side) (a : Nat) : Option Nat :=
  match sd with
  | .app =>
    if 0x100000 ≤ a ∧ a < 0x160000 then some 0
    else if 0x160000 ≤ a ∧ a < 0x1C0000 then some 1
    else if (0x10000 ≤ a ∧ a < 0x18000) ∨ (0x1FF000 ≤ a ∧ a < 0x200000) then some 2
    else none
  | .met => if 0x40000 ≤ a ∧ a < 0x60000 then some 3 else none

/-- The command base of an array. -/
def flashBase (arr : Nat) : Nat :=
  if arr = 0 then 0x100000 else if arr = 1 then 0x160000 else if arr = 2 then 0x10000 else 0x40000

/-- The block of an array an address lies in; block 8 of the boot array is the option area. -/
def blockOf (arr a : Nat) : Nat := if arr = 2 ∧ a ≥ 0x1FF000 then 8 else (a - flashBase arr) / 0x1000

/-- The first address of a block. -/
def blockBase (arr blk : Nat) : Nat := if arr = 2 ∧ blk = 8 then 0x1FF000 else flashBase arr + 0x1000 * blk

/-- The number of blocks of an array. -/
def blocksOf (arr : Nat) : Nat := if arr ≤ 1 then 96 else if arr = 2 then 9 else 32

/-- The side an array belongs to. -/
def arraySide (arr : Nat) : Side := if arr = 3 then .met else .app

/-- A physical address for an address of a side. -/
def physOf (sd : Side) (a : Nat) : Nat := sd.pick a (metPhys + a)

/-- The erases a block endures. -/
def endurance (arr : Nat) : Nat := if arr = 3 then 10000 else 50000

/-! ### Operations in progress -/

/-- The operation of a controller. -/
def State.flashOp (s : State) (sd : Side) : Option FlashOp := sd.pick s.appFlash s.metFlash

/-- The sequence in an array's decoder. -/
def State.flashSeq (s : State) (arr : Nat) : Option FlashSeq := s.flashSeqs.find? (fun q => q.arr == arr)

/-- Whether an array is busy (R221). -/
def State.arrayBusy (s : State) (arr : Nat) : Bool :=
  match s.flashOp (arraySide arr) with
  | none => false
  | some o => o.arr == arr

/-- OP as STATUS shows it: 1 program, 2 erase, 3 protection entry, 4 abort in progress. -/
def State.opCode (s : State) (sd : Side) : Nat :=
  match s.flashOp sd with
  | none => if sd == .app && s.protEntry.isSome then 3 else 0
  | some o => if !o.erase then 1 else if o.aborting then 4 else 2

/-- The busy and armed bits of STATUS brought up to date (Table FLASH-7, R236). -/
def State.syncFlash (s : State) (sd : Side) : State :=
  let s1 := (s.wrBool (R.FLASHC.STATUS.BUSY sd) (s.flashOp sd).isSome).wrBool (R.FLASHC.STATUS.BUSY0 sd)
    (s.arrayBusy (sd.pick 0 3))
  let s2 := (s1.wrBool (R.FLASHC.STATUS.BUSY1 sd) (sd.pick (s.arrayBusy 1) false)).wrBool (R.FLASHC.STATUS.BUSYB sd)
    (sd.pick (s.arrayBusy 2) false)
  (s2.wr (R.FLASHC.STATUS.OP sd) (s.opCode sd)).wrBool (R.FLASHC.STATUS.ARMED sd)
    (s.flashSeqs.any (fun q => arraySide q.arr == sd))

/-- The operation of a controller replaced. -/
def State.setFlashOp (s : State) (sd : Side) (o : Option FlashOp) : State :=
  (match sd with
    | .app => ({ s with appFlash := o } : State)
    | .met => { s with metFlash := o }).syncFlash sd

/-- The sequence of an array replaced, or dropped. -/
def State.setSeq (s : State) (arr : Nat) (q : Option FlashSeq) : State :=
  ({ s with flashSeqs := s.flashSeqs.filter (fun x => x.arr != arr) ++ q.toList } : State).syncFlash (arraySide arr)

/-- Every sequence of a side lost (R224). -/
def State.loseSequences (s : State) (sd : Side) : State :=
  ({ s with flashSeqs := s.flashSeqs.filter (fun x => arraySide x.arr != sd) } : State).syncFlash sd

/-- Whether a side's flash interrupt is asserted (R237, Table FLASH-10): a flag with its enable in CTRL. -/
def State.flashIrq (s : State) (sd : Side) : Bool :=
  (s.flag (R.FLASHC.CTRL.DONE_IE sd) && s.flag (R.FLASHC.STATUS.DONE sd)) ||
    (s.flag (R.FLASHC.CTRL.FAIL_IE sd) &&
      [R.FLASHC.STATUS.PFAIL sd, R.FLASHC.STATUS.EFAIL sd, R.FLASHC.STATUS.VERIFY_CORR sd, R.FLASHC.STATUS.TIRED_HIT sd,
        R.FLASHC.STATUS.ABORTED sd].any s.flag) ||
    (s.flag (R.FLASHC.CTRL.ECC_IE sd) && (s.flag (R.FLASHC.ECC_STATUS.COR sd) || s.flag (R.FLASHC.ECC_STATUS.UNCOR sd))) ||
    (s.flag (R.FLASHC.CTRL.SEQ_IE sd) &&
      [R.FLASHC.STATUS.NOT_ERASED sd, R.FLASHC.STATUS.SEQERR sd, R.FLASHC.STATUS.STRAY sd, R.FLASHC.STATUS.PROTERR sd,
        R.FLASHC.STATUS.REFUSED sd].any s.flag)

/-! ### Wear (R232, R233)

A header and its copy in the cache are kept as ECNT shows them: the count in bits [23:0], TIRED 24, LOST 25, VALID 26; bit
27 says that the loss of the count has been logged. -/

/-- The key of a block among the headers. -/
def headerKey (arr blk : Nat) : Nat := 128 * arr + blk

/-- A header as shipped: a count of 1 to 4 (R232; free, log entry 9), no marks, readable. -/
def shippedHeader (key : Nat) : Nat := 1 + Config.shippedCount key % 4 + 2 ^ 26

/-- The header of a block. -/
def State.header (s : State) (arr blk : Nat) : Nat := (s.flashHeaders.find (headerKey arr blk)).getD (shippedHeader (headerKey arr blk))

/-- The cached header of a block. -/
def State.cached (s : State) (arr blk : Nat) : Nat := (s.flashCache.find (headerKey arr blk)).getD (s.header arr blk)

/-- The erase count of a block. -/
def State.eraseCount (s : State) (arr blk : Nat) : Nat := s.cached arr blk % 2 ^ 24

/-- The cached header of a block replaced. -/
def State.setCached (s : State) (arr blk v : Nat) : State :=
  { s with flashCache := s.flashCache.put (headerKey arr blk) v }

/-- The header of a block written, and its copy in the cache. -/
def State.setHeader (s : State) (arr blk v : Nat) : State :=
  ({ s with flashHeaders := s.flashHeaders.put (headerKey arr blk) v } : State).setCached arr blk v

/-- The header cache of a side read again from the headers (R218, R238).  A TIRED mark that stood only in the cache, since
its block has not been erased, is gone with it (DESIGN CHOICE, log entry 127). -/
def State.rebuildCache (s : State) (sd : Side) : State :=
  { s with flashCache := s.flashCache.filter (fun e => arraySide (e.1 / 128) != sd) }

/-- A header's content undefined (R230): it reads blank or uncorrectable, with a count and marks nobody knows.  The cache
keeps the marks it held, with VALID 0, until it is read again; from then on ECNT shows free ones (DESIGN CHOICE, log entry
128). -/
def State.loseHeader (s : State) (arr blk : Nat) : State :=
  let told := 2 ^ 27 * b2n (bit (s.cached arr blk) 27 || bit (s.cached arr blk) 25)
  let marks := s.cached arr blk / 2 ^ 24 % 4
  let f := s.fresh
  let v := f.1 % 2 ^ 24
  (f.2.setHeader arr blk (v + 2 ^ 24 * (f.1 / 2 ^ 24 % 4) + told)).setCached arr blk (v + 2 ^ 24 * marks + told)

/-- The DATA of an event that names a block: base address and count (Table CAT-13). -/
def State.blockData (s : State) (arr blk : Nat) : List Nat :=
  leBytes 4 (blockBase arr blk) ++ leBytes 4 (s.eraseCount arr blk)

/-- The TIRED mark of a block set, in the cache at once; logged the first time (R233). -/
def State.setTired (s : State) (arr blk : Nat) : State :=
  let h := s.cached arr blk
  if bit h 24 then s
  else
    let s1 := (s.setCached arr blk (h + 2 ^ 24)).raise (R.FLASHC.STATUS.TIRED_HIT (arraySide arr))
    s1.logSide (arraySide arr) 0x0202 (s1.blockData arr blk)

/-- The header of an erased block written (R232): the count rises, or restarts at 1 with LOST where it was unreadable. -/
def State.writeHeader (s : State) (arr blk : Nat) : State :=
  let sd := arraySide arr
  let h := s.cached arr blk
  let old := h % 2 ^ 24
  let lost := !bit h 26
  let n := if lost then 1 else min 0xFFFFFF (old + 1)
  let l := lost || bit h 25
  let s1 := s.setHeader arr blk (n + 2 ^ 24 * b2n (bit h 24) + 2 ^ 25 * b2n l + 2 ^ 26 + 2 ^ 27 * b2n l)
  let s2 := if lost && !bit h 27 then s1.logSide sd 0x0215 (s1.blockData arr blk) else s1
  let s3 := if !lost && old == endurance arr then s2.logSide sd 0x0217 (s2.blockData arr blk) else s2
  if !lost && old + 1 == 0xFFFFFF then s3.logSide sd 0x0216 (s3.blockData arr blk) else s3

/-! ### Content -/

/-- Whether all 72 bits of a double word read as one (R227). -/
def State.dwordErased (s : State) (p : Nat) : Bool :=
  let c := s.flashMark p
  if c ≥ 5 then undefOutcome c p == 3
  else c == 0 && (List.range 8).all (fun i => (Memory.find s.mem (p + i)).isNone)

/-- A mark put on a double word. -/
def State.markDword (s : State) (p c : Nat) : State := { s with flashMarks := s.flashMarks.put (p - p % 8) c }

/-- A fresh code for content that is undefined from now on. -/
def State.undefCode (s : State) : Nat × State := (s.freeCtr + 5, { s with freeCtr := s.freeCtr + 1 })

/-- The content of a double word undefined (R228). -/
def State.undefDword (s : State) (p : Nat) : State := s.undefCode.2.markDword p s.undefCode.1

/-- A block blank: nothing listed, nothing marked. -/
def State.blankBlock (s : State) (p : Nat) : State :=
  let s1 := s.forget p (p + 0x1000)
  { s1 with flashMarks := s1.flashMarks.filter (fun e => !(decide (p ≤ e.1) && decide (e.1 < p + 0x1000))) }

/-- The content of a block undefined (R229, R230). -/
def State.undefBlock (s : State) (p : Nat) : State :=
  let s1 := s.blankBlock p
  { s1.undefCode.2 with flashMarks := s1.flashMarks.put (p + 1) s1.undefCode.1 }

/-- A double word programmed: its bytes, and the mark of how well (R228). -/
def State.programDword (s : State) (p : Nat) (data : List Nat) (corr : Bool) : State :=
  let ones := data.all (fun b => b == 0xFF)
  (s.setBytes p data).markDword p (if ones then (if corr then 4 else 3) else b2n corr)

/-! ### Starting an operation (R225 to R227, R239) -/

/-- Whether protection refuses an operation in a block (R257, R266). -/
def State.blockProtected (s : State) (arr blk : Nat) : Bool :=
  if arr = 3 then s.mflashProtected (mflashRegion blk) else !s.regionWritable (protRegion arr blk)

/-- Whether a controller takes no operation now: one runs (R226), or the ladder has reached L5 (R239; the legal records
go on, log entry 10).  Either shows as REFUSED and completes without a fault; R239 names no flag (DESIGN CHOICE, log entry
129). -/
def State.flashClosed (s : State) (sd : Side) : Bool :=
  (s.flashOp sd).isSome || (sd == .app && decide (s.level ≥ 5))

/-- A starting write refused by protection: the bus fault and PROTERR (R225). -/
def State.refuseProtected (s : State) (sd : Side) (req addr : Nat) : State :=
  (s.raise (R.FLASHC.STATUS.PROTERR sd)).busFault sd req kindWrite causeProtWrite addr

/-- A program that starts, or is refused (R225 to R227). -/
def State.startProgram (s : State) (arr req a addr low high : Nat) : State :=
  let sd := arraySide arr
  if s.blockProtected arr (blockOf arr a) then s.refuseProtected sd req addr
  else if s.flashClosed sd then (s.raise (R.FLASHC.STATUS.REFUSED sd)).done 0
  else if !s.dwordErased (physOf sd a) then
    ((s.raise (R.FLASHC.STATUS.NOT_ERASED sd)).logSide sd 0x0212 (leBytes 4 a ++ [req])).done 0
  else
    let o : FlashOp :=
      { arr := arr, erase := false, addr := a, data := leBytes 4 low ++ leBytes 4 high, req := req, aborting := false }
    ((s.setFlashOp sd (some o)).wr (R.FLASHC.OP_ADDR.ADDR sd) a).done 0

/-- An erase that starts, or is refused (R225, R226). -/
def State.startErase (s : State) (arr req addr : Nat) : State :=
  let sd := arraySide arr
  let blk := blockOf arr addr
  if s.blockProtected arr blk then s.refuseProtected sd req addr
  else if s.flashClosed sd then (s.raise (R.FLASHC.STATUS.REFUSED sd)).done 0
  else
    let o : FlashOp := { arr := arr, erase := true, addr := blockBase arr blk, data := [], req := req, aborting := false }
    ((s.setFlashOp sd (some o)).wr (R.FLASHC.OP_ADDR.ADDR sd) (blockBase arr blk)).done 0

/-- The abort command (R230): it acts on an erase in progress, in whichever array of its controller the sequence was written
(DESIGN CHOICE, log entry 130), and on nothing else. -/
def State.flashAbort (s : State) (sd : Side) : State :=
  match s.flashOp sd with
  | none => s
  | some o => if o.erase then s.setFlashOp sd (some { o with aborting := true }) else s

/-! ### Command sequences (R223, R224) -/

/-- A sequence cancelled by a wrong write of its requester. -/
def State.cancelSeq (s : State) (arr req addr : Nat) : State :=
  let sd := arraySide arr
  let s1 := s.setSeq arr none
  (if s1.flag (R.FLASHC.STATUS.SEQERR sd) then s1
    else (s1.raise (R.FLASHC.STATUS.SEQERR sd)).logSide sd 0x0213 (leBytes 4 addr ++ [req])).done 0

/-- A write with no effect. -/
def State.strayWrite (s : State) (arr : Nat) : State := (s.raise (R.FLASHC.STATUS.STRAY (arraySide arr))).done 0

/-- The commands an array's decoder takes at write 3; MFLASH has no protection entry (R266). -/
def commandsOf (arr : Nat) : List Nat := if arr = 3 then [0x11, 0x22, 0x0F] else [0x11, 0x22, 0x44, 0x0F]

/-- Write 5 of a protection entry taken: its check waits for its turn in the URGENT context, and the write until the check
ends (R259). -/
def State.startEntry (s : State) (req mask : Nat) : State :=
  (({ s with protEntry := some (req, mask) } : State).submitEngine 5 1).syncFlash .app

/-- The check of a protection entry has ended, and with it write 5 (R259, R260). -/
def State.endEntry (s : State) : State :=
  match s.protEntry with
  | none => s
  | some e => ((({ s with protEntry := none } : State).protectionEntry e.2).syncFlash .app).done 0

/-- The next write of a sequence from its requester (Table FLASH-3); of the sequence writes only bits [7:0] are compared
(R223). -/
def State.seqWrite (s : State) (q : FlashSeq) (size addr data : Nat) : State :=
  let b := flashBase q.arr
  let sd := arraySide q.arr
  let byte := data % 256
  if size ≠ 4 then s.cancelSeq q.arr q.req addr
  else if q.step = 1 then
    if addr = b + 0x1554 ∧ byte = 0x93 then (s.setSeq q.arr (some { q with step := 2 })).done 0
    else s.cancelSeq q.arr q.req addr
  else if q.step = 2 then
    if addr = b + 0x2AA4 ∧ (commandsOf q.arr).contains byte then
      if byte = 0x0F then ((s.setSeq q.arr none).flashAbort sd).done 0
      else (s.setSeq q.arr (some { q with step := 3, cmd := byte })).done 0
    else s.cancelSeq q.arr q.req addr
  else if q.cmd = 0x22 then (s.setSeq q.arr none).startErase q.arr q.req addr
  else if q.cmd = 0x44 then
    if q.step = 3 then
      if addr = b + 0x1554 then (s.setSeq q.arr (some { q with step := 4, low := data % 512 })).done 0
      else s.cancelSeq q.arr q.req addr
    else if addr = b + 0x2AA4 ∧ byte = 0xC3 then (s.setSeq q.arr none).startEntry q.req q.low
    else s.cancelSeq q.arr q.req addr
  else if q.step = 3 then
    if addr % 8 = 0 then (s.setSeq q.arr (some { q with step := 4, addr := addr, low := data })).done 0
    else s.cancelSeq q.arr q.req addr
  else if addr = q.addr + 4 then (s.setSeq q.arr none).startProgram q.arr q.req q.addr addr q.low data
  else s.cancelSeq q.arr q.req addr

/-- The sequence of a requester that waits for its target in another array of the same controller (R223, R224). -/
def State.awaitsTarget (s : State) (arr req : Nat) : Option FlashSeq :=
  s.flashSeqs.find? (fun q => q.arr != arr && arraySide q.arr == arraySide arr && q.req == req && decide (3 ≤ q.step) &&
    (q.cmd == 0x11 || q.cmd == 0x22))

/-- A write to a flash array whose decoder holds no sequence of its requester (R224): a target outside the array of the
sequence that awaits one cancels that; write 1 binds; any other write is stray. -/
def State.unboundWrite (s : State) (arr req size addr data : Nat) : State :=
  match s.awaitsTarget arr req with
  | some q => s.cancelSeq q.arr req addr
  | none =>
    if s.flashSeq arr = none ∧ size = 4 ∧ addr = flashBase arr + 0x2AA4 ∧ data % 256 = 0x6C then
      (s.setSeq arr (some { arr := arr, req := req, step := 1, cmd := 0, addr := 0, low := 0 })).done 0
    else s.strayWrite arr

/-- A write to a flash array (R224): it advances, binds or cancels a sequence, or is stray.  `addr` has the active-boot
window resolved. -/
def State.flashWrite (s : State) (arr req size addr data : Nat) : State :=
  match s.flashSeq arr with
  | some q => if q.req = req then s.seqWrite q size addr data else s.unboundWrite arr req size addr data
  | none => s.unboundWrite arr req size addr data

/-- FLASH_ABORT (R230): the abort command reaches a controller of a domain that is On; UNDER holds it (R61, R243). -/
def execFlashAbort (sd : Side) (s : State) : Host.Outcome State Fault Refusal :=
  if s.railPowered sd && !s.flag (R.PWR.PACE_STATUS.UNDER sd) then .next (s.flashAbort sd) else .next s

/-- PROTECTION_ENTRY (R259, R260): write 5 of a protection entry that names the regions of `mask`; it ends the sequence
of its requester in any array.  One entry is checked at a time. -/
def execProtectionEntry (req mask : Nat) (s : State) : Host.Outcome State Fault Refusal :=
  if s.power.app.st ≠ .on ∨ s.protEntry.isSome = true then .next s
  else
    .next (({ s with flashSeqs := s.flashSeqs.filter (fun q => !(q.req == req && q.cmd == 0x44 && q.arr != 3)) } :
      State).startEntry req (mask % 512))

/-! ### Ends of operations -/

/-- The end of a program (R228, R233): `verify` 0 all bits match after `pulses`, 1 one bit differs after pulse 24 and
ECC decodes the data, else two or more differ. -/
def State.programDone (s : State) (sd : Side) (pulses verify : Nat) : State :=
  match s.flashOp sd with
  | none => s
  | some o =>
    if o.erase then s
    else
      let n := if verify = 0 then min 24 pulses else 24
      let p := physOf sd o.addr
      let s1 := ((s.setFlashOp sd none).wr (R.FLASHC.LAST_PULSES.PROG sd) n).raise (R.FLASHC.STATUS.DONE sd)
      let d := leBytes 4 o.addr ++ [o.req]
      let s2 :=
        if verify = 0 then s1.programDword p o.data false
        else if verify = 1 then
          ((s1.programDword p o.data true).raise (R.FLASHC.STATUS.VERIFY_CORR sd)).logSide sd 0x0203 d
        else ((s1.undefDword p).raise (R.FLASHC.STATUS.PFAIL sd)).logSide sd 0x0200 d
      if n > 12 then s2.setTired o.arr (blockOf o.arr o.addr) else s2

/-- The end of an erase (R229, R232, R233): blank after `pulses`, or not blank after pulse 8; `header` says whether the
header itself checked blank. -/
def State.eraseDone (s : State) (sd : Side) (pulses : Nat) (blank header : Bool) : State :=
  match s.flashOp sd with
  | none => s
  | some o =>
    if !o.erase then s
    else
      let blk := blockOf o.arr o.addr
      let n := if blank then min 8 pulses else 8
      let p := physOf sd o.addr
      let s1 := ((s.setFlashOp sd none).wr (R.FLASHC.LAST_PULSES.ERASE sd) n).raise (R.FLASHC.STATUS.DONE sd)
      let s2 := if blank then s1.blankBlock p else (s1.undefBlock p).raise (R.FLASHC.STATUS.EFAIL sd)
      let s3 := if n > 6 then s2.setTired o.arr blk else s2
      let s4 := if blank || header then s3.writeHeader o.arr blk else s3.loseHeader o.arr blk
      if blank then s4 else s4.logSide sd 0x0201 (s4.blockData o.arr blk)

/-- An erase stopped: the block and its header are undefined (R230). -/
def State.stopErase (s : State) (sd : Side) (o : FlashOp) : State :=
  ((s.setFlashOp sd none).undefBlock (physOf sd o.addr)).loseHeader o.arr (blockOf o.arr o.addr)

/-- A flash operation that a reset meets (R135, R238, R384): a program that has begun completes, in one of the ways of R228,
and an erase stops.  In the dark, as power is lost, the double word may also read erased or uncorrectable (R252).  Which way
a program ends is free. -/
def State.cutFlash (s : State) (sd : Side) (dark : Bool) : State :=
  match s.flashOp sd with
  | none => s
  | some o =>
    if o.erase then s.stopErase sd o
    else
      let x := s.fresh
      let k := x.1 % (if dark then 5 else 3)
      if k = 3 then x.2.setFlashOp sd none
      else if k = 4 then (x.2.setFlashOp sd none).markDword (physOf sd o.addr) 2
      else x.2.programDone sd (x.1 / 5 % 24 + 1) k

/-- The three sequence writes of a command, by a requester in an array (Table FLASH-3). -/
def State.sequence (s : State) (arr req cmd : Nat) : State :=
  let b := flashBase arr
  ((s.flashWrite arr req 4 (b + 0x2AA4) 0x6C).flashWrite arr req 4 (b + 0x1554) 0x93).flashWrite arr req 4 (b + 0x2AA4) cmd

/-- An aborted erase stops (R230). -/
def State.eraseStopped (s : State) (sd : Side) : State :=
  match s.flashOp sd with
  | none => s
  | some o =>
    if o.erase && o.aborting then
      let d := s.blockData o.arr (blockOf o.arr o.addr)
      ((s.stopErase sd o).raise (R.FLASHC.STATUS.ABORTED sd)).logSide sd 0x0214 d
    else s

/-! ### Reading with ECC (R219, R220) -/

/-- What a read of a double word meets: 0 nothing, 1 a correction, 2 an uncorrectable double word. -/
def State.eccOf (s : State) (p : Nat) : Nat :=
  let c := s.flashMark p
  if c ≥ 5 then (if undefOutcome c p = 1 then 1 else if undefOutcome c p = 2 then 2 else 0)
  else if c = 1 ∨ c = 4 then 1
  else if c = 2 then 2
  else 0

/-- Further bits of a stored double word found in error (R219): they stay until the block is erased (log entry 11).  One in
all is corrected, two or more are not. -/
def State.damage (s : State) (p bits : Nat) : State :=
  let c := s.flashMark p
  let n := bits + b2n (c == 1 || c == 4)
  if bits = 0 ∨ c ≥ 5 ∨ c = 2 then s
  else if n ≥ 2 then s.markDword p 2
  else s.markDword p (if c = 3 then 4 else 1)

/-- The record of an ECC event (R220). -/
def State.recordEcc (s : State) (sd : Side) (req : Nat) (fetch : Bool) (addr e : Nat) : State :=
  let a := addr - addr % 8
  let cor := s.flag (R.FLASHC.ECC_STATUS.COR sd)
  let unc := s.flag (R.FLASHC.ECC_STATUS.UNCOR sd)
  let s1 :=
    if (!cor && !unc) || (e == 2 && !unc) then
      ((s.wr (R.FLASHC.ECC_ADDR.ADDR sd) a).wr (R.FLASHC.ECC_STATUS.REQ sd) req).wrBool (R.FLASHC.ECC_STATUS.FETCH sd) fetch
    else s
  let d := leBytes 4 a ++ [req, b2n fetch]
  if e = 1 then
    let s2 := (s1.count (R.FLASHC.ECC_STATUS.COR_COUNT sd) 1).raise (R.FLASHC.ECC_STATUS.COR sd)
    if cor then s2 else s2.logSide sd 0x0210 d
  else if e = 2 then
    let s2 := (s1.count (R.FLASHC.ECC_STATUS.UNCOR_COUNT sd) 1).raise (R.FLASHC.ECC_STATUS.UNCOR sd)
    if unc then s2 else s2.logSide sd 0x0211 d
  else s

/-- A read of flash at an address of a side: the record of what its double word meets. -/
def State.readFlashAt (s : State) (sd : Side) (req : Nat) (fetch : Bool) (addr : Nat) : State :=
  s.recordEcc sd req fetch addr (s.eccOf (physOf sd addr))

/-- `n` double words of flash read from an address upwards, each recorded once. -/
def State.readRun (s : State) (sd : Side) (req : Nat) : Nat → Nat → State
  | 0, _ => s
  | n + 1, a => ((if (flashArray sd a).isSome then s.readFlashAt sd req false a else s).readRun sd req n (a + 8))

/-- `n` bytes of flash read at an address of a side: every double word that holds some of them is read once (R219, R220). -/
def State.readSpan (s : State) (sd : Side) (req a n : Nat) : State :=
  if n = 0 then s else s.readRun sd req ((a + n - 1) / 8 - a / 8 + 1) (a - a % 8)

/-- Whether any of `n` bytes at an address lies in a busy array, which no requester can read (R221). -/
def State.busyIn (s : State) (sd : Side) (a n : Nat) : Bool :=
  n != 0 &&
    [a, a + n - 1].any (fun x => match flashArray sd x with
      | none => false
      | some arr => s.arrayBusy arr)

end Sys2Proof.Machine
end

