-- ==== Sys2Proof/Machine/Radio.lean ====
section
/-! DEFINITION. The transceiver and the antenna tuner (ch. 15): carrier, bands and power; when the synthesiser calibrates;
mismatch, DIRTY bands and the retune search; and the duty and energy checks every transmission passes (ch. 03, 16). -/

namespace Sys2Proof.Machine

open Sys2Proof

/-! ### Carrier and bands (R389, R390, R447)

A carrier is kept as its frequency in Hz times 2^19, which is W times 26,000,000. -/

/-- A carrier at a whole number of Hz. -/
def hz (f : Nat) : Nat := f * 524288

/-- A signed field. -/
def State.srd (s : State) (f : Fld) : Int := sInt f.width (s.rd f)

/-- W of the committed configuration with a channel (R389). -/
def State.carrierW (s : State) (chan : Nat) : Nat :=
  ((s.rd R.RADIO.FREQ_BASE.WORD : Int) + (chan * s.rd R.RADIO.CHAN.SPACE : Nat) + s.srd R.RADIO.FOFS.OFS).toNat

/-- The carrier of the committed configuration with a channel. -/
def State.carrier (s : State) (chan : Nat) : Nat := s.carrierW chan * 26000000

/-- The carrier of the committed channel. -/
def State.ownCarrier (s : State) : Nat := s.carrier (s.rd R.RADIO.CHAN.CHAN)

/-- The band of a carrier (Table RF-1). -/
def bandOf (f : Nat) : Option Nat :=
  if hz 169400000 ≤ f ∧ f ≤ hz 169475000 then some 0
  else if hz 433050000 ≤ f ∧ f ≤ hz 434790000 then some 1
  else if hz 863000000 ≤ f ∧ f ≤ hz 876000000 then some 2
  else if hz 902000000 ≤ f ∧ f ≤ hz 928000000 then some 3
  else none

/-- The sub-band of a carrier (Table LINK-6). -/
def subBand (f : Nat) : Option Nat :=
  if f < hz 863000000 ∨ hz 876000000 < f then none
  else if f < hz 865000000 then some 0
  else if f < hz 868000000 then some 1
  else if f < hz 868600000 then some 2
  else if f < hz 868700000 then some 7
  else if f < hz 869200000 then some 3
  else if f < hz 869400000 then some 7
  else if f < hz 869650000 then some 4
  else if f < hz 869700000 then some 7
  else if f < hz 870000000 then some 5
  else if f < hz 875600000 then some 6
  else some 7

/-- The rate in force (R391). -/
def State.rate (s : State) : Nat := max 2400 (min 300000 (s.rd R.RADIO.MOD.RATE))

/-- An operation whose carrier lies outside every band is refused (R390). -/
def State.refuseRange (s : State) (freq : Nat) : State :=
  (s.raise R.RADIO.EVENTS.RANGE).log 0x0444 (leBytes 4 (freq / 26000000))

/-! ### Power (R402 to R404) -/

/-- A number held between two bounds. -/
def clampInt (lo hi v : Int) : Int := max lo (min hi v)

/-- Whether a transmission selected for the external PA uses it (R404). -/
def State.usesExt (s : State) (sel : Bool) : Bool := sel && s.flag R.RADIO.EXTPA_CFG.EN && decide (s.level ≤ 2)

/-- The power of a transmission: `own` replaces the committed setting. -/
def State.txPower (s : State) (ext : Bool) (own : Option Int) : Int :=
  if ext then clampInt (-10) 10 (own.getD (s.srd R.RADIO.EXTPA_CFG.DRIVE))
  else
    let p := clampInt (-10) 16 (own.getD (s.srd R.RADIO.TXPWR.DBM))
    if s.level ≥ 2 then min 10 p else p

/-- Whether the ladder caps a transmission (R403), and whether it blocks the external PA that it is selected for (R404). -/
def State.caps (s : State) (sel : Bool) (own : Option Int) : Bool × Bool :=
  (decide (s.level ≥ 2) && !s.usesExt sel && decide (clampInt (-10) 16 (own.getD (s.srd R.RADIO.TXPWR.DBM)) > 10),
    sel && s.flag R.RADIO.EXTPA_CFG.EN && decide (s.level ≥ 3))

/-- CAPPED and EXT_BLOCKED for a transmission. -/
def State.showCaps (s : State) (c : Bool × Bool) : State :=
  (s.wrBool R.RADIO.STATUS.CAPPED c.1).wrBool R.RADIO.STATUS.EXT_BLOCKED c.2

/-- P_RES in mW (R74, Table SUP-2). -/
def State.pRes (s : State) (ext : Bool) (dbm : Int) : Nat :=
  let p := if dbm > 14 then 138 else if dbm > 10 then 96 else if dbm > 5 then 60 else if dbm > 0 then 39 else 25
  if ext then p + 10 * s.rd R.PWR.RES_CAP.EXT_PWR else p

/-! ### Energy admission (R71, R74 to R77)

An air time is a fraction `num / den` of microseconds. -/

/-- VMAX in mV (R71, R73). -/
def State.vMax (s : State) : Nat := 2400 + 50 * min 18 (s.rd R.PWR.RES_CTRL.VMAX)

/-- VSTOP in mV (R75). -/
def State.vStop (s : State) : Nat := 1900 + 50 * min 10 (s.rd R.PWR.RES_CTRL.VSTOP)

/-- C in 0.1 mF (R79). -/
def State.resCap (s : State) : Nat := max 22 (min 10000 (s.rd R.PWR.RES_CAP.CAP))

/-- Whether V_TOP is set by VBAT (R71). -/
def State.headroom (s : State) (vbat : Nat) : Bool := decide (vbat < s.vMax + 200)

/-- V_TOP in mV (R71). -/
def State.vTop (s : State) (vbat : Nat) : Nat := min s.vMax (vbat - 200)

/-- Whether a voltage is at least V_admit (R75): 16 C (V² − VSTOP²) against 20 P (t + 100 µs) (16 + MARGIN), both times
the denominator of the air time. -/
def State.reachesAdmit (s : State) (p num den v : Nat) : Bool :=
  decide (16 * s.resCap * v ^ 2 * den ≥
    16 * s.resCap * s.vStop ^ 2 * den + 20 * p * (num + 100 * den) * (16 + s.rd R.PWR.RES_CTRL.MARGIN))

/-- The outcomes of energy admission. -/
inductive Admission where
  | admitted
  | tooBig
  | headroom
  | wait
  deriving DecidableEq, Repr

/-- Energy admission of an attempt (R75 to R77); a BST420C has no reservoir path and admits (R3).  An attempt whose VRES
already reaches V_admit is admitted though V_admit exceeds V_TOP for want of headroom (DESIGN CHOICE, log entry 131). -/
def State.admission (s : State) (p num den vres vbat : Nat) : Admission :=
  if s.variant == .c then .admitted
  else if !s.reachesAdmit p num den s.vMax then .tooBig
  else if s.reachesAdmit p num den vres then .admitted
  else if s.headroom vbat && !s.reachesAdmit p num den (s.vTop vbat) then .headroom
  else .wait

/-- The records of a refusal under R76, at which HEADROOM reads 1. -/
def State.showAdmission (s : State) (a : Admission) : State :=
  match a with
  | .tooBig => (s.raise R.PWR.RES_STATUS.TOO_BIG).log 0x0103 []
  | .headroom => (s.raise R.PWR.RES_STATUS.HEADROOM).log 0x0107 []
  | .admitted => s
  | .wait => s

/-! ### The duty budget (R448 to R451) -/

/-- The regulatory value of a sub-band, in 0.1 s. -/
def regulatory (n : Nat) : Nat :=
  if n = 0 ∨ n = 3 ∨ n = 7 then 36 else if n = 4 then 3600 else 360

/-- LIMIT of a sub-band, in 0.1 s (R450). -/
def State.dutyLimit (s : State) (n : Nat) : Nat :=
  min (min (regulatory n) (s.dutyLimitRaw n)) (s.rd (R.LINK.DUTY_CAP.CAP n))

/-- LIMIT in microseconds. -/
def State.limitUs (s : State) (n : Nat) : Nat := 100000 * s.dutyLimit n

/-- The acknowledgement reserve in microseconds. -/
def State.reserveUs (s : State) (n : Nat) : Nat := min (10000 * s.rd R.LINK.ACKCFG.ACK_RSV) (s.limitUs n / 4)

/-- The buckets of a sub-band. -/
def State.buckets (s : State) (n : Nat) : List Nat := s.link.duty.getD n []

/-- USED of a sub-band in microseconds. -/
def State.usedUs (s : State) (n : Nat) : Nat := (s.buckets n).sum

/-- A charge added to the newest bucket of the sub-band of a carrier (R448). -/
def State.charge (s : State) (freq us : Nat) : State :=
  match subBand freq with
  | none => s
  | some n =>
    let b := s.buckets n
    let b' := b.dropLast ++ [b.getLastD 0 + us]
    { s with link := { s.link with duty := s.link.duty.set n b' } }

/-- An air time in whole microseconds; the spec leaves its rounding open. -/
def airUs (num den : Nat) : Nat := (openDiv 8 num den).toNat

/-- Whether a transmission other than an acknowledgement fits (R451). -/
def State.dutyFits (s : State) (n c : Nat) : Bool := decide (s.usedUs n + c + s.reserveUs n ≤ s.limitUs n)

/-- The number of ticks after which bucket drops alone let a charge fit, at most `m` (R451). -/
def State.ticksToFit (s : State) (n c m : Nat) : Option Nat :=
  (List.range (m + 1)).find? (fun i => decide (((s.buckets n).drop i).sum + c + s.reserveUs n ≤ s.limitUs n))

/-- The outcomes of the duty check. -/
inductive DutyCheck where
  | passes
  | refused
  | waits (ticks : Nat)
  deriving DecidableEq, Repr

/-- DUTY_WAIT_MAX in minutes. -/
def State.dutyWaitMax (s : State) : Nat := min 60 (s.rd R.LINK.TXCFG.DUTY_WAIT_MAX)

/-- The duty check of an attempt (R451). -/
def State.dutyCheck (s : State) (freq c : Nat) : DutyCheck :=
  match subBand freq with
  | none => .passes
  | some n =>
    if s.dutyFits n c then .passes
    else if c + s.reserveUs n > s.limitUs n then .refused
    else
      match s.ticksToFit n c s.dutyWaitMax with
      | none => .refused
      | some t => .waits t

/-- VRES and VBAT as measured: the figures of RES_STATUS. -/
def State.measureReservoir (s : State) (vres vbat : Nat) : State :=
  let s1 := ({ s with supply := { s.supply with vbat := vbat } } : State).wr R.PWR.RES_STATUS.VRES_MV (min 4095 vres)
  (s1.wrBool R.PWR.RES_STATUS.HEADROOM (s1.headroom vbat)).wrBool R.PWR.RES_STATUS.FULL (decide (s1.vTop vbat ≤ vres))

/-! ### Calibration (R398 to R400) -/

/-- The radio's state replaced. -/
def State.setRadio (s : State) (r : Radio) : State := { s with radio := r }

/-- Whether an operation at a carrier calibrates first (R398). -/
def State.needsCal (s : State) (freq : Nat) : Bool :=
  match s.radio.calAt with
  | none => true
  | some (f, t) =>
    !s.flag R.RADIO.STATUS.CAL_VALID || f != freq || decide (max (s.srd R.RADIO.STATUS.TEMP - t) (t - s.srd R.RADIO.STATUS.TEMP) > 15)

/-- The committed configuration as an operation takes it (Tables RF-9 and RF-10). -/
def State.opConfig (s : State) : OpConfig :=
  { tuner := s.flag R.TUNER.CFG.EN, auto := s.flag R.TUNER.CFG.AUTO, rlThr := min 50 (s.rd R.TUNER.CFG.RL_THR)
    failThr := min 50 (s.rd R.TUNER.CFG.FAIL_THR), misN := max 1 (min 8 (s.rd R.TUNER.CFG.MIS_N))
    maxProbes := max 8 (s.rd R.TUNER.CFG.MAX_PROBES), initCs := s.rd R.TUNER.CFG2.INIT_CS
    initCp := s.rd R.TUNER.CFG2.INIT_CP, swGap := max 1 (s.rd R.RADIO.EXTPA_TIME.SW_GAP)
    paLead := max 1 (s.rd R.RADIO.EXTPA_TIME.PA_LEAD), paLag := max 1 (min 5 (s.rd R.RADIO.EXTPA_TIME.PA_LAG))
    lnaLead := max 1 (s.rd R.RADIO.EXTPA_TIME.LNA_LEAD), lnaUse := s.flag R.RADIO.EXTPA_CFG.LNA_USE
    pol := s.rd R.RADIO.EXTPA_CFG.POL, modeTx := s.flag R.RADIO.EXTPA_CFG.MODE_TX
    modeByp := s.flag R.RADIO.EXTPA_CFG.MODE_BYP }

/-- An operation latches its configuration (R401). -/
def State.latchOp (s : State) : State := s.setRadio { s.radio with op := s.opConfig }

/-- An operation's start: its configuration, the die temperature measured, and its band (R401, Table RF-9). -/
def State.opStart (s : State) (freq : Nat) (temp : Int) : State :=
  (s.latchOp.wr R.RADIO.STATUS.TEMP (uInt 8 temp)).wr R.RADIO.STATUS.BAND ((bandOf freq).getD 0)

/-! ### The front-end pins (R405 to R408, Table RF-7)

A move is a time in microseconds with the levels from then on. -/

/-- The levels at rest (Table RF-6). -/
def frontIdle : FrontPins := { pa := false, gain := false, tx := false, lna := false }

/-- The levels while the transmit path is selected, through the external PA's gain path or not. -/
def frontSend (ext : Bool) : FrontPins := { frontIdle with tx := true, gain := ext }

/-- Moves made: the pins stand where the last one takes them. -/
def State.movePins (s : State) (m : List (Nat × FrontPins)) : State :=
  s.setRadio { s.radio with pins := (m.getLast?.map Prod.snd).getD s.radio.pins, moves := m }

/-- The moves at the start of a transmission, from that start (steps 1 and 2). -/
def OpConfig.startMoves (c : OpConfig) (ext : Bool) : List (Nat × FrontPins) :=
  if ext then [(0, frontSend true), (c.swGap, { frontSend true with pa := true })] else [(0, frontSend false)]

/-- From the start of a transmission to its first bit on air: t_on or t_on,ext (Table RF-5). -/
def OpConfig.leadTime (c : OpConfig) (ext : Bool) : Nat := (if ext then c.swGap + c.paLead else 0) + 40

/-- The moves at the end of a transmission, from its last bit (steps 5 to 9): the ramp-down of 40 µs, then the pins; the
external LNA goes on LNA_LEAD after the external PA's path is left, or with the receive path where the internal PA sent
(DEDUCED, log entry 136), when a reception follows. -/
def OpConfig.endMoves (c : OpConfig) (ext rx : Bool) : List (Nat × FrontPins) :=
  let lna := rx && c.lnaUse
  if ext then
    let off := 40 + c.paLag
    [(off, frontSend true), (off + c.swGap, frontIdle)] ++
      (if lna then [(off + c.swGap + c.lnaLead, { frontIdle with lna := true })] else [])
  else [(40, { frontIdle with lna := lna })]

/-- The moves of a whole transmission with `us` on air. -/
def OpConfig.burstMoves (c : OpConfig) (ext rx : Bool) (us : Nat) : List (Nat × FrontPins) :=
  c.startMoves ext ++ (c.endMoves ext rx).map (fun m => (m.1 + c.leadTime ext + us, m.2))

/-- The receive path selected at the start of a reception, with the external LNA where it is used; the receiver is enabled
LNA_LEAD later (R407). -/
def OpConfig.receiveMoves (c : OpConfig) : List (Nat × FrontPins) := [(0, { frontIdle with lna := c.lnaUse })]

/-- RADIO.STATUS.STATE. -/
def State.radioState (s : State) (v : Nat) : State := (s.setRadio { s.radio with turn := none }).wr R.RADIO.STATUS.STATE v

/-- The radio at rest, its pins idle: no operation, or the end of a reception (R407, R408). -/
def State.radioRest (s : State) : State := (s.radioState 0).movePins [(0, frontIdle)]

/-- The receiver on (R407). -/
def State.radioListens (s : State) : State := (s.radioState 2).movePins s.radio.op.receiveMoves

/-- A transmission starts, in STATUS.STATE `v` (R405, R406). -/
def State.radioSends (s : State) (v : Nat) (ext : Bool) : State := (s.radioState v).movePins (s.radio.op.startMoves ext)

/-- The last bit of a transmission is on air: TURN until the pins have moved, then the receiver or rest (Table RF-7). -/
def State.radioTurns (s : State) (ext rx : Bool) : State :=
  let s1 := (s.radioState 4).movePins (s.radio.op.endMoves ext rx)
  s1.setRadio { s1.radio with turn := some (if rx then 2 else 0) }

/-- A whole transmission outside an attempt, `us` on air, with its turn. -/
def State.radioBursts (s : State) (ext rx : Bool) (us : Nat) : State :=
  let s1 := (s.radioState 4).movePins (s.radio.op.burstMoves ext rx us)
  s1.setRadio { s1.radio with turn := some (if rx then 2 else 0) }

/-- The turn of the radio is over. -/
def State.radioTurned (s : State) : State :=
  match s.radio.turn with
  | none => s
  | some v => s.radioState v

/-- A calibration starts. -/
def State.startCal (s : State) (freq : Nat) (c : CalFor) : State :=
  let s1 := s.setRadio { s.radio with calAt := some (freq, s.srd R.RADIO.STATUS.TEMP), calFor := some c, calRetry := false }
  (((s1.count R.RADIO.COUNTS.CALS 1).clear R.RADIO.STATUS.CAL_VALID).clear R.RADIO.STATUS.LOCKED).wr R.RADIO.STATUS.STATE 1

/-- A calibration locks. -/
def State.calLocks (s : State) : State :=
  ((s.setRadio { s.radio with calFor := none }).raise R.RADIO.STATUS.CAL_VALID).raise R.RADIO.STATUS.LOCKED

/-- The first time-out of a calibration: it is retried (R399). -/
def State.calAgain (s : State) : State :=
  (s.setRadio { s.radio with calRetry := true }).count R.RADIO.COUNTS.CALS 1

/-- The second: the operation is refused (R399). -/
def State.calFails (s : State) : State :=
  ((((s.setRadio { s.radio with calFor := none, calAt := none }).raise R.RADIO.EVENTS.CAL_FAIL).clear
    R.RADIO.STATUS.CAL_VALID).wr R.RADIO.STATUS.STATE 0).log 0x0441 []

/-- Loss of lock (R400). -/
def State.lockLost (s : State) : State :=
  (((s.raise R.RADIO.EVENTS.UNLOCK).count R.RADIO.COUNTS.UNLOCKS 1).clear R.RADIO.STATUS.CAL_VALID).clear
    R.RADIO.STATUS.LOCKED |>.log 0x0440 []

/-- What is lost when HFXO stops (R397); the front-end pins are at their idle levels by then (R396, R408). -/
def State.hfxoStops (s : State) : State :=
  let s1 := (s.setRadio { s.radio with calAt := none, calFor := none, calRetry := false, turn := none }).movePins [(0, frontIdle)]
  let s2 := [R.RADIO.STATUS.STATE, R.RADIO.STATUS.LOCKED, R.RADIO.STATUS.CAL_VALID, R.RADIO.STATUS.CAPPED,
    R.RADIO.STATUS.EXT_BLOCKED, R.RADIO.STATUS.BAND, R.RADIO.STATUS.TEMP, R.TUNER.STATUS.CS, R.TUNER.STATUS.CP,
    R.PWR.MODE_STATUS.RF_READY, R.BRIDGE.CLKSTAT.HFXO_RUN .app].foldl
    State.clear s1
  (s2.wr R.RADIO.RSSI.NOW 0xFF).wr R.RADIO.RSSI.LAST 0xFF

/-! ### The tuner (R410 to R416) -/

/-- Whether the tuner is in use. -/
def State.tunerOn (s : State) : Bool := s.radio.op.tuner

/-- The codes an operation in a band uses: its memory, or INIT (R410). -/
def State.tunerCodes (s : State) (b : Nat) : Nat × Nat :=
  if s.tunerOn && s.flag (R.TUNER.BAND.VALID b) then (s.rd (R.TUNER.BAND.CS b), s.rd (R.TUNER.BAND.CP b))
  else (s.radio.op.initCs, s.radio.op.initCp)

/-- The codes applied at an operation's start. -/
def State.applyCodes (s : State) (b : Nat) : State :=
  (s.wr R.TUNER.STATUS.CS (s.tunerCodes b).1).wr R.TUNER.STATUS.CP (s.tunerCodes b).2

/-- DIRTY and HELD as STATUS shows them while band `b` is that of the next transmission (Table RF-10). -/
def State.showDirtyAt (s : State) (b : Nat) : State :=
  (s.wrBool R.TUNER.STATUS.DIRTY (s.radio.retuneCmd || s.radio.dirty.contains b)).wrBool R.TUNER.STATUS.HELD
    (!s.radio.held.isEmpty)

/-- The same with no frame waiting: the next transmission is taken to use the committed carrier (DEDUCED, log entry 137). -/
def State.showDirty (s : State) : State := s.showDirtyAt ((bandOf s.ownCarrier).getD 4)

/-- Whether a band that is next has no codes of its own yet, which asks for a retune (R412). -/
def State.firstTune (s : State) (b : Nat) : Bool :=
  decide (b < 4) && s.flag R.TUNER.CFG.EN && s.flag R.TUNER.CFG.AUTO && !s.flag (R.TUNER.BAND.VALID b) && decide (s.level ≤ 2)

/-- A band marked DIRTY. -/
def State.markDirty (s : State) (b : Nat) : State :=
  (s.setRadio { s.radio with dirty := if s.radio.dirty.contains b then s.radio.dirty else s.radio.dirty ++ [b] }).showDirty

/-- Whether a retune precedes the next transmission in a band (R412, R413). -/
def State.retuneDue (s : State) (b : Nat) : Bool :=
  s.tunerOn && decide (s.level ≤ 2) &&
    (s.radio.dirty.contains b || s.radio.retuneCmd || (s.radio.op.auto && !s.flag (R.TUNER.BAND.VALID b)))

/-- A retune of a band begins: a CMD.RETUNE written before it is taken as its mark, one written during it stands (R424). -/
def State.takeRetune (s : State) (b : Nat) : State :=
  ((s.markDirty b).setRadio { (s.markDirty b).radio with retuneCmd := false }).showDirty

/-- A mismatch that reaches MIS_N (R412): the band is DIRTY, or its trigger held within RETUNE_MIN. -/
def State.misTrigger (s : State) (b : Nat) : State :=
  if !s.radio.op.auto || decide (s.level ≥ 3) || decide (s.rd R.TUNER.STATUS.MIS_RUN < s.radio.op.misN) then s
  else if s.radio.recent.contains b then
    (s.setRadio { s.radio with held := s.radio.held.filter (fun x => x != b) ++ [b] }).showDirty
  else s.markDirty b

/-- The return loss of a transmission (R411). -/
def State.measureLoss (s : State) (b rl : Nat) : State :=
  let s1 := s.wr R.TUNER.STATUS.LAST_RL (min 50 rl)
  let s2 := if s1.rd R.TUNER.STATUS.BAND = b then s1 else (s1.wr R.TUNER.STATUS.BAND b).clear R.TUNER.STATUS.MIS_RUN
  if min 50 rl < s.radio.op.rlThr then
    let run := s2.rd R.TUNER.STATUS.MIS_RUN
    let s3 := ((s2.count R.TUNER.STATUS.MIS_RUN 1).count R.TUNER.COUNTS.MISMATCHES 1).raise R.TUNER.EVENTS.MISMATCH
    (if run = 0 then s3.log 0x0452 [] else s3).misTrigger b
  else s2.clear R.TUNER.STATUS.MIS_RUN

/-- TUNER_RETUNE_CMD (R412). -/
def execTunerRetuneCmd (s : State) : Host.Outcome State Fault Refusal :=
  .next (s.setRadio { s.radio with retuneCmd := true }).showDirty

/-- CMD.FORGET (R416). -/
def State.tunerForget (s : State) : State := forEach 4 (fun b a => a.clear (R.TUNER.BAND.VALID b)) s

/-- TUNER_FORGET (R416). -/
def execTunerForget (s : State) : Host.Outcome State Fault Refusal := .next s.tunerForget

/-- RETUNE_HOLD_END (R412): RETUNE_MIN has passed since the band's last retune. -/
def execRetuneHoldEnd (band : Nat) (s : State) : Host.Outcome State Fault Refusal :=
  let s1 := s.setRadio { s.radio with recent := s.radio.recent.filter (fun b => b != band) }
  if s.radio.held.contains band then
    .next ((s1.setRadio { s1.radio with held := s1.radio.held.filter (fun b => b != band) }).markDirty band)
  else .next s1

/-- The search of R413: codes, the best return loss, the losses still to be measured, and the probes made. -/
structure Search where
  cs : Nat
  cp : Nat
  best : Nat
  losses : List Nat
  probes : Nat
  full : Bool
  deriving DecidableEq, Repr

/-- A code moved within 0 to 63. -/
def moveCode (c : Nat) (up : Bool) (k : Nat) : Nat := if up then min 63 (c + k) else c - k

/-- The four trials of a step, in their order. -/
def Search.trials (x : Search) (step : Nat) : List (Nat × Nat) :=
  [(moveCode x.cs true step, x.cp), (moveCode x.cs false step, x.cp), (x.cs, moveCode x.cp true step),
    (x.cs, moveCode x.cp false step)]

/-- One pass over the trials: whether one moved the codes. -/
def Search.pass (x : Search) (maxProbes : Nat) : List (Nat × Nat) → Search × Bool
  | [] => (x, false)
  | c :: r =>
    if c = (x.cs, x.cp) then x.pass maxProbes r
    else if x.probes = maxProbes then ({ x with full := true }, false)
    else
      let rl := min 50 (x.losses.headD 0)
      let y : Search := { x with losses := x.losses.tail, probes := x.probes + 1 }
      if rl ≥ x.best + 2 then ({ y with cs := c.1, cp := c.2, best := rl }, true)
      else y.pass maxProbes r

/-- The passes of one step width until none moves; each pass that moves has made a probe. -/
def Search.step (maxProbes width : Nat) : Nat → Search → Search
  | 0, x => x
  | n + 1, x =>
    if x.full then x
    else
      let p := x.pass maxProbes (x.trials width)
      if p.2 then Search.step maxProbes width n p.1 else p.1

/-- The whole search in a band over the losses measured. -/
def State.search (s : State) (b : Nat) (losses : List Nat) : Search :=
  let m := s.radio.op.maxProbes
  let x : Search :=
    { cs := (s.tunerCodes b).1, cp := (s.tunerCodes b).2, best := min 50 (losses.headD 0), losses := losses.tail
      probes := 1, full := false }
  [8, 4, 2, 1].foldl (fun a w => Search.step m w 64 a) x

/-- The end of a search: codes stored, flags, counters and events (R413, R414). -/
def State.storeTune (s : State) (b : Nat) (x : Search) : State :=
  let s1 := (((s.wr (R.TUNER.BAND.CS b) x.cs).wr (R.TUNER.BAND.CP b) x.cp).wr (R.TUNER.BAND.BEST_RL b) x.best).raise
    (R.TUNER.BAND.VALID b)
  let s2 := s1.setRadio
    { s1.radio with
      dirty := s1.radio.dirty.filter (fun d => d != b)
      recent := if s1.radio.recent.contains b then s1.radio.recent else s1.radio.recent ++ [b] }
  let s3 := ((s2.clear R.TUNER.STATUS.MIS_RUN).raise R.TUNER.EVENTS.RETUNED).count R.TUNER.COUNTS.RETUNES 1
  let s4 := (s3.showDirty.applyCodes b).log 0x0450 []
  if x.best < s.radio.op.failThr then (s4.raise R.TUNER.EVENTS.FAIL).log 0x0451 [] else s4

/-- The carrier time of a retune in microseconds (Table RF-5). -/
def tuneUs (probes : Nat) : Nat := 80 + 20 * probes

/-! ### Attempts that wait -/

/-- Whether an attempt waits for energy, its own or its retune's. -/
def AttPhase.waits (p : AttPhase) : Bool := p == .energy || p == .tuneWait

/-- Whether an attempt is in stages 1 to 3, or its retune waits: nothing is on air or calibrating for it. -/
def AttPhase.early (p : AttPhase) : Bool := p == .again || p == .backoff || p.waits

end Sys2Proof.Machine
end

