-- ==== Sys2Proof/Machine/Votes.lean ====
section
/-! DEFINITION. The voters (R181 to R184, R190): three copies of each field of Table REG-4, of which those that differ from
the value in force are listed; what a voter does with a copy that disagrees. -/

namespace Sys2Proof.Machine

open Sys2Proof

/-! ### The voted fields (Table REG-4) -/

/-- How many fields an ID covers: the mode; the seal state; PROT_MASK, LIFTED, four AXO and four MXO entries; eight duty
limits; HFXO_MODE and HFXO_CTRIM; BOOT_SEL and TWIN; twenty double words of the option shadows. -/
def votedCount (id : Nat) : Nat := [0, 1, 1, 10, 8, 2, 2, 20].getD id 0

/-- The width of a voted field. -/
def votedWidth (id index : Nat) : Nat :=
  match id with
  | 1 => 3
  | 2 => 2
  | 3 => if index < 2 then 9 else if index < 6 then 64 else 18
  | 4 => 16
  | 5 => if index = 0 then 1 else 6
  | 6 => 2
  | _ => 64

/-- The fields of an execute-only region of MFLASH. -/
def mxoFields (i : Nat) : List Fld := [R.MFLASHC.MXO.START i, R.MFLASHC.MXO.END i, R.MFLASHC.MXO.EN i, R.MFLASHC.MXO.LOCK i]

/-- The value of a voted field in force. -/
def State.votedValue (s : State) (id index : Nat) : Nat :=
  match id with
  | 1 => s.rd R.PWR.MODE_STATUS.EFFECTIVE
  | 2 => s.rd R.MPWR.SEAL_STATUS.STATE
  | 3 =>
    if index = 0 then s.protMask
    else if index = 1 then s.rd R.FLASHC.PROT_STATUS.LIFTED
    else if index < 6 then s.axoWord (index - 2)
    else (mxoFields (index - 6)).foldl (fun v f => v + s.rd f * 2 ^ f.lsb) 0
  | 4 => s.rd (R.LINK.DUTY_CAP.CAP index)
  | 5 => if index = 0 then s.hfxoMode else s.hfxoTrim
  | 6 => if index = 0 then s.bootSel else s.rd R.AON.BOOT_STATUS.TWIN
  | _ => s.optRaw (8 * index) 8

/-- A value in force that the option shadows do not give. -/
def State.force (s : State) (id index v : Nat) : State := { s with copies := s.copies.put (voteKey id index 3) v }

/-- A voted field put in force with another value. -/
def State.setVoted (s : State) (id index v : Nat) : State :=
  match id with
  | 1 => s.wr R.PWR.MODE_STATUS.EFFECTIVE v
  | 2 => s.wr R.MPWR.SEAL_STATUS.STATE v
  | 3 =>
    if index = 1 then s.wr R.FLASHC.PROT_STATUS.LIFTED v
    else if index < 6 then s.force 3 index v
    else (mxoFields (index - 6)).foldl (fun a f => a.wr f (bitsOf v f.lsb f.width)) s
  | 4 => s.wr (R.LINK.DUTY_CAP.CAP index) v
  | 5 => s.force 5 index v
  | 6 => if index = 0 then s.force 6 0 v else s.wr R.AON.BOOT_STATUS.TWIN v
  | _ => { s with opt := (List.range 8).foldl (fun o j => o.set (8 * index + j) (bitsOf v (8 * j) 8)) s.opt }

/-- What one copy of a voted field holds. -/
def State.copyOf (s : State) (id index c : Nat) : Nat := (s.copies.find (voteKey id index c)).getD (s.votedValue id index)

/-- The copies of a field that differ from its value in force listed no more. -/
def State.agree (s : State) (id index : Nat) : State :=
  { s with copies := s.copies.filter (fun e => !(e.1 / 4 == id * 0x1000 + index && e.1 % 4 != 3)) }

/-- An upset: one copy of a field holds another value from now on. -/
def State.strike (s : State) (u : Upset) : State :=
  if votedCount u.id ≤ u.index || decide (3 ≤ u.copy) then s
  else
    let v := u.value % 2 ^ votedWidth u.id u.index
    let k := voteKey u.id u.index u.copy
    if v = s.votedValue u.id u.index then { s with copies := s.copies.filter (fun e => e.1 != k) }
    else { s with copies := s.copies.put k v }

/-- Several upsets. -/
def State.strikes (s : State) (l : List Upset) : State := l.foldl State.strike s

/-! ### A majority (R182, R183) -/

/-- A correction of a voted field. -/
def State.voteFix (s : State) (id : Nat) : State :=
  let n := s.votes.count id + 1
  let s1 := ({ s with votes := s.votes.put id n } : State).count R.SYSCTL.VOTE_FIX.COUNT 1
  let s2 := s1.wr R.SYSCTL.VOTE_STATUS.LAST_FIELD id
  let s3 := if n ≤ 16 then s2.log 0x0A01 [id] else s2
  if n = 16 then (s3.raise R.SYSCTL.VOTE_STATUS.STUCK).log 0x0A04 [id] else s3

/-! ### No majority (R184) -/

/-- The stored form of the defaults of Table START-5, as runs of bytes with their offsets; what no run covers is 0xFF. -/
def optDefaults : List (Nat × List Nat) :=
  [(0x00, [1, 0]), (0x10, [95, 85, 75, 60, 45, 35]), (0x18, [40]), (0x1A, leBytes 2 600 ++ [4, 60, 0, 16]),
    (0x20, [0, 0, 25, 34, 0, 32]), (0x48, leBytes 2 200), (0x60, leBytes 2 3)]

/-- One byte of the defaults of Table START-5. -/
def optDefault (off : Nat) : Nat :=
  match optDefaults.find? (fun r => decide (r.1 ≤ off) && decide (off < r.1 + r.2.length)) with
  | none => 0xFF
  | some r => r.2.getD (off - r.1) 0xFF

/-- A double word of the option shadows read again from the option area in three passes, or its defaults (Table REG-4, ID
0x07); no pass of this reading is disturbed (log entry 88). -/
def State.rereadOption (s : State) (i : Nat) : State :=
  let a := 0x1FF000 + 8 * i
  let good := s.eccOf a != 2
  let one (o : List Nat) (j : Nat) : List Nat :=
    o.set (8 * i + j) (if good then (s.byte (a + j)).toNat else optDefault (8 * i + j))
  { s with opt := (List.range 8).foldl one s.opt }

/-- The range that an execute-only entry of ID 0x03 covers, where it is one: AXO by addresses, MXO by blocks. -/
def xoRange (index v : Nat) : Option (Side × Nat × Nat) :=
  if 2 ≤ index ∧ index < 6 then
    (if axoValid (v % 2 ^ 32, v / 2 ^ 32) then some (.app, v % 2 ^ 32, v / 2 ^ 32) else none)
  else if 6 ≤ index ∧ index < 10 then
    (if bit v 16 && decide (v % 32 ≤ bitsOf v 8 5) then some (.met, v % 32, bitsOf v 8 5 + 1) else none)
  else none

/-- ID 0x03 without a majority (R264, Table REG-4): MAP_LOST, and every entry that is valid in any copy enforced. -/
def State.loseMap (s : State) : State :=
  let all := (List.range 10).flatMap (fun i => (List.range 3).filterMap (fun c => xoRange i (s.copyOf 3 i c)))
  ({ s with xoLost := s.xoLost ++ all } : State).raise R.FLASHC.PROT_STATUS.MAP_LOST

/-- The lowest of the three copies of a field. -/
def State.lowestCopy (s : State) (id index : Nat) : Nat :=
  min (s.copyOf id index 0) (min (s.copyOf id index 1) (s.copyOf id index 2))

/-- The action of Table REG-4 for a field of which no two copies agree; TWIN keeps the value in force. -/
def State.voteAction (s : State) (id index : Nat) : State :=
  match id with
  | 1 => s.wr R.PWR.MODE_STATUS.EFFECTIVE s.effectiveMode
  | 2 => s.sealFromFuses
  | 3 => s.loseMap
  | 4 => s.wr (R.LINK.DUTY_CAP.CAP index) (min (s.lowestCopy 4 index) (regulatory index))
  | 5 => { s with copies := s.copies.filter (fun e => e.1 != voteKey 5 index 3) }
  | 6 => if index = 0 then s.force 6 0 0 else s
  | _ => s.rereadOption index

/-- A voted field of which all three copies disagree. -/
def State.voteLost (s : State) (id index : Nat) : State :=
  ((((s.voteAction id index).agree id index).raise R.SYSCTL.VOTE_STATUS.LOST).wr R.SYSCTL.VOTE_STATUS.LOST_FIELD id).log
    0x0A02 [id]

/-! ### Reads and uses -/

/-- The value on which two of three agree. -/
def majority (a b c : Nat) : Option Nat := if a = b ∨ a = c then some a else if b = c then some b else none

/-- Whether some copy of a field is listed as different. -/
def State.disagrees (s : State) (id index : Nat) : Bool :=
  s.copies.any (fun e => e.1 / 4 == id * 0x1000 + index && e.1 % 4 != 3)

/-- One field read through its voter (R182, R184); three copies that agree are no disagreement. -/
def State.vote (s : State) (id index : Nat) : State :=
  let a := s.copyOf id index 0
  let b := s.copyOf id index 1
  let c := s.copyOf id index 2
  if !s.disagrees id index then s
  else
    match majority a b c with
    | none => s.voteLost id index
    | some v =>
      let s1 := (s.agree id index).setVoted id index v
      if a = b ∧ b = c then s1 else s1.voteFix id

/-- Every field of an ID used. -/
def State.useVoted (s : State) (id : Nat) : State :=
  if s.copies.isEmpty then s else forEach (votedCount id) (fun i a => a.vote id i) s

/-- Every voted field checked, as at each sample of the supply monitor (R182). -/
def State.checkVoted (s : State) : State :=
  if s.copies.isEmpty then s else forEach 7 (fun n a => a.useVoted (n + 1)) s

/-- The voted IDs that a register shows. -/
def votedAt (a : Nat) : List Nat :=
  if a = R.PWR.MODE_STATUS.EFFECTIVE.addr then [1]
  else if a = R.MPWR.SEAL_STATUS.STATE.addr ∨ a = R.METVIEW.SEAL.SEAL.addr then [2]
  else if a = R.FLASHC.PROT_STATUS.MAP.addr ∨ (a / 0x1000 = 0x48004 ∧ a % 0x1000 / 4 ∈ [0x11, 0x12, 0x13, 0x14]) then [3]
  else if (List.range 8).any (fun n => (R.LINK.DUTY_CAP.CAP n).addr == a) then [4]
  else if a = R.AON.BOOT_STATUS.TWIN.addr then [6]
  else if (0x40002040 ≤ a ∧ a < 0x400020E0) ∨ (0x4800D040 ≤ a ∧ a < 0x4800D0E0) then [7]
  else []

/-- The voted fields that a read of a register meets (R182). -/
def State.readVoted (s : State) (a : Nat) : State := (votedAt a).foldl State.useVoted s

end Sys2Proof.Machine
end

