-- ==== Sys2Proof/Machine/Fabric.lean ====
section
/-! DEFINITION. The two memory maps (ch. 07): what an access to a memory meets, in the order of Table MAP-6, and its
service by SRAM, flash, ROM, the AON retention SRAM and the Loft. -/

namespace Sys2Proof.Machine

open Sys2Proof

/-- What lies at an address of a view (Tables MAP-1 and MAP-4). -/
inductive Area where
  | nothing
  | rom
  | flash
  | sram
  | loft
  | retention
  | register
  | aliased
  deriving DecidableEq, Repr

/-- The area of an application address. -/
def appArea (a : Nat) : Area :=
  if a < 0x4000 then .rom
  else if (0x8000 ≤ a ∧ a < 0xC000) ∨ (flashArray .app a).isSome then .flash
  else if 0x20000000 ≤ a ∧ a < 0x20020000 then .sram
  else if 0x21000000 ≤ a ∧ a < 0x21004000 then .loft
  else if 0x22000000 ≤ a ∧ a < 0x22000800 then .retention
  else if 0x40000000 ≤ a ∧ a < 0x40016000 then .register
  else if 0x41000000 ≤ a ∧ a < 0x44000000 ∧ a % 0x1000000 < 0x16000 then .aliased
  else .nothing

/-- The area of an address of the MET view. -/
def metArea (a : Nat) : Area :=
  if a < 0x8000 then .rom
  else if (flashArray .met a).isSome then .flash
  else if 0x20000000 ≤ a ∧ a < 0x20004000 then .sram
  else if 0x21000000 ≤ a ∧ a < 0x21004000 then .loft
  else if 0x48000000 ≤ a ∧ a < 0x4800E000 then .register
  else if 0x49000000 ≤ a ∧ a < 0x4C000000 ∧ a % 0x1000000 < 0xE000 then .aliased
  else .nothing

/-- The area of an address of a side. -/
def areaOf (sd : Side) (a : Nat) : Area := sd.pick (appArea a) (metArea a)

/-- Whether instructions can be fetched from an address (the Fetch column of Tables MAP-1 and MAP-4). -/
def fetchable (sd : Side) (a : Nat) : Bool :=
  match areaOf sd a, sd with
  | .rom, _ => true
  | .sram, _ => true
  | .flash, .app =>
    !(decide (0x15C000 ≤ a) && decide (a < 0x160000)) && !(decide (0x1BC000 ≤ a) && decide (a < 0x1C0000)) &&
      decide (a < 0x1FF000)
  | .flash, .met => decide (a < 0x58000)
  | _, _ => false

/-- Whether UNDER holds the handshake of a memory access (R61): SRAM and flash of its rail. -/
def State.underHolds (s : State) (sd : Side) (addr : Nat) : Bool :=
  s.flag (R.PWR.PACE_STATUS.UNDER sd) && (areaOf sd addr == .sram || areaOf sd addr == .flash)

/-- The owner code a requester acts as in the Loft; 6 for a requester that owns no slot. -/
def partyOf (sd : Side) (req : Nat) : Nat :=
  match sd with
  | .met => ownMet
  | .app => if req ≤ 1 then ownApp else if req ≤ 9 then ownDma else if req = 10 then ownLink else if req = 11 then ownDict
      else 6

/-- Whether a requester reaches the AON retention SRAM (R198). -/
def reachesRetention (req : Nat) : Bool := req == 1 || (decide (2 ≤ req) && decide (req ≤ 9)) || req == 11

/-- The slot a Loft address lies in. -/
def slotOf (a : Nat) : Nat := (a - 0x21000000) / 0x200

/-- Whether a data read is refused as execute-only (R264, R265): reads of UPDATE and loads fetched from the ROM are
exempt. -/
def State.refusesXo (s : State) (sd : Side) (req a : Nat) (rom : Bool) : Bool :=
  match sd with
  | .app => s.appExecuteOnly a && req != 13 && !(req == 1 && rom)
  | .met => s.metExecuteOnly (blockOf 3 a) && !rom

/-- Whether an access is refused for the user mode of MCORE: any of a peripheral window, and a write to a command address
of MFLASH (R280). -/
def userRefused (sd : Side) (req kind addr : Nat) : Bool :=
  sd == .met && req == mcoreUser &&
    match areaOf .met addr with
    | .register | .aliased => true
    | .flash => kind == kindWrite
    | .nothing | .rom | .sram | .loft | .retention => false

/-- The cause of the bus fault that a memory access meets (R194 to R201): the first of Table MAP-6.  The active-boot window
leads nowhere while no twin is mapped, which is DECODE (DESIGN CHOICE, log entry 132). -/
def State.memCause (s : State) (sd : Side) (req kind size addr : Nat) (rom : Bool) : Option Nat :=
  if addr % size ≠ 0 then some causeDecode
  else if kind = kindFetch ∧ !fetchable sd addr then some causeDecode
  else
    match areaOf sd addr with
    | .nothing => some causeDecode
    | .register => some causeDecode
    | .aliased => some causeDecode
    | .rom => if kind = kindWrite then some causeProtWrite else none
    | .sram => none
    | .retention => if reachesRetention req then none else some causeDecode
    | .loft =>
      let x := s.slot (slotOf addr)
      let p := partyOf sd req
      if (if kind = kindWrite then x.writableBy p else x.readableBy p) then none else some causeLoftOwner
    | .flash =>
      match sd.pick (s.unwindow addr) (some addr) with
      | none => some causeDecode
      | some a =>
        if kind = kindWrite then none
        else if kind = kindRead ∧ s.refusesXo sd req a rom then some causeXoRead
        else if s.arrayBusy ((flashArray sd a).getD 4) then some causeFlashBusy
        else none

/-- The owner code shown for a refused requester: free for one to which no owner code is given (ch. 10). -/
def State.offender (s : State) (sd : Side) (req : Nat) : Nat × State :=
  if sd == .app && decide (12 ≤ req) then
    let x := s.fresh
    (x.1 % 8, x.2)
  else (partyOf sd req, s)

/-- A memory access that faults: a Loft refusal is a violation too (R283, R288), and a protected address or an
execute-only one shows in the flash status of its side (Table MAP-6; DEDUCED, log entry 124: as PROTERR). -/
def State.memFault (s : State) (sd : Side) (req kind cause addr : Nat) : State :=
  let s1 :=
    if cause = causeLoftOwner then
      let x := s.slot (slotOf addr)
      let o := s.offender sd req
      o.2.violation (slotOf addr) o.1 (x.refusedKind (kind == kindWrite))
    else if cause = causeXoRead ∨ cause = causeProtWrite then s.raise (R.FLASHC.STATUS.PROTERR sd)
    else s
  s1.busFault sd req kind cause addr

/-- The physical address of a memory address of a side: the Loft is one memory, the MET memories stand apart. -/
def State.physical (s : State) (sd : Side) (a : Nat) : Nat :=
  match areaOf sd a with
  | .loft => a
  | _ => sd.pick ((s.unwindow a).getD a) (metPhys + a)

/-- A memory access served. -/
def State.memServe (s : State) (sd : Side) (req kind size addr data : Nat) : State :=
  let p := s.physical sd addr
  if kind = kindWrite then
    if areaOf sd addr = .flash then
      let a := sd.pick p addr
      s.flashWrite ((flashArray sd a).getD 0) req size a data
    else (s.store p size data).done 0
  else if areaOf sd addr = .flash then
    (s.readFlashAt sd req (kind == kindFetch) (sd.pick p addr)).done (s.load p size)
  else s.done (s.load p size)

/-- The voters that an access of flash uses (R182): the map and the execute-only regions, and the twin of the active-boot
window. -/
def State.useFlashVoters (s : State) (sd : Side) (addr : Nat) : State :=
  if areaOf sd addr = .flash then (s.useVoted 3).useVoted 6 else s

/-- One access of a memory, aligned or not, whole or with a bus fault (R201). -/
def State.memAccess (s : State) (sd : Side) (req kind size addr data : Nat) (rom : Bool) : State :=
  let v := s.useFlashVoters sd addr
  match v.memCause sd req kind size addr rom with
  | some c => v.memFault sd req kind c addr
  | none => v.memServe sd req kind size addr data

/-- The second parcel of a fetch after the first: in the same double word of flash, it comes with the same read (R220). -/
def State.secondParcel (s : State) (sd : Side) (req addr : Nat) : State :=
  if addr % 8 = 0 ∨ s.memCause sd req kindFetch 2 addr false ≠ none then s.memAccess sd req kindFetch 2 addr 0 false
  else s.done (s.load (s.physical sd addr) 2)

/-- A fetch: 16-bit parcels at 16-bit alignment; a fault of the second half is raised on its own address (R195, R196). -/
def State.fetch (s : State) (sd : Side) (req size addr : Nat) : State :=
  let s1 := s.memAccess sd req kindFetch 2 addr 0 false
  if size ≤ 2 ∨ s1.last.cause ≠ 0 then s1
  else
    let s2 := s1.secondParcel sd req (addr + 2)
    if s2.last.cause ≠ 0 then s2 else s2.done (s1.last.data + 0x10000 * s2.last.data)

/-- The first word among `n` that an engine cannot reach from an address upwards: its address and the cause. -/
def State.firstFault (s : State) (req kind : Nat) : Nat → Nat → Option (Nat × Nat)
  | 0, _ => none
  | n + 1, a =>
    match s.memCause .app req kind 4 a false with
    | some c => some (a, c)
    | none => State.firstFault s req kind n (a + 4)

/-- `n` bytes at an application address, the active-boot window resolved. -/
def State.appBytes (s : State) (a n : Nat) : List Nat := s.bytes ((s.unwindow a).getD a) n

/-- The record of what an engine meets that reads `n` bytes at an application address (R219, R220). -/
def State.appReads (s : State) (req a n : Nat) : State := s.readSpan .app req ((s.unwindow a).getD a) n

end Sys2Proof.Machine
end

