-- ==== Sys2Proof/Machine/Panel.lean ====
section
/-! DEFINITION. Touch key, tamper inputs and the legal display (ch. 13): the sequencer's samples, the state table of the
touch channels, the debounce of the tamper inputs, and the charge pump and double buffer of the LCD. -/

namespace Sys2Proof.Machine

open Sys2Proof

/-- Whether the sequencer runs (R343): MET On or Retained, on a part that has it (R364). -/
def State.seqRuns (s : State) : Bool := s.variant != .c && s.power.met.st != .off

/-! ### Touch (R345 to R350) -/

/-- A channel that has not powered up. -/
def idleTouch : TouchCh := { up := false, recal := false, onRun := 0, offRun := 0, samples := [] }

/-- Channel `n`. -/
def State.touchCh (s : State) (n : Nat) : TouchCh := s.seqr.touch.getD n idleTouch

/-- Channel `n` replaced. -/
def State.setTouch (s : State) (n : Nat) (c : TouchCh) : State :=
  { s with seqr := { s.seqr with touch := s.seqr.touch.set n c } }

/-- The state codes of Table TTD-4. -/
def tIdle : Nat := 0
def tTouched : Nat := 1
def tStuck : Nat := 2
def tRecal : Nat := 3

/-- The state of channel `n`. -/
def State.touchState (s : State) (n : Nat) : Nat := bitsOf (s.rd R.TOUCH.STATUS.STATE) (2 * n) 2

/-- The state of channel `n` written. -/
def State.setTouchState (s : State) (n v : Nat) : State :=
  (s.wrBit R.TOUCH.STATUS.STATE (2 * n) (bit v 0)).wrBit R.TOUCH.STATUS.STATE (2 * n + 1) (bit v 1)

/-- Thresholds and limits with their "acts as" rules (Table TTD-4). -/
def State.onThr (s : State) : Nat := max 1 (s.rd R.TOUCH.THR.ON_THR)
def State.offThr (s : State) : Nat := min s.onThr (s.rd R.TOUCH.THR.OFF_THR)
def State.negThr (s : State) : Nat := max 1 (s.rd R.TOUCH.THR2.NEG_THR)
def State.touchDeb (s : State) : Nat := max 1 (s.rd R.TOUCH.CFG.DEB)
def State.trackK (s : State) : Nat := min 12 (s.rd R.TOUCH.THR2.TRACK_K)
def State.stuckStep (s : State) : Nat := max 1 (s.rd R.TOUCH.THR2.STUCK_STEP)

/-- A touch event: its flag, and wake cause 0x7 while IE is 1 (R344). -/
def State.touchFlag (s : State) (f : Fld) (n : Nat) : State :=
  let s1 := s.wrBit f n true
  if s1.flag R.TOUCH.CFG.IE then s1.wake .met 7 else s1

/-- Channel `n` enters a state in which it gathers no samples. -/
def State.enterTouch (s : State) (n v : Nat) : State :=
  (s.setTouch n { s.touchCh n with samples := [] }).setTouchState n v

/-- A step of the baseline towards a reading, rounded towards the reading (Table TTD-1). -/
def trackStep (base raw k : Nat) : Nat :=
  if base ≤ raw then base + (raw - base + 2 ^ k - 1) / 2 ^ k else base - (base - raw + 2 ^ k - 1) / 2 ^ k

/-- A sample in IDLE (Table TTD-1). -/
def State.touchIdle (s : State) (n raw base : Nat) : State :=
  if raw + s.negThr ≤ base then s.enterTouch n tRecal
  else if raw ≥ base + s.onThr then
    if (s.touchCh n).onRun ≥ s.touchDeb then (s.enterTouch n tTouched).touchFlag R.TOUCH.STATUS.PRESS n else s
  else s.wr (R.TOUCH.BASE.BASE n) (trackStep base raw s.trackK)

/-- A sample in TOUCHED; `expired` says that MAX_ON has passed, and the release row comes first (R349). -/
def State.touchTouched (s : State) (n : Nat) (expired : Bool) : State :=
  if (s.touchCh n).offRun ≥ s.touchDeb then (s.enterTouch n tIdle).touchFlag R.TOUCH.STATUS.RELEASE n
  else if expired then ((s.enterTouch n tStuck).log 0x0340 []).touchFlag R.TOUCH.STATUS.STUCK n
  else s

/-- A sample in STUCK (Table TTD-1). -/
def State.touchStuck (s : State) (n raw base : Nat) : State :=
  if raw + s.negThr ≤ base then s.enterTouch n tRecal
  else if max raw base - min raw base ≤ s.offThr then s.enterTouch n tIdle
  else s.wr (R.TOUCH.BASE.BASE n) (stepTowards base raw s.stuckStep)

/-- A sample in RECAL: the fourth since entry gives the baseline. -/
def State.touchRecal (s : State) (n raw : Nat) : State :=
  let l := (s.touchCh n).samples ++ [raw]
  if l.length ≥ 4 then
    (((s.wr (R.TOUCH.BASE.BASE n) (openDiv 6 l.sum 4).toNat).enterTouch n tIdle).log 0x0344 []).touchFlag
      R.TOUCH.STATUS.RECAL n
  else s.setTouch n { s.touchCh n with samples := l }

/-- The outcome of a power-up (Table TTD-2). -/
def State.touchStart (s : State) (n raw : Nat) : State :=
  let ref := s.touchRef n
  let thr := s.touchPuThr
  let s1 := ((s.wrBit R.TOUCH.PU.PU_TOUCH n false).wrBit R.TOUCH.PU.PU_LOW n false).wrBit R.TOUCH.PU.NOREF n false
  let s2 := (s1.setTouch n { s1.touchCh n with up := true, samples := [], onRun := 0, offRun := 0 }).wr
    (R.TOUCH.RAW.RAW n) raw
  let idle := (s2.wr (R.TOUCH.BASE.BASE n) raw).setTouchState n tIdle
  if ref = 0xFFFF then (idle.wrBit R.TOUCH.PU.NOREF n true).log 0x0343 []
  else if raw ≥ ref + thr then
    (((((s2.wr (R.TOUCH.BASE.BASE n) ref).setTouchState n tTouched).wrBit R.TOUCH.PU.PU_TOUCH n true).log 0x0341 [])).touchFlag
      R.TOUCH.STATUS.PRESS n
  else if ref ≥ raw + thr then (idle.wrBit R.TOUCH.PU.PU_LOW n true).log 0x0342 []
  else idle

/-- A sample of a channel that is powering up: the mean of four is its reading (R350). -/
def State.touchPowerUp (s : State) (n raw : Nat) : State :=
  let l := (s.touchCh n).samples ++ [raw]
  if l.length ≥ 4 then s.touchStart n (openDiv 7 l.sum 4).toNat
  else s.setTouch n { s.touchCh n with samples := l }

/-- The runs of a channel after a sample: "the same condition on DEB consecutive samples" (R348). -/
def State.touchRuns (s : State) (n raw base : Nat) : State :=
  let c := s.touchCh n
  s.setTouch n { c with
    onRun := if raw ≥ base + s.onThr then min 7 (c.onRun + 1) else 0
    offRun := if raw < base + s.offThr then min 7 (c.offRun + 1) else 0 }

/-- One sample by the table of R348; a CMD.RECAL is taken at it (R361). -/
def State.touchTable (s : State) (n raw : Nat) (expired : Bool) : State :=
  let base := s.rd (R.TOUCH.BASE.BASE n)
  let s1 := s.touchRuns n raw base
  let c := s1.touchCh n
  if c.recal then (s1.setTouch n { c with recal := false }).enterTouch n tRecal
  else if s1.touchState n = tIdle then s1.touchIdle n raw base
  else if s1.touchState n = tTouched then s1.touchTouched n expired
  else if s1.touchState n = tStuck then s1.touchStuck n raw base
  else s1.touchRecal n raw

/-- One sample of a channel (R345, R348, R350): a saturated one holds it in IDLE, and so does a lead that is not
selected for it (R711). -/
def State.touchSample (s : State) (n raw : Nat) (expired : Bool) : State :=
  if !s.seqRuns || !s.rdBit R.TOUCH.CFG.EN n then s
  else
    let r := if s.leadOwner n = 2 then min 0xFFFF raw else 0xFFFF
    let s1 := (s.wr (R.TOUCH.RAW.RAW n) r).wrBit R.TOUCH.STATUS.OVR n (r == 0xFFFF)
    if r = 0xFFFF then (s1.setTouch n { s1.touchCh n with onRun := 0, offRun := 0, samples := [] }).setTouchState n tIdle
    else if (s1.touchCh n).up then s1.touchTable n r expired
    else s1.touchPowerUp n r

/-- TOUCH_SAMPLE (R345 to R350): a sample before MAX_ON has passed. -/
def execTouchSample (ch raw : Nat) (s : State) : Host.Outcome State Fault Refusal := .next (s.touchSample ch raw false)

/-- TOUCH_STUCK (R348, R349): the sample at which MAX_ON has passed. -/
def execTouchStuck (ch raw : Nat) (s : State) : Host.Outcome State Fault Refusal := .next (s.touchSample ch raw true)

/-- TOUCH.CMD.RECAL written (Table TTD-4). -/
def State.touchCmd (s : State) (mask : Nat) : State :=
  forEach 4 (fun n a => if bit mask n then a.setTouch n { a.touchCh n with recal := true } else a) s

/-- TOUCH_CMD_RECAL (R361). -/
def execTouchCmdRecal (mask : Nat) (s : State) : Host.Outcome State Fault Refusal :=
  .next (if s.seqRuns then s.touchCmd mask else s)

/-! ### Tamper (R351, R352, R360) -/

/-- An input that has not been sampled. -/
def idleTamper : TamperIn := { last := none, run := 0, ref := none, active := false }

/-- Input `n`. -/
def State.tamperIn (s : State) (n : Nat) : TamperIn := s.seqr.tamper.getD n idleTamper

/-- Input `n` replaced. -/
def State.setTamper (s : State) (n : Nat) (t : TamperIn) : State :=
  { s with seqr := { s.seqr with tamper := s.seqr.tamper.set n t } }

/-- The mode of input `n`. -/
def State.tamperMode (s : State) (n : Nat) : Nat := s.rd (if n = 0 then R.TAMPER.CFG.MODE0 else R.TAMPER.CFG.MODE1)

/-- Whether a level is the tamper condition of a mode (R351). -/
def tamperCond (mode : Nat) (ref : Option Bool) (level : Bool) : Bool :=
  if mode = 1 then level
  else if mode = 2 then !level
  else if mode = 3 then ref != some level
  else false

/-- The debounced condition begins (R352); TIMEn takes the RTC as MAON shows it. -/
def State.tamperBegins (s : State) (n : Nat) : State :=
  let s1 := s.count (if n = 0 then R.TAMPER.COUNT.COUNT0 else R.TAMPER.COUNT.COUNT1) 1
  let trig := if n = 0 then R.TAMPER.STATUS.TRIG0 else R.TAMPER.STATUS.TRIG1
  if s1.flag trig then s1
  else
    let now := (s1.metMirror.find R.AON.RTC_SEC.SEC.key).getD R.AON.RTC_SEC.SEC.rst
    let s2 := ((s1.raise trig).wr (if n = 0 then R.TAMPER.TIME0.TIME else R.TAMPER.TIME1.TIME) now).logMet 0x0350 [n]
    if s2.flag R.TAMPER.CFG.IE then s2.wake .met 8 else s2

/-- TAMPER_SAMPLE (R351, R352): the first sample after a commit of its mode is the reference of mode 3 (R360). -/
def execTamperSample (n : Nat) (level : Bool) (s : State) : Host.Outcome State Fault Refusal :=
  let mode := s.tamperMode n
  if !s.seqRuns || decide (n ≥ 2) || mode == 0 then .next s
  else
    let t := s.tamperIn n
    let run := if t.last = some level then min 7 (t.run + 1) else 1
    let ref := t.ref.getD level
    let settled := decide (run ≥ max 1 (s.rd R.TAMPER.CFG.DEB))
    let cond := tamperCond mode (some ref) level
    let s1 := s.setTamper n
      { last := some level, run := run, ref := some ref, active := if settled then cond else t.active }
    let s2 := if settled then s1.wrBool (if n = 0 then R.TAMPER.STATUS.LEVEL0 else R.TAMPER.STATUS.LEVEL1) level else s1
    .next (if settled && cond && !t.active then s2.tamperBegins n else s2)

/-- A mode committed for an input: its debounce restarts (R360). -/
def State.tamperCommitted (s : State) (n : Nat) : State := s.setTamper n idleTamper

/-! ### The display (R354 to R357) -/

/-- The pump and READY set together. -/
def State.setPump (s : State) (p : Pump) : State :=
  ({ s with seqr := { s.seqr with pump := p } } : State).wrBool R.LCD.STATUS.READY (p == .running)

/-- Whether the display is shed (R357). -/
def State.lcdShed (s : State) : Bool := decide (s.level ≥ 6)

/-- The pump brought to what EN and the ladder ask for (R355, R357): a start where it was off. -/
def State.lcdFollow (s : State) : State :=
  if !s.seqRuns then s
  else
    let s1 := s.wrBool R.LCD.STATUS.SHED s.lcdShed
    if s1.lcdShed || !s1.flag R.LCD.CFG.EN then s1.setPump .off
    else if s1.seqr.pump = .off then s1.setPump .starting
    else s1

/-- LCD_READY (R355): VLCD first lies within 30 mV of its target. -/
def execLcdReady (mv : Nat) (s : State) : Host.Outcome State Fault Refusal :=
  if s.seqr.pump = .starting then .next ((s.wr R.LCD.STATUS.VLCD_MV mv).setPump .running) else .next s

/-- LCD_PUMP_FAIL (R355): no READY within 50 ms, or a whole frame 200 mV or more below target. -/
def execLcdPumpFail (mv : Nat) (s : State) : Host.Outcome State Fault Refusal :=
  if s.seqr.pump = .starting ∨ s.seqr.pump = .running then
    .next ((((s.wr R.LCD.STATUS.VLCD_MV mv).setPump .failed).raise R.LCD.STATUS.PUMP_FAIL).log 0x0360 [])
  else .next s

/-- LCD_PUMP_RETRY (R355): once per second while EN remains 1. -/
def execLcdPumpRetry (s : State) : Host.Outcome State Fault Refusal :=
  if s.seqr.pump = .failed && s.flag R.LCD.CFG.EN then .next (s.setPump .starting) else .next s

/-- The target of VLCD in mV at a die temperature (R354). -/
def State.vlcdTarget (s : State) (temp : Int) : Nat :=
  let v : Int := 2600 + 20 * (min 50 (s.rd R.LCD.CFG.CONTRAST) : Nat) - (s.rd R.LCD.CFG.TCOMP : Nat) * (temp - 25)
  (max 2600 (min 3600 v)).toNat

/-- LCD_TEMP_SAMPLE (R354): VLCD is trimmed to its target at the temperature sampled, `err` mV off, at most 30. -/
def execLcdTempSample (temp err : Int) (s : State) : Host.Outcome State Fault Refusal :=
  if s.seqr.pump = .running then
    .next (s.wr R.LCD.STATUS.VLCD_MV ((s.vlcdTarget temp : Int) + max (-30) (min 30 err)).toNat)
  else .next s

/-- SWAP (R356). -/
def execSwap (s : State) : Host.Outcome State Fault Refusal :=
  .next (if s.seqRuns then s.raise R.LCD.CTRL.SWAP else s)

/-- SWAP_COPY (R356): a frame boundary. -/
def execSwapCopy (s : State) : Host.Outcome State Fault Refusal :=
  if s.seqRuns && s.flag R.LCD.CTRL.SWAP then
    let c := (List.range 4).map (fun n => s.rd (R.LCD.SEG_COM.SEG n))
    .next (({ s with seqr := { s.seqr with shown := c } } : State).clear R.LCD.CTRL.SWAP)
  else .next s

/-- The three blocks back at reset: MET Off, or an MCORE watchdog reset (R343, R363). -/
def State.resetPanel (s : State) : State :=
  let s1 := s.resetRange 0x48009000 0x4800C000
  { s1 with seqr := State.reset.seqr }

end Sys2Proof.Machine
end

