-- ==== Sys2Proof/Machine/Legal.lean ====
section
/-! DEFINITION. The legal side of MCORE (ch. 10, 14): the MROM routines, legal images and their choice, the calibration
journal, the legal event log, the energy check and the MET event queue. -/

namespace Sys2Proof.Machine

open Sys2Proof

/-! ### Flash operations of a routine

A routine runs as one command.  `ops` says how each of its flash operations ends, in order: 4 × pulses, plus for a program
0 good, 1 corrected, 2 failed; for an erase 0 blank, 1 not blank, 2 not blank with the header lost; and 3 where a reset
or power loss cuts the routine there (R384).  What `ops` does not list is good at the first pulse. -/

/-- The results of the routines (Table MET-1). -/
def resBadFormat : Nat := 1
def resActiveTarget : Nat := 2
def resProtWrite : Nat := 3
def resFlashFail : Nat := 4
def resTagBad : Nat := 5
def resRollbackLow : Nat := 6
def resLogFull : Nat := 7
/-- The routine was cut, by a reset or by an exception, and does not return. -/
def resCut : Nat := 99

/-- A routine under way: the state, the ends of its flash operations, and its result so far, 0 while it goes on. -/
structure Run where
  s : State
  ops : List Nat
  code : Nat
  deriving DecidableEq, Repr

/-- The routine goes on with another state. -/
def Run.map (r : Run) (f : State → State) : Run := { r with s := f r.s }

/-- The routine ends with a result, unless it has ended. -/
def Run.fail (r : Run) (c : Nat) : Run := if r.code = 0 then { r with code := c } else r

/-- How the next flash operation ends. -/
def Run.outcome (r : Run) : Nat := r.ops.headD 4

/-- A step of a routine that has not ended. -/
def Run.andThen (r : Run) (f : Run → Run) : Run := if r.code = 0 then f r else r

/-- How the operation that an array's decoder has just been asked for goes on: it runs and ends as `ops` says, or it did not
start, which is PROT_WRITE where the starting write met a bus fault (R225) and a failure otherwise (R224, R226, R227). -/
def Run.endOp (r : Run) (sd : Side) (finish : State → Nat → Nat → State) : Run :=
  if r.s.last.cause = causeProtWrite then { r with code := resProtWrite }
  else
    let k := r.outcome % 4
    let r1 : Run := { r with ops := r.ops.tail }
    if k = 3 then { r1 with s := r.s.cutFlash sd true, code := resCut }
    else { r1 with s := finish r.s (r.outcome / 4) k }

/-- One double word programmed by a requester in an array with the sequence of R223, at its address on that side. -/
def Run.programIn (r : Run) (arr req a : Nat) (data : List Nat) : Run :=
  if r.code ≠ 0 then r
  else
    let sd := arraySide arr
    let idle := (r.s.flashOp sd).isNone
    let s1 := ((r.s.sequence arr req 0x11).flashWrite arr req 4 a (leNat (data.take 4))).flashWrite arr req 4 (a + 4)
      (leNat (data.drop 4))
    let q : Run := { r with s := s1 }
    if s1.last.cause = 0 ∧ ((s1.flashOp sd).isNone || !idle) = true then { q with code := resFlashFail }
    else
      let e := q.endOp sd (fun x n k => x.programDone sd n k)
      if e.code = 0 ∧ r.outcome % 4 = 2 then { e with code := resFlashFail } else e

/-- One block erased by a requester in an array with the sequence of R223. -/
def Run.eraseIn (r : Run) (arr req blk : Nat) : Run :=
  if r.code ≠ 0 then r
  else
    let sd := arraySide arr
    let idle := (r.s.flashOp sd).isNone
    let s1 := (r.s.sequence arr req 0x22).flashWrite arr req 4 (blockBase arr blk) 0
    let q : Run := { r with s := s1 }
    if s1.last.cause = 0 ∧ ((s1.flashOp sd).isNone || !idle) = true then { q with code := resFlashFail }
    else
      let e := q.endOp sd (fun x n k => x.eraseDone sd n (k == 0) (k != 2))
      if e.code = 0 ∧ r.outcome % 4 ≠ 0 then { e with code := resFlashFail } else e

/-- Whole double words programmed from an address upwards. -/
def Run.programRun (r : Run) (arr req a : Nat) (data : List Nat) : Run :=
  (List.range (data.length / 8)).foldl (fun x i => x.programIn arr req (a + 8 * i) ((data.drop (8 * i)).take 8)) r

/-- One double word of MFLASH programmed by MCORE. -/
def Run.program (r : Run) (a : Nat) (data : List Nat) : Run := r.programIn 3 1 a data

/-- One MFLASH block erased by MCORE. -/
def Run.erase (r : Run) (blk : Nat) : Run := r.eraseIn 3 1 blk

/-- Whole double words of MFLASH programmed by MCORE. -/
def Run.programAll (r : Run) (a : Nat) (data : List Nat) : Run := r.programRun 3 1 a data

/-- A routine called (R279): it feeds the watchdog, and leaves its area of MSRAM undefined and its result in a0. -/
def State.runRoutine (s : State) (ops : List Nat) (f : Run → Run) : State :=
  let r := f { s := s.feedMet, ops := ops, code := 0 }
  if r.code = resCut then r.s
  else ({ r.s with mrom := { r.s.mrom with result := r.code } } : State).loseRoutineArea

/-- Whether a routine can run: MCORE runs, and UNDER does not hold its accesses (R61). -/
def State.mayCall (s : State) : Bool := s.metRuns && !s.flag (R.PWR.PACE_STATUS.UNDER .met)

/-- The meaning of a routine: nothing where no MCORE runs. -/
def callRoutine (ops : List Nat) (f : Run → Run) (s : State) : Host.Outcome State Fault Refusal :=
  .next (if s.mayCall then s.runRoutine ops f else s)

/-- `n` bytes at a MET address, as MCORE reads them. -/
def State.metBytes (s : State) (a n : Nat) : List Nat := s.bytes (s.physical .met a) n

/-- The first of `n` bytes from an address of a side upwards that a load from the ROM cannot read, and the cause. -/
def State.loadFault (s : State) (sd : Side) (a n : Nat) : Option (Nat × Nat) :=
  ((List.range ((n + 3) / 4)).map (fun i => a + 4 * i) ++ [a + n - 1]).findSome? (fun b =>
    if n = 0 then none else (s.memCause sd 1 kindRead 1 b true).map (fun c => (b, c)))

/-- `n` bytes loaded by a routine of a side: each double word of flash is read once (R219, R220), and a load that faults,
as every read of a busy array does (R221, R235), is an exception of its core, after which the routine does not return. -/
def Run.loadsOn (r : Run) (sd : Side) (a n : Nat) : Run :=
  if r.code ≠ 0 then r
  else
    match r.s.loadFault sd a n with
    | some f => { r with s := r.s.memFault sd 1 kindRead f.2 f.1, code := resCut }
    | none => r.map (fun s => s.readSpan sd 1 (sd.pick ((s.unwindow a).getD a) a) n)

/-- `n` bytes loaded by a routine of MROM. -/
def Run.loads (r : Run) (a n : Nat) : Run := r.loadsOn .met a n

/-- Bytes stored by a routine of MROM from an address upwards; a store that faults is an exception of the core, after which
the routine does not return. -/
def Run.stores (r : Run) (a : Nat) (data : List Nat) : Run :=
  (List.range data.length).foldl (fun x i =>
    if x.code ≠ 0 then x
    else
      let s1 := x.s.memAccess .met 1 kindWrite 1 (a + i) (data.getD i 0) true
      { x with s := s1, code := if s1.last.cause = 0 then 0 else resCut }) r

/-- Whether every byte is 0xFF. -/
def allOnes (l : List Nat) : Bool := l.all (fun b => b == 0xFF)

/-- An AES-256 key in memory; blank acts as zero (R290, R366). -/
def State.keyAt (s : State) (a : Nat) : List Nat :=
  let k := s.metBytes a 32
  if allOnes k then List.replicate 32 0 else k

/-- MROM_CMAC (R279, Table MET-1): a0 message, a1 its bytes, a2 key, a3 1 for an AES-256 key. -/
def execMromCmac (a0 a1 a2 a3 : Nat) (s : State) : Host.Outcome State Fault Refusal :=
  if !s.mayCall then .next s
  else
    let k := if a3 % 2 = 1 then 32 else 16
    let r := (({ s := s, ops := [], code := 0 } : Run).loads a2 k).loads a0 a1
    if r.code ≠ 0 then .next r.s
    else .next { r.s with mrom := { r.s.mrom with tag := cmacOf (s.metBytes a2 k) (s.metBytes a0 a1) } }

/-- MF_PROGRAM (R222, Table MET-1): a0 MFLASH address, a1 data in MSRAM, a2 double words. -/
def execMfProgram (a0 a1 a2 : Nat) (ops : List Nat) (s : State) : Host.Outcome State Fault Refusal :=
  callRoutine ops (fun r =>
    if a0 % 8 ≠ 0 ∨ a0 < 0x40000 ∨ 0x60000 < a0 + 8 * a2 then r.fail resBadFormat
    else (r.loads a1 (8 * a2)).programAll a0 (r.s.metBytes a1 (8 * a2))) s

/-- MF_ERASE (R222, Table MET-1). -/
def execMfErase (block : Nat) (ops : List Nat) (s : State) : Host.Outcome State Fault Refusal :=
  callRoutine ops (fun r => if block ≥ 32 then r.fail resBadFormat else r.erase block) s

/-! ### The calibration journal (R365 to R374) -/

/-- The base of journal slot `n`. -/
def jSlot (n : Nat) : Nat := 0x58000 + 0x100 * n

/-- A field of a journal slot. -/
def State.jField (s : State) (n off w : Nat) : Nat := s.load (metPhys + jSlot n + off) w

/-- What a record's TAG covers: the header, then the payload. -/
def recordTagged (b : List Nat) (len : Nat) : List Nat := b.take 16 ++ (b.drop 16).take len

/-- Whether KIND and LEN of a record are within their bounds (Table LREC-2). -/
def recordBounds (kind len : Nat) : Bool :=
  decide (1 ≤ kind) && decide (kind ≤ 8) && decide (len ≤ 216) && decide (len % 8 = 0)

/-- Whether a slot holds a valid record (R369). -/
def State.recordValid (s : State) (key : List Nat) (n : Nat) : Bool :=
  s.jField n 0 2 == 0x434A && s.jField n 2 1 == 1 && s.jField n 0xF8 8 == 0x434AA5C3 &&
    recordBounds (s.jField n 3 1) (s.jField n 8 2) && s.jField n 4 4 != 0 && s.jField n 4 4 != 0xFFFFFFFF &&
    (let b := s.bytes (metPhys + jSlot n) 256
     (b.drop 0xE8).take 16 == cmacOf key (recordTagged b (s.jField n 8 2)))

/-- Whether `n` double words from a MET address read erased. -/
def State.erasedRun (s : State) (a n : Nat) : Bool := (List.range n).all (fun i => s.dwordErased (metPhys + a + 8 * i))

/-- Whether a slot is blank (R369). -/
def State.slotBlank (s : State) (n : Nat) : Bool := s.erasedRun (jSlot n) 32

/-- The valid records as slot, KIND and SEQ. -/
def State.records (s : State) (key : List Nat) : List (Nat × Nat × Nat) :=
  ((List.range 32).filter (fun n => s.recordValid key n)).map (fun n => (n, s.jField n 3 1, s.jField n 4 4))

/-- N(k): the highest SEQ of a kind, 0 where it has no valid record (R370). -/
def highestOf (recs : List (Nat × Nat × Nat)) (k : Nat) : Nat :=
  ((recs.filter (fun x => x.2.1 == k)).map (fun x => x.2.2)).foldl max 0

/-- The highest SEQ in the journal. -/
def highestSeq (recs : List (Nat × Nat × Nat)) : Nat := (recs.map (fun x => x.2.2)).foldl max 0

/-- The slot in a block that holds a kind's record with SEQ N(k). -/
def holderOf (recs : List (Nat × Nat × Nat)) (b k : Nat) : Option Nat :=
  (recs.find? (fun x => x.1 / 16 == b && x.2.1 == k && x.2.2 == highestOf recs k)).map (fun x => x.1)

/-- Whether block `b`, 0 or 1, is complete (R370). -/
def complete (recs : List (Nat × Nat × Nat)) (b : Nat) : Bool :=
  (List.range 9).all (fun k => highestOf recs k == 0 || (holderOf recs b k).isSome)

/-- The first blank slot of a block after every slot that is not blank. -/
def State.freeRecord (s : State) (b : Nat) : Option Nat :=
  let n := 16 - ((List.range 16).reverse.takeWhile (fun i => s.slotBlank (16 * b + i))).length
  if n < 16 then some (16 * b + n) else none

/-- The block a switch copies from: the complete one, or the one with the higher SEQ. -/
def switchFrom (recs : List (Nat × Nat × Nat)) : Nat :=
  let top := fun b => highestSeq (recs.filter (fun x => x.1 / 16 == b))
  if complete recs 0 = complete recs 1 then (if top 1 > top 0 then 1 else 0) else if complete recs 1 then 1 else 0

/-- A record copied byte for byte from one slot to another; double words that read erased stay erased. -/
def Run.copyRecord (r : Run) (src dst : Nat) : Run :=
  (List.range 32).foldl (fun x i =>
    if x.s.dwordErased (metPhys + jSlot src + 8 * i) then x
    else x.program (jSlot dst + 8 * i) (x.s.bytes (metPhys + jSlot src + 8 * i) 8))
    (r.loads (jSlot src) 256)

/-- The switch of R371: the other block is erased and every kind's record carried into it. -/
def Run.switchBlock (r : Run) (recs : List (Nat × Nat × Nat)) : Run :=
  let x := switchFrom recs
  let y := 1 - x
  let srcs := (List.range 9).filterMap (fun k => holderOf recs x k)
  (srcs.zip (List.range 16)).foldl (fun a p => a.andThen (fun q => q.copyRecord p.1 (16 * y + p.2))) (r.erase (24 + y))

/-- A record programmed into a slot: header, payload and TAG in address order, COMMIT last (R371). -/
def Run.writeRecord (r : Run) (n len : Nat) (b : List Nat) : Run :=
  ((r.programAll (jSlot n) (b.take (16 + len))).programAll (jSlot n + 0xE8) ((b.drop 0xE8).take 16)).programAll
    (jSlot n + 0xF8) (leBytes 8 0x434AA5C3)

/-- The buffer with MAGIC, FORMAT, SEQ and TAG filled in. -/
def fillRecord (key buf : List Nat) (seq : Nat) : List Nat :=
  let head := leBytes 2 0x434A ++ [1] ++ (buf.drop 3).take 1 ++ leBytes 4 seq ++ (buf.drop 8).take 8
  let body := head ++ (buf.drop 16).take 216
  body ++ cmacOf key (recordTagged body (leNat ((buf.drop 8).take 2))) ++ buf.drop 0xF8

/-- The algorithm of R371. -/
def Run.journalCommit (r : Run) (a0 a1 : Nat) : Run :=
  let r0 := (r.loads a1 32).loads a0 256
  let key := r.s.keyAt a1
  let buf := r.s.metBytes a0 256
  let len := leNat ((buf.drop 8).take 2)
  if r0.code ≠ 0 then r0
  else if !recordBounds (buf.getD 3 0) len then r0.fail resBadFormat
  else
    let r1 := if r.s.mrom.journal then r0 else r0.loads (jSlot 0) 8192
    let r2 := r1.map (fun s => { s with mrom := { s.mrom with journal := true } })
    let recs := r2.s.records key
    let seq := highestSeq recs + 1
    if r1.code ≠ 0 then r1
    else if seq ≥ 0xFFFFFFFF then r2.fail resLogFull
    else
      let filled := fillRecord key buf seq
      let r3 := (r2.stores a0 (filled.take 8)).stores (a0 + 0xE8) ((filled.drop 0xE8).take 16)
      let w := [0, 1].find? (fun b => complete recs b && (r3.s.freeRecord b).isSome)
      let r4 := if w.isSome then r3 else r3.andThen (fun x => x.switchBlock recs)
      let blk := w.getD (1 - switchFrom recs)
      let r5 := r4.andThen (fun x =>
        match x.s.freeRecord blk with
        | some n => x.writeRecord n len filled
        | none => x.fail resFlashFail)
      if r5.code = resProtWrite then { r5 with code := resFlashFail } else r5

/-- JOURNAL_COMMIT (R371, R374). -/
def execJournalCommit (a0 a1 : Nat) (ops : List Nat) (s : State) : Host.Outcome State Fault Refusal :=
  callRoutine ops (fun r => r.journalCommit a0 a1) s

/-! ### The legal event log (R375 to R377) -/

/-- The base of entry `e`. -/
def logEntryBase (e : Nat) : Nat := 0x5A000 + 0x20 * (e % 512)

/-- The SEQ of entry `e`. -/
def State.entrySeq (s : State) (e : Nat) : Nat := s.load (metPhys + logEntryBase e) 4

/-- Whether an entry is blank (R375). -/
def State.entryBlank (s : State) (e : Nat) : Bool := s.erasedRun (logEntryBase e) 4

/-- Whether an entry is valid (R375). -/
def State.entryValid (s : State) (key : List Nat) (e : Nat) : Bool :=
  !s.entryBlank e && s.entrySeq e != 0 &&
    (let b := s.bytes (metPhys + logEntryBase e) 32
     b.drop 24 == (cmacOf key (b.take 24)).take 8)

/-- The valid entry with the highest SEQ. -/
def State.lastEntry (s : State) (key : List Nat) : Option Nat :=
  ((List.range 512).filter (fun e => s.entryValid key e)).foldl (fun m e =>
    match m with
    | none => some e
    | some x => if s.entrySeq e > s.entrySeq x then some e else some x) none

/-- The torn entries after entry `e` in its block (R376). -/
def State.tornAfter (s : State) (e : Nat) : Nat :=
  ((List.range (127 - e % 128)).takeWhile (fun i => !s.entryBlank (e + 1 + i))).length

/-- The cursor rebuilt: next position and SEQ, and the torn entries skipped (R376). -/
def State.rebuildLog (s : State) (key : List Nat) : (Nat × Nat) × Nat :=
  match s.lastEntry key with
  | none => ((0, 1), 0)
  | some e => (((e + 1 + s.tornAfter e) % 512, s.entrySeq e + 1), s.tornAfter e)

/-- The cursor set. -/
def Run.setCursor (r : Run) (c : Option (Nat × Nat)) : Run := r.map (fun s => { s with mrom := { s.mrom with cursor := c } })

/-- An entry's bytes (Table LREC-4). -/
def entryBytes (key : List Nat) (seq utime code flags : Nat) (data : List Nat) : List Nat :=
  let b := leBytes 4 seq ++ leBytes 4 utime ++ leBytes 2 code ++ [flags % 256, data.length] ++ data ++
    List.replicate (12 - data.length) 0
  b ++ (cmacOf key b).take 8

/-- One entry written at the cursor, its block erased first where it begins there (R376); at the last SEQ the log freezes
(R377).  After a failed operation the cursor is rebuilt at the next call. -/
def Run.writeEntry (r : Run) (key : List Nat) (utime code flags : Nat) (data : List Nat) : Run :=
  if r.code ≠ 0 then r
  else
    match r.s.mrom.cursor with
    | none => r
    | some (pos, seq) =>
      if seq > 0xFFFFFFFF then r.fail resLogFull
      else
        let frozen := seq == 0xFFFFFFFF
        let b := if frozen then entryBytes key seq utime 0x0381 flags [] else entryBytes key seq utime code flags data
        let q := if pos % 128 = 0 then r.loads (logEntryBase pos) 4096 else r
        let r1 := if pos % 128 = 0 && !r.s.erasedRun (logEntryBase pos) 512 then q.erase (26 + pos / 128) else q
        let r2 := r1.programAll (logEntryBase pos) b
        if r2.code ≠ 0 then r2.setCursor none
        else
          let r3 := r2.setCursor (some ((pos + 1) % 512, seq + 1))
          if frozen then r3.fail resLogFull else r3

/-- EVLOG_APPEND's algorithm (R376): a rebuild first where the cursor is not kept, and then its report. -/
def Run.evlogAppend (r : Run) (key : List Nat) (utime code flags : Nat) (data : List Nat) : Run :=
  let r1 :=
    if r.s.mrom.cursor.isSome then r
    else
      let c := r.s.rebuildLog key
      let q := (r.loads (logEntryBase 0) 16384).andThen (fun x => x.setCursor (some c.1))
      if c.2 = 0 then q else q.writeEntry key utime 0x0382 (flags % 8) [c.2]
  r1.writeEntry key utime code flags data

/-- EVLOG_APPEND (R376, R377). -/
def execEvlogAppend (a0 a1 a2 a3 a4 : Nat) (ops : List Nat) (s : State) : Host.Outcome State Fault Refusal :=
  callRoutine ops (fun r =>
    let len := a3 % 256
    if len > 12 then r.fail resBadFormat
    else
      let q := ((r.loads a2 len).loads a4 32).evlogAppend (r.s.keyAt a4) a1 a0 (bitsOf a3 8 8) (r.s.metBytes a2 len)
      if q.code = resProtWrite then { q with code := resFlashFail } else q) s

/-- The untimed mark and the seal state as FLAGS carries them (Table LREC-4, R379). -/
def State.recordFlags (s : State) : Nat :=
  s.rd R.AON.RST_CAUSE.TIME_UNSET + 2 * s.rd R.MPWR.SEAL_STATUS.STATE

/-- An event that MROM itself writes to the legal event log, under the K_MET of MFLASH (R365, R366). -/
def Run.mromLog (r : Run) (code : Nat) (data : List Nat) : Run :=
  let q := (({ r with code := 0 } : Run).loads 0x5E000 32).evlogAppend (r.s.keyAt 0x5E000) r.s.utime code r.s.recordFlags data
  if q.code = resCut then q else { q with code := r.code }

/-! ### Legal images (R290 to R294) -/

/-- The base of legal image slot `t`, 1 A or 2 B. -/
def imgBase (t : Nat) : Nat := 0x40000 + 0xC000 * (t - 1)

/-- A field of a legal image trailer (Table MET-7). -/
def State.imgField (s : State) (t off w : Nat) : Nat := s.load (metPhys + imgBase t + off) w

def State.imgGen (s : State) (t : Nat) : Nat := s.imgField t 0xBFC4 4
def State.imgVersion (s : State) (t : Nat) : Nat := s.imgField t 0xBFCC 4
def State.imgTag4 (s : State) (t : Nat) : Nat := s.imgField t 0xBFE0 4
def State.imgLen (s : State) (t : Nat) : Nat := s.imgField t 0xBFD0 4

/-- Whether the field bounds of a trailer hold. -/
def State.imgBounds (s : State) (t : Nat) : Bool :=
  let wdt := s.imgField t 0xBFC9 1
  s.imgField t 0xBFC0 4 == 0x4C470420 && s.imgGen t != 0xFFFFFFFF && decide (s.imgField t 0xBFC8 1 ≤ 64) &&
    (wdt == 0 || (decide (2 ≤ wdt) && decide (wdt ≤ 64))) && decide (s.imgLen t ≤ 0xBFC0) &&
    decide (s.imgField t 0xBFD4 4 < s.imgLen t)

/-- Whether a rollback index passes a counter (R146, R255, R290). -/
def rollbackOk (idx counter : Nat) : Bool := decide (idx ≥ counter) && (decide (counter < 64) || idx == 64)

/-- Whether K_LIM is blank. -/
def State.limBlank (s : State) : Bool := allOnes (s.metBytes 0x5F000 32)

/-- The check of R290: 0, TAG_BAD or ROLLBACK_LOW; `committed` takes COMMIT as committed (R293). -/
def State.imgCheck (s : State) (t : Nat) (committed : Bool) : Nat :=
  if !s.imgBounds t || !(committed || s.imgField t 0xBFF8 8 == 0x4C5AA5C3) then resTagBad
  else if !rollbackOk (s.imgField t 0xBFC8 1) (s.otp.arb.getD 2 0) then resRollbackLow
  else if s.limBlank && s.sealClosed then resTagBad
  else
    let b := metPhys + imgBase t
    if s.bytes (b + 0xBFE0) 16 == cmacOf (s.keyAt 0x5F000) (s.bytes b (s.imgLen t) ++ s.bytes (b + 0xBFC0) 32) then 0
    else resTagBad

/-- The check of R290 as a routine makes it: the trailer read, and K_LIM with the code where the bounds hold. -/
def Run.imgCheck (r : Run) (t : Nat) (committed : Bool) : Run × Nat :=
  let q := r.loads (imgBase t + 0xBFC0) 64
  (if r.s.imgBounds t then (q.loads 0x5F000 32).loads (imgBase t) (r.s.imgLen t) else q, r.s.imgCheck t committed)

/-- An entry of the switch log as GEN and slot, where it is valid. -/
def State.switchEntry (s : State) (i : Nat) : Option (Nat × Nat) :=
  let v := s.load (metPhys + 0x5F040 + 8 * i) 8
  let t := bitsOf v 32 8
  if v / 2 ^ 40 = 0x4C5357 ∧ (t = 1 ∨ t = 2) then some (v % 2 ^ 32, t) else none

/-- The valid entry with the highest index (R291). -/
def State.lastSwitch (s : State) : Option (Nat × Nat) :=
  ((List.range 504).reverse.find? (fun i => (s.switchEntry i).isSome)).bind s.switchEntry

/-- The first of two slots that is valid, each with what else it has to meet, with its place among them. -/
def Run.firstValid (r : Run) (t u : Nat) (alsoT : Bool) : Run × Nat × Bool :=
  let a := r.imgCheck t false
  if a.2 = 0 ∧ alsoT = true then (a.1, t, false)
  else
    let b := a.1.imgCheck u false
    if b.2 = 0 then (b.1, u, true) else (b.1, 0, false)

/-- The choice of R291: the slot, 0 for none, and whether the entry's own slot failed. -/
def Run.chooseImage (r : Run) : Run × Nat × Bool :=
  let q := r.loads 0x5F040 4032
  match r.s.lastSwitch with
  | some (g, t) => q.firstValid t (3 - t) (r.s.imgGen t == g)
  | none =>
    let c := q.firstValid 1 2 true
    (c.1, c.2.1, false)

/-- A write to one of the IMG registers: only the first after a MET-scope reset takes effect (R291). -/
def State.imgWrite (s : State) (addr data : Nat) : State :=
  if s.mrom.imgSet.contains addr then s
  else ({ s with mrom := { s.mrom with imgSet := s.mrom.imgSet ++ [addr] } } : State).writeReg addr data

/-- A write to WDT.PERIOD: only the first after a MET reset takes effect (Table START-13); the field holds the value as
written (R730). -/
def State.metPeriod (s : State) (p : Nat) : State :=
  if s.mrom.wdtSet then s
  else (({ s with mrom := { s.mrom with wdtSet := true } } : State).wr R.MPWR.WDT.PERIOD p).feedMet

/-- A write to MPROT.ACTIVE: only the first after a MET-scope reset takes effect (ch. 09). -/
def State.writeActive (s : State) (v : Nat) : State :=
  if s.activeWritten then s else ({ s with activeWritten := true } : State).wr R.MFLASHC.MPROT.ACTIVE v

/-- MROM passes control to slot `t` (R291). -/
def State.bootImage (s : State) (t : Nat) : State :=
  let word := t + 2 ^ 8 * s.imgField t 0xBFC8 1
  let wdt := s.imgField t 0xBFC9 1
  let s1 := (((s.writeActive t).imgWrite 0x4800C0B0 (s.imgVersion t)).imgWrite 0x4800C0B4 (s.imgGen t)).imgWrite 0x4800C0B8
    (s.imgTag4 t)
  let s2 := (s1.imgWrite 0x4800C0BC word).metPeriod (if wdt = 0 then 16 else wdt)
  { s2 with mrom := { s2.mrom with noImage := false } }

/-- The error indication of R358. -/
def State.showError (s : State) : State :=
  let s1 := forEach 4 (fun n a =>
    (a.wr (R.LCD.SEG_COM.SEG n) (if n = 0 then 0x0FFFFFFF else 0)).wr (R.LCD.BLINK_COM.BLINK n)
      (if n = 0 then 0x0FFFFFFF else 0)) s
  let s2 := ((s1.wr R.LCD.CFG.CONTRAST 20).wr R.LCD.CFG.TCOMP 6).wr R.LCD.CFG.BLINK 2
  ((s2.raise R.LCD.CFG.EN).raise R.LCD.CTRL.SWAP).lcdFollow

/-- MROM without a legal image (R151). -/
def State.waitForImage (s : State) : State :=
  let s1 := (s.showError.imgWrite 0x4800C0BC 4).metPeriod 16
  let s2 := (s1.wr (R.PWR.WAKE_EN.EN .met) (2 ^ 10)).clear R.MPWR.MCTL.RUN
  ({ s2 with mrom := { s2.mrom with noImage := true } } : State).updateMode

/-- The choice of R291 carried out. -/
def Run.choose (r : Run) : Run :=
  let c := r.chooseImage
  if c.2.1 = 0 then (c.1.mromLog 0x0310 []).map State.waitForImage
  else (if c.2.2 then c.1.mromLog 0x0312 [] else c.1).map (fun s => s.bootImage c.2.1)

/-- A MET start: MROM from its first instruction (R151, R291). -/
def State.mromStart (s : State) (ops : List Nat) : State :=
  let s1 : State := { s with mrom := { s.mrom with cursor := none, journal := false, noImage := false } }
  let r : Run := { s := s1.feedMet, ops := ops, code := 0 }
  let r1 := if r.s.limBlank && !r.s.sealClosed then r.mromLog 0x0313 [] else r
  (if r1.code = resCut then r1 else r1.choose).s.loseRoutineArea

/-- Whether a chunk's fields are within bounds (Table MET-8, R292). -/
def chunkOk (h : List Nat) (len : Nat) : Bool :=
  let count := leNat ((h.drop 4).take 2)
  let off := leNat ((h.drop 8).take 4)
  leNat (h.take 2) == 0x4C43 && (h.getD 2 0 == 1 || h.getD 2 0 == 2) && decide (count % 8 = 0) && decide (count ≤ 496) &&
    decide (off % 8 = 0) && decide (off + count ≤ 0xC000) && decide (16 + count ≤ len)

/-- One payload double word of a chunk (R292). -/
def Run.chunkWord (r : Run) (a t : Nat) (d : List Nat) : Run :=
  if allOnes d || a == imgBase t + 0xBFF8 then r
  else
    let q := r.loads a 8
    if r.s.metBytes a 8 == d then q else q.program a d

/-- LIMG_CHUNK's algorithm (R292).  A slot that MET does not own is no chunk's (Table MET-1): BAD_FORMAT, with no access of
it (DESIGN CHOICE, log entry 134). -/
def Run.chunk (r : Run) (slot : Nat) : Run :=
  let h := r.s.bytes (slotAddr slot) 16
  let t := h.getD 2 0
  if (r.s.slot slot).owner ≠ ownMet then r.fail resBadFormat
  else if !chunkOk h (r.s.slot slot).len then r.fail resBadFormat
  else if t = r.s.rd R.MFLASHC.MPROT.ACTIVE then r.fail resActiveTarget
  else
    let r1 := if bit (h.getD 3 0) 0 then (List.range 12).foldl (fun a i => a.erase (12 * (t - 1) + i)) r else r
    let count := leNat ((h.drop 4).take 2)
    let a := imgBase t + leNat ((h.drop 8).take 4)
    (List.range (count / 8)).foldl (fun x i => x.chunkWord (a + 8 * i) t (r.s.bytes (slotAddr slot + 16 + 8 * i) 8)) r1

/-- MROM's service of a slot of MET while it has no image (R294): the result is stored as any access of MCORE is, and may be
refused (R16). -/
def Run.serveSlot (r : Run) (slot : Nat) : Run :=
  let h := r.s.bytes (slotAddr slot) 16
  let q := r.chunk slot
  if (r.s.slot slot).owner ≠ ownMet ∨ q.code = resCut then q
  else
    let giver := (q.s.slot slot).giver
    let s1 := q.s.memAccess .met 1 kindWrite 4 (slotAddr slot) q.code true
    let q1 : Run := { q with s := (s1.give ownMet slot giver 4).1, code := 0 }
    let c := if q.code == 0 && bit (h.getD 3 0) 1 then q1.imgCheck (h.getD 2 0) false else (q1, resTagBad)
    let q2 := if c.2 = 0 then c.1.andThen Run.choose else c.1
    { q2 with code := if q2.code = resCut then resCut else q.code }

/-- LIMG_CHUNK (R292); in the no-image state it is MROM that serves the slot (R294). -/
def execLimgChunk (slot : Nat) (ops : List Nat) (s : State) : Host.Outcome State Fault Refusal :=
  callRoutine ops (fun r => if r.s.mrom.noImage then r.serveSlot slot else r.chunk slot) s

/-- LIMG_CHECK (Table MET-1, R290). -/
def execLimgCheck (target : Nat) (s : State) : Host.Outcome State Fault Refusal :=
  callRoutine [] (fun r =>
    if target = 1 ∨ target = 2 then
      let c := r.imgCheck target false
      c.1.andThen (fun q => q.fail c.2)
    else r.fail resBadFormat) s

/-- The first unused entry of the switch log. -/
def State.freeSwitch (s : State) : Option Nat :=
  let n := 504 - ((List.range 504).reverse.takeWhile (fun i => s.dwordErased (metPhys + 0x5F040 + 8 * i))).length
  if n < 504 then some n else none

/-- LIMG_SWITCH's algorithm (R293).  The DATA of its event has room for the new VERSION, GEN and TAG bytes only. -/
def Run.limgSwitch (r : Run) (t : Nat) : Run :=
  if t ≠ 1 ∧ t ≠ 2 then r.fail resBadFormat
  else if r.s.blockProtected 3 31 then r.fail resProtWrite
  else
    let q := r.loads 0x5F040 4032
    match r.s.freeSwitch with
    | none => q.andThen (fun x => x.fail resLogFull)
    | some i =>
      let c := q.imgCheck t true
      if c.2 ≠ 0 ∨ c.1.code ≠ 0 then c.1.andThen (fun x => x.fail c.2)
      else
        let r1 := if r.s.dwordErased (metPhys + imgBase t + 0xBFF8) then
            c.1.program (imgBase t + 0xBFF8) (leBytes 8 0x4C5AA5C3)
          else c.1
        let e := leBytes 4 (r.s.imgGen t) ++ [t] ++ leBytes 3 0x4C5357
        (r1.program (0x5F040 + 8 * i) e).andThen (fun q =>
          q.mromLog 0x0311 (leBytes 4 (q.s.imgVersion t) ++ leBytes 4 (q.s.imgGen t) ++ leBytes 4 (q.s.imgTag4 t)))

/-- LIMG_SWITCH (R293). -/
def execLimgSwitch (target : Nat) (ops : List Nat) (s : State) : Host.Outcome State Fault Refusal :=
  callRoutine ops (fun r => r.limgSwitch target) s

/-! ### The energy check (R367, R386) -/

/-- ECHK_START: ignored while a check runs; FRESH clears when a new one starts. -/
def State.echkStart (s : State) : State :=
  if !s.metRuns || s.flag R.MPWR.ECHK.BUSY then s else (s.raise R.MPWR.ECHK.BUSY).clear R.MPWR.ECHK.FRESH

/-- ECHK_START (R367). -/
def execEchkStart (s : State) : Host.Outcome State Fault Refusal := .next s.echkStart

/-- V_ECHK in mV. -/
def State.vEchk (s : State) : Nat := 2100 + 10 * min 45 (s.rd R.MPWR.ECHK.THR)

/-- The energy check ends (R367): VLOAD against V_ECHK.  A VLOAD above what its 12 bits hold reads as 4,095 (log entry
139). -/
def State.echkEnd (s : State) (vload : Nat) : State :=
  let v := min 4095 vload
  let s1 := (s.wr R.MPWR.ECHK.VLOAD v).clear R.MPWR.ECHK.BUSY
  if v ≥ s.vEchk then (s1.raise R.MPWR.ECHK.PASS).raise R.MPWR.ECHK.FRESH
  else ((s1.clear R.MPWR.ECHK.PASS).raise R.MPWR.ECHK.FAIL).logMet 0x0108 (leBytes 2 v ++ leBytes 2 s.vEchk)

/-- ECHK_FRESH_END (R367): 2 ms have passed. -/
def execEchkFreshEnd (s : State) : Host.Outcome State Fault Refusal := .next (s.clear R.MPWR.ECHK.FRESH)

/-! ### The MET event queue (R378, R385) -/

/-- The oldest entry removed. -/
def State.evqPop (s : State) : State :=
  let s1 : State := { s with logs := { s.logs with met := s.logs.met.tail } }
  s1.wr R.MSYSCTL.EVQ_STATUS.COUNT s1.logs.met.length

/-- EVQ_POP (R385). -/
def execEvqPop (s : State) : Host.Outcome State Fault Refusal := .next (if s.metRuns then s.evqPop else s)

end Sys2Proof.Machine
end

