-- ==== Sys2Proof/Machine/Cmac.lean ====
section
/-! DEFINITION. CMACE (ch. 22) and the keys (ch. 23): key slots and their loads, the five jobs with the domain rule, the
two contexts, and the mesh frame counters at their end. -/

namespace Sys2Proof.Machine

open Sys2Proof

/-! ### Key slots (R569 to R572) -/

/-- The bytes of a key slot. -/
def State.keyBytes (s : State) (n : Nat) : List Nat := s.cmac.keys.getD n []

/-- The bytes of a key slot replaced. -/
def State.setKeyBytes (s : State) (n : Nat) (k : List Nat) : State :=
  { s with cmac := { s.cmac with keys := s.cmac.keys.set n k } }

/-- Attribute bits: MAC, CHAIN_TAP, PRF, EXPORT_DERIVED. -/
def attrMac : Nat := 0
def attrChain : Nat := 1
def attrPrf : Nat := 2
def attrExport : Nat := 3

/-- Whether a slot holds a usable key with an attribute (R573). -/
def State.keyHas (s : State) (n attr : Nat) : Bool :=
  s.flag (R.CMACE.SLOT.VALID n) && !s.flag (R.CMACE.SLOT.HALF n) && s.rdBit (R.CMACE.SLOT.ATTR n) attr

/-- A slot loaded whole. -/
def State.putKey (s : State) (n size attr : Nat) (romonly : Bool) (k : List Nat) : State :=
  let s1 := ((s.setKeyBytes n k).wr (R.CMACE.SLOT.SIZE n) size).wr (R.CMACE.SLOT.ATTR n) attr
  ((s1.wrBool (R.CMACE.SLOT.ROMONLY n) romonly).clear (R.CMACE.SLOT.HALF n)).raise (R.CMACE.SLOT.VALID n)

/-- A slot empty. -/
def State.emptyKey (s : State) (n : Nat) : State :=
  let s1 := ((s.setKeyBytes n []).clear (R.CMACE.SLOT.VALID n)).clear (R.CMACE.SLOT.SIZE n)
  ((s1.clear (R.CMACE.SLOT.ATTR n)).clear (R.CMACE.SLOT.ROMONLY n)).clear (R.CMACE.SLOT.HALF n)

/-- VALID of a slot cleared (R570). -/
def State.eraseKey (s : State) (n : Nat) : State :=
  if 1 ≤ n ∧ n ≤ 7 then s.clear (R.CMACE.SLOT.VALID n) else s

/-- The bytes of KEY_DATA0 to KEY_DATA7. -/
def State.keyData (s : State) : List Nat := (List.range 8).flatMap (fun n => leBytes 4 (s.rd (R.CMACE.KEY_DATA.DATA n)))

/-- The 16 bytes of IV0 to IV3. -/
def State.ivBytes (s : State) : List Nat := (List.range 4).flatMap (fun n => leBytes 4 (s.rd (R.CMACE.IV.IV n)))

/-- The 16 bytes of TAG0 to TAG3. -/
def State.tagBytes (s : State) : List Nat := (List.range 4).flatMap (fun n => leBytes 4 (s.rd (R.CMACE.TAG.TAG n)))

/-- IV0 to IV3 set. -/
def State.setIv (s : State) (b : List Nat) : State :=
  forEach 4 (fun n a => a.wr (R.CMACE.IV.IV n) (leNat ((b.drop (4 * n)).take 4))) s

/-- TAG0 to TAG3 set. -/
def State.setTag (s : State) (b : List Nat) : State :=
  forEach 4 (fun n a => a.wr (R.CMACE.TAG.TAG n) (leNat ((b.drop (4 * n)).take 4))) s

/-- DICT's class keys derived again from slot 4 (R597); none while slot 4 cannot derive. -/
def State.deriveClassKeys (s : State) : State :=
  let ks := if s.keyHas 4 attrPrf then (List.range 4).map (fun c => derive128 (s.keyBytes 4) labelDcls [c]) else []
  { s with cmac := { s.cmac with classKeys := ks } }

/-- What the load of a slot does beside the key: the counters of slots 2, 3 and 5, the replay floors, the class keys
(R470, R570, R597, R603, R604). -/
def State.afterLoad (s : State) (n : Nat) : State :=
  let s1 : State :=
    { s with cmac :=
        { s.cmac with
          warned := s.cmac.warned.filter (fun x => x != n), exhausted := s.cmac.exhausted.filter (fun x => x != n) } }
  if n = 2 then
    let s2 := s1.clear R.CMACE.FCNT2.FC
    let s3 := forEach 4 (fun i a => a.clear (R.DICT.FLOOR.FC i)) s2
    s3.wr R.DICT.FLOOR_STAT.UNSET (s3.rd R.DICT.FLOOR_STAT.UNSET ||| 0xF)
  else if n = 3 then (s1.clear R.LINK.WMB_MCNT.MCNT).clear R.LINK.WMB_STAT.MCNT_UNSET
  else if n = 4 then s1.deriveClassKeys
  else if n = 5 then s1.clear R.CMACE.FCNT5.FC
  else s1

/-- The reason a load is refused (R572), 0 for none. -/
def State.loadRefusal (s : State) (n : Nat) (wrap : Bool) (ws : Nat) : Nat :=
  if n = 0 then 1
  else if wrap && !(s.flag (R.CMACE.SLOT.VALID ws) && s.rdBit (R.CMACE.SLOT.ATTR ws) attrPrf) then 2
  else if wrap && !(decide (0x20 ≤ s.ivBytes.getD 0 0) && decide (s.ivBytes.getD 0 0 ≤ 0x2F)) then 3
  else 0

/-- A write of KEY_CTL with LOAD = 1, plain or wrapped (R570 to R572). -/
def State.keyLoad (s : State) (ctl : Nat) (wrap : Bool) : State :=
  let n := bitsOf ctl 0 3
  let size := bitsOf ctl 4 1
  let ws := 8 + bitsOf ctl 13 1
  let r := s.loadRefusal n wrap ws
  if r ≠ 0 then
    ((s.wr R.CMACE.KEY_STATUS.RESULT r).raise R.CMACE.KEY_STATUS.REFUSED).log 0x0762 []
  else
    let raw := s.keyData.take (if size = 1 then 32 else 16)
    let k := if wrap then kstream (s.keyBytes ws) s.ivBytes raw else raw
    let s1 := s.putKey n size (bitsOf ctl 8 4) false k
    let s2 := forEach 8 (fun i a => a.clear (R.CMACE.KEY_DATA.DATA i)) s1
    (((s2.clear R.CMACE.KEY_STATUS.RESULT).raise R.CMACE.KEY_STATUS.LOADED).log 0x0761 [n]).afterLoad n

/-- What a register command of the application side does: nothing while APP is not On, since no access is made then. -/
def State.ifApp (s : State) (f : State → State) : Host.Outcome State Fault Refusal :=
  .next (if s.railPowered .app then f s else s)

/-- KEY_LOAD (R570, R572). -/
def execKeyLoad (ctl : Nat) (s : State) : Host.Outcome State Fault Refusal := s.ifApp (fun a => a.keyLoad ctl false)

/-- KEY_WRAPPED_LOAD (R571, R572). -/
def execKeyWrappedLoad (ctl : Nat) (s : State) : Host.Outcome State Fault Refusal := s.ifApp (fun a => a.keyLoad ctl true)

/-- KEY_ERASE (R570). -/
def execKeyErase (ctl : Nat) (s : State) : Host.Outcome State Fault Refusal := s.ifApp (fun a => a.eraseKey (bitsOf ctl 0 3))

/-! ### The contexts (R582, R583) -/

/-- CMAC_PREEMPT (R583): the BACKGROUND job is suspended at the end of the block in progress. -/
def execCmacPreempt (s : State) : Host.Outcome State Fault Refusal :=
  if s.cmac.background.isEmpty || s.cmac.urgent.isEmpty || s.cmac.suspended then .next s
  else .next ((s.setContexts s.cmac.background s.cmac.urgent true).count R.CMACE.COUNTS.PREEMPTS 1)

/-! ### Checks at START (R573 to R581, R586) -/

/-- Table CMAC-5. -/
def cmacOk : Nat := 0
def cmacBadOp : Nat := 1
def cmacBadLen : Nat := 2
def cmacKey : Nat := 3
def cmacDomain : Nat := 4
def cmacRom : Nat := 5
def cmacExport : Nat := 6
def cmacFault : Nat := 7
def cmacAborted : Nat := 8

/-- The operations of Table CMAC-2. -/
def opMac : Nat := 1
def opVerify : Nat := 2
def opChain : Nat := 3
def opKstream : Nat := 4
def opDerive : Nat := 5

/-- The attribute an operation needs. -/
def opAttr (op : Nat) : Nat := if op = opChain then attrChain else if op = opKstream ∨ op = opDerive then attrPrf else attrMac

/-- Whether a job writes to DST. -/
def CmacJob.hasDst (j : CmacJob) : Bool := j.op == opChain || j.op == opKstream || (j.op == opDerive && j.exportKey)

/-- The job that the registers describe, with its key latched. -/
def State.registerJob (s : State) (user op : Nat) : CmacJob :=
  let slot := s.rd R.CMACE.JOB_CTL.SLOT
  let t := s.rd R.CMACE.JOB_CTL.TLEN
  let h := s.rd R.CMACE.JOB_CTL.DHALF
  { user := user, op := op, final := s.flag R.CMACE.JOB_CTL.FINAL, slot := slot, key := s.keyBytes slot
    dhalf := if h = 3 then 0 else h, dattr := s.rd R.CMACE.JOB_CTL.DATTR, dslot := 8 + s.rd R.CMACE.JOB_CTL.DSLOT
    exportKey := s.flag R.CMACE.JOB_CTL.EXPORT, tlen := if t = 0 then 16 else max 8 t
    src0 := s.rd (R.CMACE.SRC.ADDR 0), len0 := s.rd (R.CMACE.LEN.LEN 0)
    src1 := s.rd (R.CMACE.SRC.ADDR 1), len1 := s.rd (R.CMACE.LEN.LEN 1)
    dst := s.rd R.CMACE.DST.ADDR, iv := s.ivBytes, tag := s.tagBytes }

/-- The address of the first byte of a job's input; a segment of length 0 is skipped (R574). -/
def CmacJob.firstAddr (j : CmacJob) : Nat := if j.len0 = 0 then j.src1 else j.src0

/-- Byte 0 of the first input block, or of the template (R580). -/
def State.firstByte (s : State) (j : CmacJob) : Nat :=
  if j.op = opKstream then j.iv.getD 0 0 else (s.appBytes j.firstAddr 1).getD 0 0

/-- Whether the lengths of a job are wrong (R574, R578). -/
def CmacJob.badLen (j : CmacJob) : Bool :=
  let n := j.len0 + j.len1
  if j.op = opKstream then j.len1 != 0 || decide (leNat (j.iv.drop 14) + (j.len0 + 15) / 16 > 0x10000)
  else j.len0 % 16 != 0 || n == 0 || n % 16 != 0 || (j.op == opDerive && decide (n > 64))

/-- Whether a job names an operation, slot or output that does not exist (Table CMAC-5). -/
def CmacJob.badOp (j : CmacJob) : Bool :=
  j.op == 0 || decide (j.op ≥ 6) || decide (j.slot > 9) ||
    (j.hasDst && !(j.dst % 4 == 0 && decide (0x20000000 ≤ j.dst) && decide (j.dst < 0x20020000))) ||
    (j.op == opDerive && decide (j.slot ≥ 8) && j.dslot == j.slot)

/-- Whether the high half of a session key fits no low half (R579). -/
def State.halfMismatch (s : State) (j : CmacJob) : Bool :=
  j.op == opDerive && !j.exportKey && j.dhalf == 2 &&
    !(s.flag (R.CMACE.SLOT.HALF j.dslot) && s.rd (R.CMACE.SLOT.ATTR j.dslot) == j.dattr &&
      s.cmac.halfParent.getD (j.dslot - 8) 0 == j.slot)

/-- Whether a job of the registers breaks the domain rule (R577, R580). -/
def State.breaksDomain (s : State) (j : CmacJob) : Bool :=
  let b := s.firstByte j
  let prf := s.rdBit (R.CMACE.SLOT.ATTR j.slot) attrPrf
  (j.op == opChain && (prf || s.rdBit (R.CMACE.SLOT.ATTR j.slot) attrMac)) || (j.op == opDerive && decide (b > 0x3F)) ||
    ((j.op == opMac || j.op == opKstream) && prf && decide (b < 0x40))

/-- Whether a job that is not ROM-marked uses slot 0 or what comes from it (R581). -/
def State.breaksRom (s : State) (j : CmacJob) : Bool := j.user != 6 && (j.slot == 0 || s.flag (R.CMACE.SLOT.ROMONLY j.slot))

/-- Whether a derivation may not be exported (R580). -/
def State.breaksExport (s : State) (j : CmacJob) : Bool :=
  let b := s.firstByte j
  j.op == opDerive && j.exportKey &&
    !(decide (0x10 ≤ b) && decide (b ≤ 0x1F) && s.rdBit (R.CMACE.SLOT.ATTR j.slot) attrExport)

/-- Whether the check itself reads byte 0 from memory. -/
def State.readsFirst (s : State) (j : CmacJob) : Bool :=
  j.op == opDerive || (j.op == opMac && s.rdBit (R.CMACE.SLOT.ATTR j.slot) attrPrf)

/-- What START finds wrong with a job of the registers, in the order of Table CMAC-5: its code and, for a fault in
reading byte 0, its address and cause. -/
def State.checkJob (s : State) (j : CmacJob) : Nat × Option (Nat × Nat) :=
  if j.badOp then (cmacBadOp, none)
  else if j.badLen then (cmacBadLen, none)
  else if !s.keyHas j.slot (opAttr j.op) || (j.slot == 0 && j.op != opDerive) || s.halfMismatch j then (cmacKey, none)
  else
    match if s.readsFirst j then s.firstFault 12 kindRead 1 j.firstAddr else none with
    | some f => (cmacFault, some f)
    | none =>
      if s.breaksDomain j then (cmacDomain, none)
      else if s.breaksRom j then (cmacRom, none)
      else if s.breaksExport j then (cmacExport, none)
      else (cmacOk, none)

/-! ### Ends of a job (R586, R587) -/

/-- A job of the registers ended with a result: DERIVE that is not OK leaves its session slot not VALID. -/
def State.endJob (s : State) (j : CmacJob) (result : Nat) : State :=
  let s1 := (s.wr R.CMACE.STATUS.RESULT result).raise R.CMACE.STATUS.DONE
  let s2 := if result = cmacOk then s1 else s1.raise R.CMACE.STATUS.ERR
  let s3 :=
    if j.op == opDerive && !j.exportKey && result != cmacOk then s2.clear (R.CMACE.SLOT.VALID j.dslot) else s2
  let s4 := ((s3.clear R.CMACE.JOB_CTL.START).count R.CMACE.COUNTS.JOBS 1).syncCmac
  if cmacKey ≤ result ∧ result ≤ cmacExport then s4.logMinute 0x0760 []
  else s4

/-- A job of the registers ended by a bus fault of CMACE. -/
def State.faultJob (s : State) (j : CmacJob) (kind : Nat) (f : Nat × Nat) : State :=
  (((s.busFault .app 12 kind f.2 f.1).wr R.CMACE.STATUS.CAUSE f.2).endJob j cmacFault).log 0x0763 []

/-- Whether a user finds CMACE powered: with APP On; the link engine at L5 and L6 for the daily alarm frame (R592). -/
def State.cmacPowered (s : State) (user : Nat) : Bool :=
  s.railPowered .app || (user == 2 && s.awake && (s.level == 5 || s.level == 6))

/-- The read of the check itself, where it makes one (R219, R220). -/
def State.checkReads (s : State) (j : CmacJob) : State :=
  if s.readsFirst j && !j.badOp && !j.badLen then s.appReads 12 j.firstAddr 1 else s

/-- START of a job by a user (R582, R586, R590): ignored while BUSY; refused at once, or queued with its key latched. -/
def State.startJob (s : State) (user op : Nat) : State :=
  if !s.cmacPowered user then s
  else if !isRegisters user then s.submitEngine user op
  else if s.flag R.CMACE.STATUS.BUSY then s
  else
    let s0 := ((s.wr R.CMACE.JOB_CTL.OP op).clear R.CMACE.STATUS.PASS).clear R.CMACE.PROGRESS.BLOCKS
    let j := s0.registerJob user op
    match s0.checkJob j with
    | (_, some f) => s0.faultJob j kindRead f
    | (r, none) =>
      let s1 := s0.checkReads j
      if r ≠ cmacOk then s1.endJob j r
      else
        (s1.raise R.CMACE.JOB_CTL.START).setContexts (s1.cmac.background ++ [j]) s1.cmac.urgent s1.cmac.suspended

/-- JOB_MAC (R573, R575). -/
def execJobMac (user : Nat) (s : State) : Host.Outcome State Fault Refusal := .next (s.startJob user opMac)

/-- JOB_VERIFY (R573, R575). -/
def execJobVerify (user : Nat) (s : State) : Host.Outcome State Fault Refusal := .next (s.startJob user opVerify)

/-- JOB_CHAIN (R576, R577). -/
def execJobChain (user : Nat) (s : State) : Host.Outcome State Fault Refusal := .next (s.startJob user opChain)

/-- JOB_KSTREAM (R578). -/
def execJobKstream (user : Nat) (s : State) : Host.Outcome State Fault Refusal := .next (s.startJob user opKstream)

/-- JOB_DERIVE (R579, R580). -/
def execJobDerive (user : Nat) (s : State) : Host.Outcome State Fault Refusal := .next (s.startJob user opDerive)

/-! ### The work of a job -/

/-- The input of a job. -/
def State.jobInput (s : State) (j : CmacJob) : List Nat := s.appBytes j.src0 j.len0 ++ s.appBytes j.src1 j.len1

/-- Words that cover a number of bytes. -/
def wordsFor (n : Nat) : Nat := (n + 3) / 4

/-- The first read of a job that faults: how many bytes come before it, the address and the cause. -/
def State.jobReadFault (s : State) (j : CmacJob) : Option (Nat × Nat × Nat) :=
  match s.firstFault 12 kindRead (wordsFor j.len0) j.src0 with
  | some (a, c) => some (a - j.src0, a, c)
  | none =>
    match s.firstFault 12 kindRead (wordsFor j.len1) j.src1 with
    | some (a, c) => some (j.len0 + (a - j.src1), a, c)
    | none => none

/-- The first `n` bytes of a job's input read (R219, R220). -/
def State.jobReads (s : State) (j : CmacJob) (n : Nat) : State :=
  (s.appReads 12 j.src0 (min n j.len0)).appReads 12 j.src1 (min (n - j.len0) j.len1)

/-- The bytes a job writes to DST. -/
def State.jobOutput (s : State) (j : CmacJob) : List Nat :=
  let m := s.jobInput j
  if j.op = opChain then (chainValues j.key m (m.length / 16) 0 j.iv).flatten
  else if j.op = opKstream then kstream j.key j.iv m
  else if j.op = opDerive ∧ j.exportKey then cmacBlocks j.key m j.final
  else []

/-- Whether two ranges meet. -/
def rangesMeet (a n b m : Nat) : Bool := decide (a < b + m) && decide (b < a + n)

/-- Whether the output of a job overlaps its input other than by DST equal to SRC0 (R574). -/
def CmacJob.overlaps (j : CmacJob) (n : Nat) : Bool :=
  (j.dst != j.src0 && rangesMeet j.dst n j.src0 j.len0) || rangesMeet j.dst n j.src1 j.len1

/-- Bytes that nobody knows, as many as asked for (log entry 6). -/
def State.freeBytes (s : State) (n : Nat) : List Nat × State :=
  ((List.range n).map (fun i => (Config.freeByte s.freeCtr i).toNat), { s with freeCtr := s.freeCtr + 1 })

/-- The output of a job stored, up to a number of bytes. -/
def State.storeOutput (s : State) (j : CmacJob) (n : Nat) : State :=
  let out := s.jobOutput j
  if j.overlaps out.length then
    let f := s.freeBytes (min n out.length)
    f.2.setBytes j.dst f.1
  else s.setBytes j.dst (out.take n)

/-- A 128-bit result placed in a session slot (R579): what comes from slot 0, or from a ROMONLY slot, is ROMONLY. -/
def State.placeKey (s : State) (j : CmacJob) (k : List Nat) : State :=
  let ro := j.slot == 0 || s.flag (R.CMACE.SLOT.ROMONLY j.slot)
  if j.dhalf = 0 then s.putKey j.dslot 0 j.dattr ro k
  else if j.dhalf = 1 then
    let s1 := ((s.putKey j.dslot 1 j.dattr ro k).clear (R.CMACE.SLOT.VALID j.dslot)).raise (R.CMACE.SLOT.HALF j.dslot)
    { s1 with cmac := { s1.cmac with halfParent := s1.cmac.halfParent.set (j.dslot - 8) j.slot } }
  else s.putKey j.dslot 1 j.dattr ro ((s.keyBytes j.dslot).take 16 ++ k)

/-- The results of a job that met no fault. -/
def State.finishJob (s : State) (j : CmacJob) : State :=
  let m := s.jobInput j
  let blocks := (j.len0 + j.len1 + 15) / 16
  let s1 := s.wr R.CMACE.PROGRESS.BLOCKS blocks
  let s2 :=
    if j.op = opMac then s1.setTag (cmacBlocks j.key m j.final)
    else if j.op = opVerify then
      (s1.wrBool R.CMACE.STATUS.PASS ((cmacBlocks j.key m j.final).take j.tlen == j.tag.take j.tlen)).setTag zeroBlock
    else if j.op = opChain then (s1.storeOutput j m.length).setIv (chainLast j.key m (m.length / 16) j.iv)
    else if j.op = opKstream ∨ j.exportKey then s1.storeOutput j (s1.jobOutput j).length
    else s1.placeKey j (cmacBlocks j.key m j.final)
  s2.endJob j cmacOk

/-- The whole blocks of output that come before a byte count. -/
def wholeBlocks (n : Nat) : Nat := n / 16

/-- A job of the registers run to its end: to the first fault, or to its results. -/
def State.runJob (s : State) (j : CmacJob) : State :=
  let n := (s.jobOutput j).length
  match s.jobReadFault j, (if j.hasDst then s.firstFault 12 kindWrite (wordsFor n) j.dst else none) with
  | none, none => (s.jobReads j (j.len0 + j.len1)).finishJob j
  | some (k, a, c), none =>
    let s0 := s.jobReads j k
    let s1 := if j.hasDst && j.op != opDerive then s0.storeOutput j (16 * wholeBlocks k) else s0
    (s1.wr R.CMACE.PROGRESS.BLOCKS (wholeBlocks k)).faultJob j kindRead (a, c)
  | none, some (a, c) =>
    let k := a - j.dst
    (((s.jobReads j (k + 16)).storeOutput j k).wr R.CMACE.PROGRESS.BLOCKS (wholeBlocks k)).faultJob j kindWrite (a, c)
  | some (k, a, c), some (b, d) =>
    let w := b - j.dst
    if k ≤ w then
      (((s.jobReads j k).storeOutput j (16 * wholeBlocks k)).wr R.CMACE.PROGRESS.BLOCKS (wholeBlocks k)).faultJob j
        kindRead (a, c)
    else
      (((s.jobReads j (w + 16)).storeOutput j w).wr R.CMACE.PROGRESS.BLOCKS (wholeBlocks w)).faultJob j kindWrite (b, d)

/-- The first BACKGROUND job has computed; one of the registers makes accesses, which UNDER holds (R61). -/
def State.backgroundEnds (s : State) : State :=
  match s.cmac.background with
  | [] => s
  | j :: r =>
    if isRegisters j.user then
      (if s.flag (R.PWR.PACE_STATUS.UNDER .app) then s else (s.setContexts r s.cmac.urgent false).runJob j)
    else (s.setContexts r s.cmac.urgent false).count R.CMACE.COUNTS.JOBS 1

/-- CMAC_JOB_END (R582, R583, R586): the job that computes ends; URGENT jobs run while BACKGROUND is suspended or empty,
and BACKGROUND resumes after the last of them.  The job of FLASHC is the check of a protection entry (R259). -/
def execCmacJobEnd (s : State) : Host.Outcome State Fault Refusal :=
  match s.cmac.urgent with
  | u :: us =>
    if s.cmac.suspended || s.cmac.background.isEmpty then
      let s1 := (s.setContexts s.cmac.background us (s.cmac.suspended && !us.isEmpty)).count R.CMACE.COUNTS.JOBS 1
      .next (if u.user = 5 then s1.endEntry else s1)
    else .next s.backgroundEnds
  | [] => .next s.backgroundEnds

/-- CMAC_ABORT (R587, R590): the firmware job ends after `blocks` blocks, with what it has written; a queued job is
removed with no read. -/
def execCmacAbort (blocks : Nat) (s : State) : Host.Outcome State Fault Refusal :=
  match s.cmac.background.find? (fun j => isRegisters j.user) with
  | none => .next s
  | some j =>
    let running := match s.cmac.background with
      | [] => false
      | h :: _ => isRegisters h.user
    let s1 := s.setContexts (s.cmac.background.filter (fun x => !isRegisters x.user)) s.cmac.urgent
      (s.cmac.suspended && !running)
    let s2 :=
      if running then
        let n := min blocks ((j.len0 + j.len1 + 15) / 16)
        let s3 := s1.jobReads j (16 * n)
        (if j.hasDst && j.op != opDerive then s3.storeOutput j (16 * n) else s3).wr R.CMACE.PROGRESS.BLOCKS n
      else s1
    .next (s2.endJob j cmacAborted)

/-! ### The mesh frame counters (R604) -/

/-- The counter of slot 2 or 5. -/
def fcntOf (slot : Nat) : Fld := if slot = 2 then R.CMACE.FCNT2.FC else R.CMACE.FCNT5.FC

/-- The events of a counter that has risen: a warning at 0xFFFF_0000 and the end at 0xFFFF_FFFF, once per load each. -/
def State.checkFcnt (s : State) (slot : Nat) : State :=
  let v := s.rd (fcntOf slot)
  let s1 :=
    if v ≥ 0xFFFF0000 ∧ s.cmac.warned.contains slot = false then
      ({ s with cmac := { s.cmac with warned := s.cmac.warned ++ [slot] } } : State).log 0x0770 [slot]
    else s
  if v = 0xFFFFFFFF ∧ s1.cmac.exhausted.contains slot = false then
    ({ s1 with cmac := { s1.cmac with exhausted := s1.cmac.exhausted ++ [slot] } } : State).log 0x0771 [slot]
  else s1

/-- FCNT_WRITE (R588, R604): a value below the present one is ignored. -/
def execFcntWrite (slot v : Nat) (s : State) : Host.Outcome State Fault Refusal :=
  let n := v % 2 ^ 32
  if (slot = 2 ∨ slot = 5) ∧ s.rd (fcntOf slot) ≤ n then s.ifApp (fun a => (a.wr (fcntOf slot) n).checkFcnt slot)
  else .next s

/-- Whether a slot's counter has ended (R604, R605). -/
def State.fcExhausted (s : State) (slot : Nat) : Bool := s.rd (fcntOf slot) == 0xFFFFFFFF

/-- The next frame counter of a slot taken (R485, R604). -/
def State.takeFc (s : State) (slot : Nat) : Nat × State :=
  let v := s.rd (fcntOf slot)
  (v, (s.wr (fcntOf slot) (v + 1)).checkFcnt slot)

end Sys2Proof.Machine
end

