-- ==== Sys2Proof/Machine/Mesh.lean ====
section
/-! DEFINITION. The Stook mesh (ch. 18): addresses and roles, the header and its protection, acceptance, the parent table
and ring, beacons, configuration generations, and corrections of the RTC. -/

namespace Sys2Proof.Machine

open Sys2Proof

/-- The link engine's state replaced. -/
def State.setLink (s : State) (l : Link) : State := { s with link := l }

/-! ### The stead (R482, R483) -/

/-- STEAD, and the node's ADDR. -/
def State.stead (s : State) : Nat := s.rd R.LINK.MESH_ID.STEAD
def State.addr (s : State) : Nat := s.rd R.LINK.MESH_ID.ADDR

/-- The short address of any collector, and broadcast (Table MESH-1). -/
def anyCollector : Nat := 0xFCFF
def broadcast : Nat := 0xFFFF

/-- Whether an address is a collector's. -/
def isCollectorAddr (a : Nat) : Bool := decide (0xFC00 ≤ a) && decide (a ≤ 0xFC03)

/-- Whether the node takes part in the stead (R482). -/
def State.inStead (s : State) : Bool := s.stead != 0xFFFF && (decide (s.addr ≤ 0x3FF) || isCollectorAddr s.addr)

/-- The role in force: 0 LEAF, 1 RELAY, 2 COLLECTOR, the last only on a BST420C (R483). -/
def State.role (s : State) : Nat :=
  let r := s.rd R.LINK.MESH_ROLE.ROLE
  if r = 0 then 0 else if r = 2 ∧ s.variant = .c then 2 else 1

/-- Whether the node is a collector. -/
def State.isCollector (s : State) : Bool := s.role == 2

/-- RING and RELAYING as they stand. -/
def State.ring (s : State) : Nat := s.rd R.LINK.MESH_STATE.RING
def State.relaying (s : State) : Bool := s.flag R.LINK.MESH_STATE.RELAYING

/-- MAX_HOPS, BEACON's PARENT_TTL in force. -/
def State.maxHops (s : State) : Nat := max 1 (s.rd R.LINK.MESH_ROLE.MAX_HOPS)
def State.parentTtl (s : State) : Nat := max 1 (s.rd R.LINK.MESH_BCN.PARENT_TTL)

/-- GUARD in 100 µs. -/
def State.guardTime (s : State) : Nat := max 1 (s.rd R.LINK.MESH_TIME.GUARD)

/-- INT_eff in ms (R445). -/
def State.intEff (s : State) : Nat :=
  let i := max 100 (s.rd R.LINK.GLEAN_INT.INT)
  if s.level = 3 then 2 * i else i

/-! ### The header (Table MESH-2) -/

/-- Two and four little-endian bytes at an offset. -/
def le16 (b : List Nat) (o : Nat) : Nat := leNat ((b.drop o).take 2)
def le32 (b : List Nat) (o : Nat) : Nat := leNat ((b.drop o).take 4)

/-- The fields of a header. -/
def hClass (b : List Nat) : Nat := b.getD 0 0 % 16
def hAck (b : List Nat) : Bool := bit (b.getD 0 0) 4
def hSec (b : List Nat) : Bool := bit (b.getD 0 0) 5
def hFlood (b : List Nat) : Bool := bit (b.getD 0 0) 7
def hHops (b : List Nat) : Nat := b.getD 1 0
def hStead (b : List Nat) : Nat := le16 b 2
def hSrc (b : List Nat) : Nat := le16 b 4
def hDst (b : List Nat) : Nat := le16 b 6
def hSring (b : List Nat) : Nat := b.getD 8 0
def hKeys (b : List Nat) : Nat := b.getD 9 0
def hOrig (b : List Nat) : Nat := le16 b 0xA
def hFinal (b : List Nat) : Nat := le16 b 0xC
def hXring (b : List Nat) : Nat := b.getD 0xE 0
def hFc (b : List Nat) : Nat := le32 b 0x10

/-- Whether a class goes up (Table MESH-3). -/
def isUp (cls : Nat) : Bool := cls == 1 || cls == 4 || cls == 6

/-- Whether a class goes down. -/
def isDown (cls : Nat) : Bool := cls == 2 || cls == 3 || cls == 5 || cls == 7

/-- A header of 20 bytes. -/
def stookHeader (ctl hops stead src dst sring keys orig final xring fc : Nat) : List Nat :=
  [ctl, hops] ++ leBytes 2 stead ++ leBytes 2 src ++ leBytes 2 dst ++ [sring, keys] ++ leBytes 2 orig ++
    leBytes 2 final ++ [xring, 0] ++ leBytes 4 fc

/-- The data of a PSDU without FCS, and its MIC. -/
def stookData (b : List Nat) : List Nat := (b.drop 20).take (b.length - 28)
def stookMic (b : List Nat) : List Nat := b.drop (b.length - 8)

/-- The header as it enters the MIC: the hop fields and bit [4] of CTL are zero (R485). -/
def micHeader (h : List Nat) : List Nat :=
  let c := h.getD 0 0
  [c - 16 * b2n (bit c 4), 0] ++ (h.drop 2).take 2 ++ [0, 0, 0, 0, 0] ++ (h.drop 9).take 11

/-- The MIC over a header and its data (R485). -/
def micOf (key h d : List Nat) : List Nat := (cmacOf key (0x4D :: (micHeader h ++ d))).take 8

/-- The template of the keystream of a frame (R485). -/
def stookTemplate (cls stead orig fc : Nat) : List Nat :=
  [0x53, cls] ++ leBytes 2 stead ++ leBytes 2 orig ++ leBytes 4 fc ++ [0, 0, 0, 0, 0, 0]

/-- Data encrypted or decrypted with the keystream of a frame. -/
def stookCrypt (key h d : List Nat) : List Nat := kstream key (stookTemplate (hClass h) (hStead h) (hOrig h) (hFc h)) d

/-- Whether the MIC of a PSDU without FCS passes under a slot that can verify. -/
def State.micPasses (s : State) (b : List Nat) : Bool :=
  decide (b.length ≥ 28) && (hKeys b == 2 || hKeys b == 5) && s.keyHas (hKeys b) attrMac &&
    micOf (s.keyBytes (hKeys b)) (b.take 20) (stookData b) == stookMic b

/-- The FCS of the IEEE 802.15.4 SUN FSK PHY: 32 bits, least significant byte first (R435; PRESUMED the standard's). -/
def fcsOf (b : List Nat) : Nat := crcRight 0xEDB88320 0xFFFFFFFF b ^^^ 0xFFFFFFFF

/-- The hop fields rewritten for one hop (R485, R492). -/
def setHop (b : List Nat) (hops src dst sring : Nat) (ack : Bool) : List Nat :=
  let c := b.getD 0 0
  [c - 16 * b2n (bit c 4) + 16 * b2n ack, hops] ++ (b.drop 2).take 2 ++ leBytes 2 src ++ leBytes 2 dst ++ [sring] ++ b.drop 9

/-- Whether a slot lets a frame be built: it can verify, and encrypt where SEC is set (R595), and its counter has not
ended (R604). -/
def State.stookKeyOk (s : State) (keys : Nat) (sec : Bool) : Bool :=
  s.keyHas keys attrMac && (!sec || s.keyHas keys attrPrf) && !s.fcExhausted keys

/-- A frame protected under its slot with the next frame counter: header, data and MIC; none where the key refuses. -/
def State.stookSeal (s : State) (cls ctl final xring keys : Nat) (data : List Nat) : Option (List Nat) × State :=
  let sec := bit ctl 5
  if !s.stookKeyOk keys sec then (none, s)
  else
    let fc := s.takeFc keys
    let key := s.keyBytes keys
    let h := stookHeader ctl 0 s.stead s.addr 0 s.ring keys s.addr final xring fc.1
    let d := if sec then kstream key (stookTemplate cls s.stead s.addr fc.1) data else data
    (some (h ++ d ++ micOf key h d), fc.2)

/-- CTL as the engine sends it: SEC clear for classes authenticated alone (R485), CFG_BEHIND as the node stands in upward
frames (R497). -/
def State.ownCtl (s : State) (ctl : Nat) : Nat :=
  let cls := ctl % 16
  let sec := bit ctl 5 && !(cls == 0 || cls == 6 || cls == 7)
  let behind := if isUp cls then s.flag R.LINK.MESH_STATE.CFG_BEHIND else bit ctl 6
  cls + 16 * b2n (bit ctl 4) + 32 * b2n sec + 64 * b2n behind + 128 * b2n (bit ctl 7)

/-- A submission's payload built (R484, R485). -/
def State.stookBuild (s : State) (p : List Nat) : Option (List Nat) × State :=
  let cls := hClass p
  s.stookSeal cls (s.ownCtl (p.getD 0 0)) (hFinal p) (if isUp cls then s.ring else hXring p) (hKeys p) (p.drop 20)

/-- Whether a STOOK submission ends with BAD_FORM beside the cases of R430 (R482, R484, R657 of sheaves). -/
def State.stookBad (s : State) (p : List Nat) : Bool :=
  let cls := hClass p
  !s.inStead || decide (p.length < 20) || cls == 0 || decide (cls ≥ 8) ||
    hKeys p != (if cls = 6 then 5 else 2) || hAck p != isUp cls ||
    (isUp cls && !(hFinal p == anyCollector || isCollectorAddr (hFinal p))) ||
    (cls == 7 && hFinal p != broadcast) || (cls == 5 && (bit (p.getD 0 0) 5 || p.length != 132))

/-! ### Acceptance (R486) -/

/-- What stage 3 decides: drop in silence, drop as a loop, or the destinations of stage 8. -/
inductive Verdict where
  | drop
  | loop
  | take (toRing toDict toMesh toFwd : Bool)
  deriving DecidableEq, Repr

/-- Whether an address is in the descendant table and not too old (R494). -/
def State.isDescendant (s : State) (a : Nat) : Bool :=
  s.link.desc.any (fun e => e.1 == a && decide (s.utime ≤ e.2 + 60 * s.rd R.LINK.MESH_TIME.DESC_TTL))

/-- Whether a relay forwards a downward frame (R495). -/
def State.forwardsDown (s : State) (b : List Nat) : Bool :=
  s.relaying && decide (s.ring < hXring b) && (hFinal b == broadcast || hFlood b || s.isDescendant (hFinal b))

/-- Stage 3 for a frame of the stead addressed to this node or to all (Table MESH-4). -/
def State.judgeClass (s : State) (b : List Nat) : Verdict :=
  let cls := hClass b
  if cls = 0 then (if hDst b = broadcast then .take false false true false else .drop)
  else if isUp cls then
    if s.isCollector then
      (if hFinal b = anyCollector ∨ hFinal b = s.addr then .take true false false false else .drop)
    else if hDst b = s.addr ∧ s.relaying then
      (if s.ring < hSring b ∧ hHops b < s.maxHops then .take false false false true else .loop)
    else .drop
  else if !isDown cls || !(decide (hSring b < s.ring) || hSring b == 0) then .drop
  else
    let ring := cls == 2 || cls == 5
    if hFinal b = s.addr then .take ring (!ring) false false
    else if hFinal b = broadcast then .take ring (!ring) false (cls != 7 && s.forwardsDown b)
    else if s.forwardsDown b then .take false false false true
    else .drop

/-- Stage 3 (R482, R486, R546): a BUSY notice is taken by the collector it names. -/
def State.judge (s : State) (b : List Nat) : Verdict :=
  if !s.inStead || hStead b != s.stead then .drop
  else if b.getD 0 0 = 0xBD ∧ b.length = 28 then
    (if s.isCollector ∧ hDst b = s.addr then .take true false false false else .drop)
  else if b.length < 28 ∨ ¬(hDst b = s.addr ∨ hDst b = broadcast) ∨ hOrig b = s.addr then .drop
  else s.judgeClass b

/-! ### Parents and ring (R488, R489, R499, R504) -/

/-- The lowest ring of the table's entries. -/
def State.lowRing (s : State) : Nat := s.link.parents.foldl (fun m p => min m p.ring) 0xFF

/-- An entry put before the first of weaker signal. -/
def insertByRssi (p : Parent) : List Parent → List Parent
  | [] => [p]
  | q :: r => if p.rssi < q.rssi then p :: q :: r else q :: insertByRssi p r

/-- The parents: the entries of the lowest ring, strongest first. -/
def State.parents (s : State) : List Parent :=
  (s.link.parents.filter (fun p => p.ring == s.lowRing)).foldl (fun l p => insertByRssi p l) []

/-- The ring the table gives. -/
def State.ringNow (s : State) : Nat :=
  if s.isCollector then 0 else if s.link.parents.isEmpty then 0xFF else min 0xFF (s.lowRing + 1)

/-- Whether COMPAT lies outside the window (R499). -/
def State.compatOut (s : State) : Bool :=
  let c := s.rd R.LINK.MESH_ROLE.COMPAT
  decide (c < s.rd R.LINK.MESH_COMPAT.MIN) || decide (s.rd R.LINK.MESH_COMPAT.MAX < c)

/-- The event of a period without a parent, once (R489). -/
def State.tellLonely (s : State) : State :=
  if s.link.lonelyTold then s
  else ((s.setLink { s.link with lonelyTold := true }).raise R.LINK.MESH_EVT.NO_PARENT).log 0x0502 []

/-- The first period without a parent begins as the node comes to take part in a stead (R482, R489). -/
def State.meshCommitted (s : State) : State :=
  if s.inStead && !s.isCollector && s.link.parents.isEmpty then s.tellLonely else s

/-- One PARENT register. -/
def State.showParent (s : State) (n : Nat) (p : Option Parent) : State :=
  match p with
  | none => ((s.wr (R.LINK.PARENT.ADDR n) 0xFFFE).clear (R.LINK.PARENT.RSSI n)).clear (R.LINK.PARENT.AGE n)
  | some q => ((s.wr (R.LINK.PARENT.ADDR n) q.addr).wr (R.LINK.PARENT.RSSI n) q.rssi).wr (R.LINK.PARENT.AGE n) q.age

/-- MESH_STATE and PARENTn brought up to date with the table, the role, the window and the ladder. -/
def State.updateMesh (s : State) : State :=
  let ps := s.parents
  let old := s.ring
  let new := s.ringNow
  let out := s.compatOut
  let s1 := forEach 3 (fun n a => a.showParent n ps[n]?) s
  let s2 := ((s1.wr R.LINK.MESH_STATE.RING new).wr R.LINK.MESH_STATE.NPAR ps.length).wr R.LINK.MESH_STATE.ROOT_CID
    (if s.isCollector then s.rd R.LINK.MESH_ROLE.CID else (ps.head?.map Parent.root).getD 0)
  let s3 := (s2.wrBool R.LINK.MESH_STATE.NO_PARENT ps.isEmpty).wrBool R.LINK.MESH_STATE.COMPAT_OUT out
  let s4 := s3.wrBool R.LINK.MESH_STATE.RELAYING (s.role != 0 && new != 0xFF && !out && s.level == 0)
  let s5 :=
    if old = new then s4
    else (s4.raise R.LINK.MESH_EVT.RING_CHG).log 0x0500 ([new, old] ++ leBytes 2 (s4.rd (R.LINK.PARENT.ADDR 0)))
  let s6 :=
    if out && !s.flag R.LINK.MESH_STATE.COMPAT_OUT then (s5.raise R.LINK.MESH_EVT.COMPAT_OUT).log 0x0507 [] else s5
  if ps.isEmpty then (if s.flag R.LINK.MESH_STATE.NO_PARENT then s6 else s6.tellLonely)
  else s6.setLink { s6.link with lonelyTold := false }

/-- The place of the weakest entry of the table. -/
def weakest : List Parent → Nat → Nat → Nat → Nat
  | [], _, best, _ => best
  | p :: r, i, best, code => if p.rssi > code then weakest r (i + 1) i p.rssi else weakest r (i + 1) best code

/-- The parent table after a beacon good enough for it (R488). -/
def State.placeParent (s : State) (p : Parent) : List Parent :=
  let t := s.link.parents
  if t.any (fun q => q.addr == p.addr) then t.map (fun q => if q.addr == p.addr then p else q)
  else if t.length < 3 then t ++ [p]
  else
    let w := weakest t 0 0 0
    if p.ring < s.lowRing then t.set w p
    else if p.ring = s.lowRing ∧ p.rssi + 12 ≤ ((t[w]?).map Parent.rssi).getD 0 then t.set w p
    else t

/-- An entry removed, with its event (R488). -/
def State.dropParent (s : State) (n : Nat) : State :=
  ((s.setLink { s.link with parents := s.link.parents.eraseIdx n }).log 0x0501 []).updateMesh

/-! ### Configuration generations (R497, R498) -/

/-- Whether a pair (GEN, CID) ranks above the pair in force (R496). -/
def State.ranksAbove (s : State) (gen cid : Nat) : Bool :=
  let g := s.rd R.LINK.MESH_GEN.GEN
  decide (gen > g) || (gen == g && decide (cid < s.rd R.LINK.MESH_CFG.GEN_CID))

/-- MESH_GEN_WRITE (R498): a value below the one in force is ignored. -/
def execMeshGenWrite (v : Nat) (s : State) : Host.Outcome State Fault Refusal :=
  let n := v % 2 ^ 32
  .next (if n < s.rd R.LINK.MESH_GEN.GEN then s else s.wr R.LINK.MESH_GEN.GEN n)

/-! ### Corrections of the RTC (R500 to R502) -/

/-- The RTC in 1/32,768 s. -/
def State.rtcTicks (s : State) : Nat := s.utime * 32768 + s.rd R.AON.RTC_SUB.SUB

/-- The RTC stepped: an alarm M that it passes fires at the correction (Table MET-3). -/
def State.stepRtc (s : State) (d : Int) : State :=
  let t := ((s.rtcTicks : Int) + d).toNat
  let s1 := (s.wr R.AON.RTC_SEC.SEC (t / 32768)).wr R.AON.RTC_SUB.SUB (t % 32768)
  if s.flag R.MAON.ALARM_M_CTL.EN && decide (s.utime < s.rd R.MAON.ALARM_M.AT) &&
      decide (s.rd R.MAON.ALARM_M.AT ≤ s1.utime) then s1.fireAlarmM
  else s1

/-- How a correction ends. -/
inductive TimeOutcome where
  | applied
  | refused
  | noSlot
  deriving DecidableEq, Repr

/-- Whether the budget lets a step be applied: it does not bind in SERVICE, on a collector or while TIME_UNSET is 1; 2,000
ms are 65,536 units (R140, R500, R501). -/
def State.budgetFits (s : State) (mag : Nat) : Bool :=
  s.inService || s.isCollector || s.flag R.AON.RST_CAUSE.TIME_UNSET || decide (mag + s.link.budget ≤ 65536)

/-- A quotient held within the range of signed 32 bits, in microseconds from units of 1/32,768 s. -/
def stepMicros (d : Int) : Int := max (-2147483648) (min 2147483647 (openDiv 11 (d * 1000000) 32768))

/-- The records of an applied step. -/
def State.applyStep (s : State) (d : Int) : State :=
  let b := s.link.budget + d.natAbs
  let s1 := (s.stepRtc d).clear R.AON.RST_CAUSE.TIME_UNSET
  let s2 := s1.setLink { s1.link with budget := b }
  let s3 := (s2.wr R.LINK.TIME_BUDGET.USED_MS (min 4095 (openDiv 10 (b * 1000) 32768).toNat)).wr R.LINK.TIME_LAST.STEP
    (uInt 32 (stepMicros d))
  (s3.raise R.LINK.MESH_EVT.TIME_APPLIED).log 0x0508 []

/-- The notice of Table MESH-8: its source, the step, and the bytes of CT_SEC, BSEQ and TTAG. -/
def State.timeNotice (s : State) (src : Nat) (d : Int) (proof : List Nat) : List Nat :=
  let t := ((s.rtcTicks : Int) + d).toNat
  leBytes 2 0x5443 ++ [src, 0] ++ leBytes 4 s.utime ++ leBytes 2 (s.rd R.AON.RTC_SUB.SUB) ++ leBytes 4 (t / 32768) ++
    leBytes 2 (t % 32768) ++ proof.take 16

/-- A correction judged by the budget and the notice rule, and applied with its notice to MET (R500 to R502): a
BST420C makes no notice. -/
def State.correctTime (s : State) (src : Nat) (d : Int) (proof : List Nat) : State × TimeOutcome :=
  if !s.budgetFits d.natAbs then
    let s1 := (s.raise R.LINK.MESH_EVT.TIME_REFUSED).clear R.LINK.MESH_STATE.TIME_SYNC
    (if s.link.refusedToday then s1 else (s1.setLink { s1.link with refusedToday := true }).log 0x0509 [], .refused)
  else if s.variant = .c then (s.applyStep d, .applied)
  else
    let c := s.claimAny ownLink
    if c.2.2 ≠ loftOk then (c.1, .noSlot)
    else
      let s1 := (c.1.setBytes (slotAddr c.2.1) (s.timeNotice src d proof)).applyStep d
      ((s1.give ownLink c.2.1 ownMet 32).1, .applied)

/-- UTC_DAY_BOUNDARY (R453, R500): the day's budget, alarm frame and refusal event start afresh. -/
def execUtcDayBoundary (s : State) : Host.Outcome State Fault Refusal :=
  let s1 := s.setLink { s.link with budget := 0, refusedToday := false }
  .next ((s1.clear R.LINK.TIME_BUDGET.USED_MS).clear R.LINK.STATUS.ALARM_DAY)

/-! ### Beacons (R487, R488, R500) -/

/-- The newest collector beacon that the node's parents have told of: CT_SEC, BSEQ and TTAG. -/
def State.newestProof (s : State) : Nat × Nat × List Nat :=
  s.parents.foldl (fun m p => if p.bseq > m.2.1 || m.2.2.isEmpty then (p.ctSec, p.bseq, p.ttag) else m) (0, 0, [])

/-- The time tag of a collector's beacon (R487). -/
def State.timeTag (s : State) (bseq ct : Nat) : List Nat :=
  (cmacOf (s.keyBytes 6) (leBytes 2 s.stead ++ [s.rd R.LINK.MESH_ROLE.CID] ++ leBytes 4 bseq ++ leBytes 4 ct)).take 8

/-- TQ as a beacon carries it: a collector with its time set is 0 hops from one. -/
def State.ownTq (s : State) : Nat :=
  if s.isCollector then (if s.flag R.AON.RST_CAUSE.TIME_UNSET then 0xFF else 0)
  else if s.flag R.LINK.MESH_STATE.TIME_SYNC then s.rd R.LINK.MESH_STATE.TQ else 0xFF

/-- The beacon data of Table MESH-5 with its sync word leaving at `t` (R487). -/
def State.beaconData (s : State) (t : Nat) : List Nat :=
  let proof := if s.isCollector then (t / 32768, s.link.bseq, s.timeTag s.link.bseq (t / 32768)) else s.newestProof
  [s.rd R.LINK.MESH_STATE.ROOT_CID + 128 * s.rd R.LINK.GLEAN.CONT, s.ownTq, 0, 0] ++ leBytes 4 (t / 32768) ++
    leBytes 2 (t % 32768) ++ leBytes 4 (s.rd R.LINK.MESH_GEN.GEN) ++ [s.rd R.LINK.MESH_CFG.GEN_CID, 0] ++
    leBytes 4 proof.1 ++ leBytes 4 proof.2.1 ++ (proof.2.2 ++ List.replicate 8 0).take 8 ++
    leBytes 2 (if s.flag R.LINK.GLEAN.CONT then 0 else s.intEff)

/-- A beacon's frame at its build: header with its frame counter, and room for data and MIC; a collector advances BSEQ.
What XRING holds in a beacon the spec does not say (log entry 6). -/
def State.beaconBuild (s : State) : Option (List Nat) × State :=
  if !s.stookKeyOk 2 false || (s.isCollector && !s.keyHas 6 attrMac) then (none, s)
  else
    let x := s.fresh
    let fc := x.2.takeFc 2
    let s1 := fc.2
    let s2 := if s1.isCollector then s1.setLink { s1.link with bseq := (s1.link.bseq + 1) % 2 ^ 32 } else s1
    (some (stookHeader 0 0 s.stead s.addr broadcast s.ring 2 s.addr broadcast (x.1 % 256) fc.1 ++ List.replicate 42 0), s2)

/-- A beacon with its time written and its MIC computed, as the last step before the first bit (R487). -/
def State.beaconFinish (s : State) (b : List Nat) (t : Nat) : List Nat :=
  let h := b.take 20
  let d := s.beaconData t
  h ++ d ++ micOf (s.keyBytes 2) h d

/-- The table entry that a beacon gives. -/
def beaconParent (b : BeaconIn) : Parent :=
  let d := stookData b.bytes
  { addr := hSrc b.bytes, ring := hSring b.bytes, rssi := b.rssi, age := 0, intEff := le16 d 0x20
    root := d.getD 0 0 % 4, tq := d.getD 1 0, ctSec := le32 d 0x10, bseq := le32 d 0x14, ttag := (d.drop 0x18).take 8 }

/-- The step a beacon asks for: its TX time less the RTC at its sync word. -/
def beaconStep (b : BeaconIn) : Int :=
  let d := stookData b.bytes
  ((le32 d 4 * 32768 + le16 d 8 : Nat) : Int) - (b.time : Nat)

/-- The time rule on a beacon (Table MESH-7): from PARENT0, its time synchronised, the step at least DEADBAND; a collector
takes no time from beacons (R501). -/
def State.beaconTime (s : State) (b : BeaconIn) : State :=
  let p := beaconParent b
  let d := beaconStep b
  let first := (s.parents.head?.map Parent.addr) == some p.addr
  if s.isCollector || !first || p.tq == 0xFF || decide (d.natAbs * 10000 < s.rd R.LINK.MESH_TIME.DEADBAND * 32768) then s
  else
    match s.correctTime 1 d ((stookData b.bytes).drop 0x10) with
    | (s1, .applied) =>
      (s1.wr R.LINK.MESH_STATE.TQ (min 0xFF (p.tq + 1))).raise R.LINK.MESH_STATE.TIME_SYNC
    | (s1, _) => s1

/-- The generation a beacon tells of (R497). -/
def State.beaconGen (s : State) (b : BeaconIn) : State :=
  let d := stookData b.bytes
  if s.ranksAbove (le32 d 0xA) (d.getD 0xE 0) then s.raise R.LINK.MESH_STATE.CFG_BEHIND else s

/-- A beacon whose MIC has passed: the parent table where its signal reaches PARENT_RSSI, then generation and time; below
that, generation and time only (R488). -/
def State.useBeacon (s : State) (b : BeaconIn) : State :=
  let strong := decide (b.rssi ≤ s.rd R.LINK.MESH_BCN.PARENT_RSSI)
  let s1 :=
    if strong && !s.isCollector then (s.setLink { s.link with parents := s.placeParent (beaconParent b) }).updateMesh else s
  (s1.beaconGen b).beaconTime b

end Sys2Proof.Machine
end

