-- ==== Sys2Proof/Machine/Rom.lean ====
section
/-! DEFINITION. The boot ROM (ch. 05, 09, 23, 25): the choice between the boot twins, the routines IMAGE_CHECK, PW_TAG and
KEY_UNWRAP, and the ROM loader. -/

namespace Sys2Proof.Machine

open Sys2Proof

/-! ### Boot twins (R146 to R148) -/

/-- The base of twin `t`, 0 A or 1 B. -/
def twinBase (t : Nat) : Nat := 0x10000 + 0x4000 * t

/-- A field of a twin's trailer (Table START-6). -/
def State.twinField (s : State) (t off w : Nat) : Nat := s.load (twinBase t + off) w

def State.twinGen (s : State) (t : Nat) : Nat := s.twinField t 0x3FC4 4
def State.twinLen (s : State) (t : Nat) : Nat := s.twinField t 0x3FCC 4
def State.twinRollback (s : State) (t : Nat) : Nat := s.twinField t 0x3FC8 1

/-- Whether `n` double words of flash from an address are free of uncorrectable errors. -/
def State.flashClean (s : State) (a n : Nat) : Bool := (List.range n).all (fun i => s.eccOf (a + 8 * i) != 2)

/-- Whether a twin's trailer passes R146. -/
def State.trailerOk (s : State) (t : Nat) : Bool :=
  !s.otp.bad && s.twinField t 0x3FC0 4 == 0x7B1E0420 && s.twinField t 0x3FF8 8 == 0x3C5AA5C3 &&
    s.twinGen t != 0xFFFFFFFF && decide (s.twinLen t ≤ 0x3FC0) && decide (s.twinField t 0x3FD0 4 < s.twinLen t) &&
    rollbackOk (s.twinRollback t) (s.arb 0) && s.flashClean (twinBase t + 0x3FC0) 8

/-- Whether a twin's TAG matches under K_BOOT. -/
def State.twinTag (s : State) (t : Nat) : Bool :=
  let b := twinBase t
  !s.otp.bad && decide (s.twinLen t ≤ 0x3FC0) &&
    s.bytes (b + 0x3FE0) 16 ==
      cmacOf (s.rootDerive labelBoot) (s.bytes b (s.twinLen t) ++ s.bytes (b + 0x3FC0) 32)

/-- Whether the whole of a twin passes R146. -/
def State.twinValid (s : State) (t : Nat) : Bool :=
  s.trailerOk t && s.flashClean (twinBase t) ((s.twinLen t + 7) / 8) && s.twinTag t

/-- The candidates in order (R147). -/
def State.twinOrder (s : State) : List Nat :=
  let l :=
    if s.bootSel = 1 then [0, 1]
    else if s.bootSel = 2 then [1, 0]
    else if s.trailerOk 0 && s.trailerOk 1 && decide (s.twinGen 1 > s.twinGen 0) then [1, 0]
    else [0, 1]
  l.filter (fun t => s.trailerOk t)

/-- What BOOT_STATUS says of a twin. -/
def twinStateFld (t : Nat) : Fld := if t = 0 then R.AON.BOOT_STATUS.A_STATE else R.AON.BOOT_STATUS.B_STATE

/-- A twin found invalid (R147). -/
def State.twinBad (s : State) (t : Nat) : State := (s.wr (twinStateFld t) 2).log 0x0710 [t]

/-- The candidates verified in turn: the twin booted, if any. -/
def State.tryTwins (s : State) : List Nat → State × Option Nat
  | [] => (s, none)
  | t :: r =>
    let s1 := s.appReads 1 (twinBase t) (s.twinLen t)
    if s.twinValid t then (s1.wr (twinStateFld t) 1, some t) else (s1.twinBad t).tryTwins r

/-- A preferred twin that is not booted (R147). -/
def State.forcedMiss (s : State) (booted : Option Nat) : State :=
  let want := s.bootSel
  if (want = 1 ∨ want = 2) ∧ booted ≠ some (want - 1) then (s.raise R.AON.BOOT_STATUS.FORCED_MISS).log 0x0712 [] else s

/-- The DICT parameter area with its defaults where its MAGIC is missing (R558): settle time 2,000 ms, the rest zeros. -/
def State.defaultParams (s : State) : State :=
  if s.load 0x220007C0 2 = 0x4450 then s
  else (s.setBytes 0x220007C0 (List.replicate 64 0)).store 0x220007C4 2 2000 |>.store 0x220007C0 2 0x4450

/-- The boot ROM hands over to the twin `t` (R148). -/
def State.bootTwin (s : State) (t : Nat) : State :=
  let s1 := (s.defaultParams.wr R.AON.BOOT_STATUS.TWIN t).wr R.AON.BOOT_STATUS.ROLLBACK (s.twinRollback t)
  { s1 with boot := { s1.boot with result := t, loader := false } }

/-- The ROM loader runs (R149).  BOOT_STATUS.LOADER goes on saying so when a later choice boots a twin, until POR or NRESET
(DESIGN CHOICE, log entry 135). -/
def State.startLoader (s : State) : State :=
  let s1 := ((s.wr R.AON.BOOT_STATUS.TWIN 3).clear R.AON.BOOT_STATUS.ROLLBACK).raise R.AON.BOOT_STATUS.LOADER
  ({ s1 with boot := { s1.boot with loader := true } } : State).log 0x0711 []

/-- The choice of R147 with what follows from it (R148, R149): both trailers read, the candidates verified in turn, and
the watchdog fed at the end (R136). -/
def State.chooseTwin (s : State) : State :=
  let s0 := ((s.useVoted 6).appReads 1 (twinBase 0 + 0x3FC0) 64).appReads 1 (twinBase 1 + 0x3FC0) 64
  let s1 := ((s0.wr R.AON.BOOT_STATUS.A_STATE 0).wr R.AON.BOOT_STATUS.B_STATE 0).clear R.AON.BOOT_STATUS.FORCED_MISS
  let s2 := forEach 2 (fun t a => if a.trailerOk t then a else a.twinBad t) s1
  let r := s2.tryTwins s2.twinOrder
  let s3 := r.1.forcedMiss r.2
  let s4 := match r.2 with
    | some t => s3.bootTwin t
    | none => s3.startLoader
  ({ s4 with boot := { s4.boot with sleeping := false, restart := false } } : State).feedApp.ownCopies 6 1

/-! ### Routines -/

/-- Whether ACORE can call a routine: APP is On, and UNDER does not hold its accesses (R61). -/
def State.appRuns (s : State) : Bool := s.power.app.st == .on && !s.flag (R.PWR.PACE_STATUS.UNDER .app)

/-- A routine of the boot ROM called. -/
def State.romCall (s : State) : Run := { s := s, ops := [], code := 0 }

/-- `n` bytes loaded by a routine of the boot ROM. -/
def Run.takes (r : Run) (a n : Nat) : Run := r.loadsOn .app a n

/-- What a routine returns in a0. -/
def State.romResult (s : State) (v : Nat) : State := { s with boot := { s.boot with result := v } }

/-- Bytes a routine stores as ACORE, up to the first store that faults. -/
def State.coreStore (s : State) (a : Nat) : List Nat → State
  | [] => s
  | b :: r =>
    let s1 := s.memAccess .app 1 kindWrite 1 a b true
    if s1.last.cause = 0 then s1.coreStore (a + 1) r else s1

/-- The reads of a check of a twin's TAG: the trailer, and the code where LEN is in bounds. -/
def Run.takesTwin (r : Run) (t : Nat) : Run :=
  let q := r.takes (twinBase t + 0x3FC0) 64
  if r.s.twinLen t ≤ 0x3FC0 then q.takes (twinBase t) (r.s.twinLen t) else q

/-- IMAGE_CHECK (R250): the TAG of a twin; 0 where it matches, else 1. -/
def execImageCheck (twin : Nat) (s : State) : Host.Outcome State Fault Refusal :=
  if !s.appRuns then .next s
  else if twin > 1 then .next (s.romResult 1)
  else
    let r := s.romCall.takesTwin twin
    .next (if r.code = 0 then r.s.romResult (b2n (!s.twinTag twin)) else r.s)

/-- PW_TAG (R258): a0 the password's 16 bytes, a1 where the check value goes. -/
def execPwTag (a0 a1 : Nat) (s : State) : Host.Outcome State Fault Refusal :=
  if !s.appRuns || s.otp.bad then .next s
  else
    let r := s.romCall.takes a0 16
    let t := s.passwordTag (s.appBytes a0 16)
    let s1 := r.s.coreStore a1 t
    .next (if r.code = 0 then { s1 with boot := { s1.boot with tag := t } } else r.s)

/-- Whether the plain fields of a key-load record are in bounds (Table KEY-5, R600). -/
def unwrapFormat (r : List Nat) : Bool :=
  let kgen := leNat ((r.drop 4).take 4)
  decide (1 ≤ r.getD 0 0) && decide (r.getD 0 0 ≤ 7) && decide (r.getD 1 0 ≤ 1) && decide (r.getD 2 0 < 16) &&
    r.getD 3 0 == 1 && decide (1 ≤ kgen) && decide (kgen ≤ 0xFFFFFFFE) && ((r.drop 8).take 8).all (fun b => b == 0)

/-- The template of Table KEY-6. -/
def unwrapTemplate (r : List Nat) : List Nat :=
  [0x20 + r.getD 0 0] ++ (r.drop 1).take 3 ++ (r.drop 4).take 4 ++ List.replicate 8 0

/-- KEY_UNWRAP's steps 4 and 5: the wrapped load from session slot 9, and both session slots erased. -/
def State.unwrapLoad (s : State) (r : List Nat) : State :=
  let s1 := (s.putKey 9 0 (2 ^ attrPrf) true (s.rootDerive labelWrap)).setIv (unwrapTemplate r)
  let s2 := forEach 8 (fun i a => a.wr (R.CMACE.KEY_DATA.DATA i) (leNat ((r.drop (16 + 4 * i)).take 4))) s1
  let s3 := s2.keyLoad (r.getD 0 0 + 2 ^ 4 * r.getD 1 0 + 2 ^ 8 * r.getD 2 0 + 2 ^ 13) true
  (s3.emptyKey 8).emptyKey 9

/-- KEY_UNWRAP with its code (R600). -/
def State.unwrap (s : State) (r : List Nat) : State × Nat :=
  if !unwrapFormat r then (s, 1)
  else if s.otp.bad || cmacOf (s.rootDerive labelWmac) (s.unitIdBytes ++ r.take 0x30) != (r.drop 0x30).take 16 then (s, 2)
  else
    let s1 := s.unwrapLoad r
    if s1.rd R.CMACE.KEY_STATUS.RESULT ≠ 0 then (s1, 3) else (s1, 0)

/-- KEY_UNWRAP (R600): a0 the address of the record. -/
def execKeyUnwrap (a0 : Nat) (s : State) : Host.Outcome State Fault Refusal :=
  if !s.appRuns then .next s
  else
    let q := s.romCall.takes a0 64
    let r := s.appBytes a0 64
    let u := q.s.unwrap r
    let s1 := u.1.romResult u.2
    .next (if q.code ≠ 0 then q.s else if u.2 = 0 then s1 else s1.log 0x0772 [r.getD 0 0, u.2])

/-! ### The ROM loader (R149, R640) -/

/-- Its STATUS codes (R640). -/
def ldOk : Nat := 0
def ldCrc : Nat := 1
def ldFormat : Nat := 2
def ldPwBad : Nat := 5
def ldLockout : Nat := 6

/-- The CRC of a frame. -/
def loaderCrc (b : List Nat) : Nat := crcLeft 16 0x1021 0xFFFF b

/-- The answer frame sent. -/
def State.loaderReply (s : State) (cmd status : Nat) (data : List Nat) : State :=
  let b := [cmd, status, data.length] ++ data
  { s with boot := { s.boot with reply := 0xAA :: (b ++ beBytes 2 (loaderCrc b)) } }

/-- A request served while the loader runs: a bad CRC has no effect but its answer. -/
def serveLoader (cmd : Nat) (payload : List Nat) (crc : Nat) (f : State → State) (s : State) :
    Host.Outcome State Fault Refusal :=
  if !s.boot.loader || s.boot.sleeping || !s.appRuns then .next s
  else if crc ≠ loaderCrc ([cmd, payload.length] ++ payload) then .next (s.loaderReply cmd ldCrc [])
  else .next (f s)

/-- The hardware type ID of a variant (Table SCOPE-1). -/
def typeId (v : Variant) : Nat :=
  match v with
  | .a => 0x4201
  | .h => 0x4202
  | .c => 0x4203

/-- A register's word. -/
def State.regWord (s : State) (addr : Nat) : Nat := wordOf s.rd (regFields addr)

/-- LOADER_INFO. -/
def execLoaderInfo (payload : List Nat) (crc : Nat) (s : State) : Host.Outcome State Fault Refusal :=
  serveLoader 1 payload crc (fun a =>
    if !payload.isEmpty then a.loaderReply 1 ldFormat []
    else
      a.loaderReply 1 ldOk (leBytes 4 (typeId a.variant + 2 ^ 16 * a.rd R.SYSCTL.ID.REV) ++ a.unitIdBytes ++
        leBytes 4 (a.regWord R.AON.BOOT_STATUS.TWIN.addr))) s

/-- LOADER_UNLOCK (R259 to R261). -/
def execLoaderUnlock (payload : List Nat) (crc : Nat) (s : State) : Host.Outcome State Fault Refusal :=
  serveLoader 2 payload crc (fun a =>
    let mask := leNat (payload.drop 16)
    if payload.length ≠ 18 ∨ mask ≥ 512 then a.loaderReply 2 ldFormat []
    else
      let pw := payload.take 16
      let s1 := (a.protectionCheck mask pw).clearPassword
      let closed := a.flag R.FLASHC.PROT_STATUS.LOCKOUT || a.flag R.FLASHC.PROT_STATUS.MAP_LOST
      let good := a.tagBlank || (!a.otp.bad && a.passwordTag pw == a.protPwTag)
      s1.loaderReply 2 (if closed then ldLockout else if good then ldOk else ldPwBad) []) s

/-- LOADER_ERASE. -/
def execLoaderErase (payload : List Nat) (crc : Nat) (ops : List Nat) (s : State) : Host.Outcome State Fault Refusal :=
  serveLoader 3 payload crc (fun a =>
    let t := payload.getD 0 2
    if payload.length ≠ 1 ∨ t > 1 then a.loaderReply 3 ldFormat []
    else
      let r := (List.range 4).foldl (fun (x : Run) i => x.eraseIn 2 1 (4 * t + i)) { s := a, ops := ops, code := 0 }
      if r.code = resCut then r.s else r.s.loaderReply 3 r.code []) s

/-- LOADER_WRITE (R227). -/
def execLoaderWrite (payload : List Nat) (crc : Nat) (ops : List Nat) (s : State) : Host.Outcome State Fault Refusal :=
  serveLoader 4 payload crc (fun a =>
    let t := payload.getD 0 2
    let off := leNat ((payload.drop 2).take 2)
    let data := payload.drop 4
    if payload.length < 4 ∨ t > 1 ∨ payload.getD 1 1 ≠ 0 ∨ off % 8 ≠ 0 ∨ data.length % 8 ≠ 0 ∨ data.length > 232 ∨
        off + data.length > 0x4000 then a.loaderReply 4 ldFormat []
    else
      let r := ({ s := a, ops := ops, code := 0 } : Run).programRun 2 1 (twinBase t + off) data
      if r.code = resCut then r.s else r.s.loaderReply 4 r.code []) s

/-- LOADER_BOOT: it answers, then repeats the choice of R147. -/
def execLoaderBoot (payload : List Nat) (crc : Nat) (s : State) : Host.Outcome State Fault Refusal :=
  serveLoader 5 payload crc (fun a =>
    if !payload.isEmpty then a.loaderReply 5 ldFormat [] else (a.loaderReply 5 ldOk []).chooseTwin) s

/-- LOADER_IDLE_TIMEOUT (R149): wake causes 0x3 and 0x4 enabled, and WFI with APP_OFF = 1. -/
def execLoaderIdleTimeout (s : State) : Host.Outcome State Fault Refusal :=
  if !s.boot.loader || s.boot.sleeping || !s.appRuns then .next s
  else
    let s1 := (s.wr (R.PWR.WAKE_EN.EN .app) (s.rd (R.PWR.WAKE_EN.EN .app) ||| 12)).raise R.PWR.REST.APP_OFF
    .next ({ s1 with boot := { s1.boot with sleeping := true } } : State).acoreSleep

end Sys2Proof.Machine
end

