-- ==== Sys2Proof/Machine/Wmb.lean ====
section
/-! DEFINITION. Wireless M-Bus (ch. 17): modes and their chips, the blocks of the two formats, the checks of a submission,
the build of a telegram with access number and security modes 5 and 7, and WMB_DECRYPT. -/

namespace Sys2Proof.Machine

open Sys2Proof

/-! ### Modes (Table WMB-1) -/

/-- Whether a mode has the other-to-meter direction. -/
def wmbTwoWay (mode : Nat) : Bool := [3, 5, 7, 9].contains mode

/-- Whether a mode is N. -/
def wmbIsN (mode : Nat) : Bool := decide (mode ≥ 8)

/-- The carrier of a mode in Hz, mode N apart. -/
def wmbHz (mode : Nat) (down : Bool) : Nat :=
  if mode ≤ 3 then 868300000
  else if mode = 5 ∧ down then 868300000
  else if mode = 7 ∧ down then 869525000
  else 868950000

/-- The carrier of a mode in Hz × 2^19: the nearest W, and FOFS, which R389 applies to every operation (DEDUCED). -/
def State.wmbCarrier (s : State) (mode : Nat) (down : Bool) (chan : Nat) : Nat :=
  if wmbIsN mode then s.carrier chan
  else ((((wmbHz mode down * 524288 + 13000000) / 26000000 : Nat) : Int) + s.srd R.RADIO.FOFS.OFS).toNat * 26000000

/-- Whether an operation of a mode is refused by its carrier (R390, R462). -/
def wmbOutside (mode freq : Nat) : Bool := if wmbIsN mode then bandOf freq != some 0 else (bandOf freq).isNone

/-- The chips per second of a mode. -/
def wmbRate (mode : Nat) (down : Bool) (nrate : Nat) : Nat :=
  if mode ≤ 3 then 32768
  else if mode = 5 ∧ down then 32768
  else if mode = 7 ∧ down then 50000
  else if wmbIsN mode then (if nrate = 0 then 2400 else if nrate = 1 then 4800 else 19200)
  else 100000

/-- The chips of one byte: Manchester, 3-of-6 or none. -/
def wmbChips (mode : Nat) (down : Bool) : Nat :=
  if mode ≤ 3 ∨ (mode = 5 ∧ down) then 16 else if mode ≤ 5 then 12 else 8

/-- The header and trailer chips of a mode. -/
def wmbOverhead (mode : Nat) : Nat :=
  if mode = 1 then 580 else if mode ≤ 5 then 52 else if mode ≤ 7 then 64 else 32

/-! ### Blocks and CRCs (R463) -/

/-- The CRC of EN 13757-4 as its two bytes. -/
def wmbCrc (b : List Nat) : List Nat := beBytes 2 (crcLeft 16 0x3D65 0 b ^^^ 0xFFFF)

/-- The data bytes of each block of a telegram of `n` bytes from its L-field on, CRCs apart. -/
def wmbBlocks (fmt n : Nat) : List Nat :=
  if fmt = 2 then (if n ≤ 126 then [n] else [126, n - 126])
  else min n 10 :: (List.range ((n - 10 + 15) / 16)).map (fun i => min 16 (n - 10 - 16 * i))

/-- The bytes of a telegram with its CRCs. -/
def wmbLength (fmt n : Nat) : Nat := n + 2 * (wmbBlocks fmt n).length

/-- The L-field over a number of bytes from the C-field on. -/
def wmbL (fmt fields : Nat) : Nat := if fmt = 2 then fields + 2 * (wmbBlocks 2 (fields + 1)).length else fields

/-- The number of bytes from the L-field on, CRCs apart, of a received telegram whose L-field is `l`. -/
def wmbData (fmt l : Nat) : Nat := if fmt = 2 then (if l + 1 ≤ 128 then l - 1 else l - 3) else l + 1

/-- A received telegram with its CRCs checked and removed. -/
def wmbStrip : List Nat → List Nat → Option (List Nat)
  | [], b => if b.isEmpty then some [] else none
  | n :: r, b =>
    let d := b.take n
    if d.length = n ∧ (b.drop n).take 2 = wmbCrc d then (wmbStrip r (b.drop (n + 2))).map (fun t => d ++ t) else none

/-! ### Fields of a submission (R464) -/

/-- The telegram fields after the AFL, where SEC is 7: the offset of the TPL CI-field (PRESUMED EN 13757-7). -/
def wmbTpl (sec : Nat) (f : List Nat) : Nat := if sec = 7 then 11 + f.getD 10 0 else 9

/-- The offset of the configuration field. -/
def wmbConf (sec : Nat) (f : List Nat) : Nat :=
  wmbTpl sec f + (if f.getD (wmbTpl sec f) 0 = 0x72 then 11 else 3)

/-- The configuration field. -/
def wmbConfWord (sec : Nat) (f : List Nat) : Nat := leNat ((f.drop (wmbConf sec f)).take 2)

/-- The bytes to encrypt. -/
def wmbSecret (sec : Nat) (f : List Nat) : Nat := 16 * bitsOf (wmbConfWord sec f) 4 4

/-- The offset of the message counter in the AFL: after FCL, MCL and, where announced, the key information. -/
def aflCounter (f : List Nat) : Nat := 14 + (if bit (leNat ((f.drop 11).take 2)) 9 then 2 else 0)

/-- Whether the field at offset 9 is an AFL of CI 0x90 that carries a message counter and an 8-byte MAC (R465; PRESUMED
the layout of EN 13757-7: AFLL, FCL with bits 13 MCL, 12 ML, 11 counter, 10 MAC, 9 key information, MCL with type 5). -/
def aflOk (f : List Nat) : Bool :=
  let fcl := leNat ((f.drop 11).take 2)
  let n := aflCounter f + 12 - 11 + (if bit fcl 12 then 2 else 0)
  f.getD 9 0 == 0x90 && bit fcl 13 && bit fcl 11 && bit fcl 10 && f.getD 13 0 % 16 == 5 && f.getD 10 0 == n &&
    decide (f.length ≥ 11 + n)

/-- A sub-header's fields. -/
def subMode (h : List Nat) : Nat := h.getD 0 0
def subFmt (h : List Nat) : Nat := h.getD 1 0
def subSec (h : List Nat) : Nat := h.getD 2 0
def subAccIns (h : List Nat) : Bool := bit (h.getD 3 0) 0
def subWin (h : List Nat) : Bool := bit (h.getD 3 0) 1
def subSlow (h : List Nat) : Bool := bit (h.getD 3 0) 2
def subDown (h : List Nat) : Bool := bit (h.getD 3 0) 3
def subNrate (h : List Nat) : Nat := h.getD 4 0

/-- Whether the sub-header itself is out of form (R464, R465). -/
def subBad (h : List Nat) : Bool :=
  let m := subMode h
  m == 0 || decide (m > 9) || !(subFmt h == 1 || (subFmt h == 2 && decide (m ≥ 6))) ||
    !([0, 5, 7].contains (subSec h)) || decide (subNrate h > (if wmbIsN m then 2 else 0)) ||
    decide (h.getD 3 0 ≥ 16) || !((h.drop 5).all (fun b => b == 0)) || (subDown h && !wmbTwoWay m) ||
    (subWin h && (subDown h || !wmbTwoWay m)) || (subSlow h && m != 7)

/-- Whether a WMBUS submission ends with BAD_FORM beside the cases of R430 (R465). -/
def wmbBad (h f : List Nat) : Bool :=
  let sec := subSec h
  let ci := f.getD (wmbTpl sec f) 0
  decide (h.length < 8) || subBad h || ((subAccIns h || sec != 0) && !(ci == 0x7A || ci == 0x72)) ||
    (sec != 0 && bitsOf (wmbConfWord sec f) 8 5 != sec) ||
    (sec != 0 && decide (wmbSecret sec f > f.length - (wmbConf sec f + 2))) || (sec == 7 && !aflOk f) ||
    decide (wmbL (subFmt h) f.length > 255)

/-! ### Counters (R467, R470) -/

/-- The access number after one telegram. -/
def State.stepAcc (s : State) : State := s.wr R.LINK.WMB_ACC.ACC (s.rd R.LINK.WMB_ACC.ACC + 1)

/-- The message counter set; on reaching its end MCNT_END is set and the event logged once (R470). -/
def State.setMcnt (s : State) (v : Nat) : State :=
  let s1 := s.wr R.LINK.WMB_MCNT.MCNT v
  if v = 0xFFFFFFFF ∧ s.rd R.LINK.WMB_MCNT.MCNT ≠ 0xFFFFFFFF then (s1.raise R.LINK.WMB_STAT.MCNT_END).log 0x0411 []
  else s1

/-- WMB_MCNT_WRITE (R470): a value below the present one is ignored. -/
def execWmbMcntWrite (v : Nat) (s : State) : Host.Outcome State Fault Refusal :=
  let n := v % 2 ^ 32
  if s.rd R.LINK.WMB_MCNT.MCNT ≤ n then .next ((s.setMcnt n).clear R.LINK.WMB_STAT.MCNT_UNSET) else .next s

/-! ### Build (R466 to R469) -/

/-- Bytes of a list replaced from an offset on. -/
def patch (l : List Nat) (at_ : Nat) (b : List Nat) : List Nat := l.take at_ ++ b ++ l.drop (at_ + b.length)

/-- Whether a telegram ends with KEY (R469). -/
def State.wmbKeyBad (s : State) (sec : Nat) : Bool :=
  (sec == 5 || sec == 7) && (!s.keyHas 3 attrChain ||
    (sec == 7 && (!s.keyHas 3 attrPrf || !s.keyHas 3 attrMac || s.flag R.LINK.WMB_STAT.MCNT_UNSET ||
      s.rd R.LINK.WMB_MCNT.MCNT == 0xFFFFFFFF)))

/-- M-field and address of the meter: those of the long header where there is one (PRESUMED EN 13757-7). -/
def wmbIdent (sec : Nat) (f : List Nat) : List Nat :=
  let t := wmbTpl sec f
  if f.getD t 0 = 0x72 then (f.drop (t + 5)).take 2 ++ (f.drop (t + 1)).take 4 ++ (f.drop (t + 7)).take 2
  else (f.drop 1).take 8

/-- The initial value of security mode 5. -/
def wmbIv5 (f : List Nat) : List Nat := wmbIdent 5 f ++ List.replicate 8 (f.getD (wmbConf 5 f - 2) 0)

/-- A session key of security mode 7: the constant, the counter, the meter's identification number and filler 0x07
(R598; PRESUMED EN 13757-7). -/
def wmbSession (key : List Nat) (const count : Nat) (ident : List Nat) : List Nat :=
  cmacOf key ([const] ++ leBytes 4 count ++ (ident.drop 2).take 4 ++ List.replicate 7 0x07)

/-- The secret part encrypted in chain-tap mode (R468). -/
def wmbEncrypt (key iv : List Nat) (sec : Nat) (f : List Nat) : List Nat :=
  let a := wmbConf sec f + 2
  let n := bitsOf (wmbConfWord sec f) 4 4
  patch f a (chainValues key ((f.drop a).take (16 * n)) n 0 iv).flatten

/-- The input of the AFL's MAC: MCL, counter, message length where announced, and what follows the AFL (PRESUMED EN
13757-7). -/
def aflInput (f : List Nat) : List Nat :=
  let c := aflCounter f
  let n := wmbTpl 7 f
  [f.getD 13 0] ++ (f.drop c).take 4 ++ (f.drop (c + 12)).take (n - (c + 12)) ++ f.drop n

/-- A telegram's fields with the access number inserted and security applied, under a key and counter (R466, R468). -/
def wmbSecure (h f key : List Nat) (acc count : Nat) : List Nat :=
  let sec := subSec h
  let f1 := if subAccIns h then patch f (wmbConf sec f - 2) [acc] else f
  if sec = 5 then wmbEncrypt key (wmbIv5 f1) 5 f1
  else if sec = 7 then
    let f2 := patch f1 (aflCounter f1) (leBytes 4 count)
    let f3 := wmbEncrypt (wmbSession key 0x00 count (wmbIdent 7 f2)) zeroBlock 7 f2
    let mac := (cmacOf (wmbSession key 0x01 count (wmbIdent 7 f2)) (aflInput f3)).take 8
    patch f3 (aflCounter f3 + 4) mac
  else f1

/-- A telegram built from its sub-header and fields: its bytes from the L-field on without CRCs, or none where its key is
refused (R469). -/
def State.wmbBuild (s : State) (h f : List Nat) : Option (List Nat) × State :=
  let sec := subSec h
  if s.wmbKeyBad sec then (none, (s.raise R.LINK.WMB_STAT.KEY_REF).log 0x0410 [])
  else
    let count := s.rd R.LINK.WMB_MCNT.MCNT
    let b := wmbSecure h f (s.keyBytes 3) (s.rd R.LINK.WMB_ACC.ACC) count
    (some (wmbL (subFmt h) f.length :: b), if sec = 7 then s.setMcnt (count + 1) else s)

/-- The chips and chip rate of a built telegram. -/
def wmbAir (h : List Nat) (bytes : Nat) : Nat × Nat :=
  (wmbOverhead (subMode h) + wmbChips (subMode h) (subDown h) * wmbLength (subFmt h) bytes,
    wmbRate (subMode h) (subDown h) (subNrate h))

/-! ### Reception (R471 to R473) -/

/-- RX_MODE in force. -/
def State.rxMode (s : State) : Nat :=
  let m := s.rd R.LINK.WMB_CFG.RX_MODE
  if m = 0 ∨ m > 9 then 4 else m

/-- The own M-field and A-field. -/
def State.wmbOwn (s : State) : List Nat :=
  leBytes 2 (s.rd R.LINK.WMB_ADDR0.M) ++ leBytes 4 (s.rd R.LINK.WMB_ADDR1.ID) ++
    [s.rd R.LINK.WMB_ADDR0.VER, s.rd R.LINK.WMB_ADDR0.TYPE]

/-- Whether windows listen for telegrams (R472). -/
def State.wmbListens (s : State) : Bool := s.flag R.LINK.CTRL.WMBUS_RX && s.flag R.LINK.WMB_CFG.LISTEN

/-! ### WMB_DECRYPT (R475)

a0 is the address of a telegram from its L-field on, CRCs removed, as a receive record holds it; a1 that of the buffer
that takes the exported key and after it the plaintext (log entry 2). -/

/-- The plaintext and counter of an inbound telegram, none where its MAC fails or a key may not be used. -/
def State.wmbOpen (s : State) (t : List Nat) : Option (List Nat × Nat) :=
  let f := t.drop 1
  let key := s.keyBytes 3
  let c := aflCounter f
  let count := leNat ((f.drop c).take 4)
  let ident := wmbIdent 7 f
  if !aflOk f || !s.keyHas 3 attrPrf || !s.keyHas 3 attrMac || !s.keyHas 3 attrExport ||
      decide (wmbSecret 7 f > f.length - (wmbConf 7 f + 2)) then none
  else if (cmacOf (wmbSession key 0x11 count ident) (aflInput f)).take 8 != (f.drop (c + 4)).take 8 then none
  else
    let a := wmbConf 7 f + 2
    some (cbcPlain (wmbSession key 0x10 count ident) ((f.drop a).take (wmbSecret 7 f)) (wmbSecret 7 f / 16) 0 zeroBlock,
      count)

/-- WMB_DECRYPT (R475): 0 with the plaintext, which overwrites the exported key, and the counter; 1 for a MAC failure. -/
def execWmbDecrypt (a0 a1 : Nat) (s : State) : Host.Outcome State Fault Refusal :=
  if !s.appRuns then .next s
  else
    let n := 1 + (s.appBytes a0 1).getD 0 0
    let r := s.romCall.takes a0 n
    match r.code, s.wmbOpen (s.appBytes a0 n) with
    | 0, none => .next (r.s.romResult 1)
    | 0, some (plain, count) =>
      let s1 := (r.s.coreStore a1 (plain ++ List.replicate (16 - plain.length) 0)).romResult 0
      .next { s1 with boot := { s1.boot with tag := leBytes 4 count } }
    | _, _ => .next r.s

end Sys2Proof.Machine
end

