-- ==== Sys2Proof/Machine/Queues.lean ====
section
/-! DEFINITION. The queues of the link engine (ch. 16, 19): frames and their air time, the order in which they are served,
the end of a frame with its DONE entry, the forward queue, the request queue of DICT with the BUSY buffer, the RX FIFO;
and the status registers that follow them. -/

namespace Sys2Proof.Machine

open Sys2Proof

/-! ### Interrupts -/

/-- The IRQ bits, in their order. -/
def linkIrqs : List Fld :=
  [R.LINK.IRQ.TX_DONE, R.LINK.IRQ.RX_FRAME, R.LINK.IRQ.RX_OVF, R.LINK.IRQ.ACK_SKIP, R.LINK.IRQ.DUTY_WAIT,
    R.LINK.IRQ.QUEUE_FULL, R.LINK.IRQ.ALARM_SENT, R.LINK.IRQ.SHED]

/-- Whether the LINK interrupt is asserted. -/
def State.linkIrqOn (s : State) : Bool := linkIrqs.any (fun f => s.flag f && s.rdBit R.LINK.IRQ_EN.EN f.lsb)

/-- An IRQ bit set: where that asserts the interrupt, wake cause 0xA is raised. -/
def State.linkIrq (s : State) (f : Fld) : State :=
  let s1 := s.raise f
  if !s.linkIrqOn && s1.linkIrqOn then s1.wake .app 0xA else s1

/-! ### Frames -/

/-- The submission header and payload of a slot (Table LINK-1). -/
def State.slotHeader (s : State) (n : Nat) : List Nat := s.bytes (slotAddr n) 8
def State.slotPayload (s : State) (n : Nat) : List Nat :=
  let h := s.slotHeader n
  s.bytes (slotAddr n + 8) (min 504 (le16 h 6))

/-- A frame's payload as submitted; of a WMBUS frame, its sub-header and its fields. -/
def State.payloadOf (s : State) (f : TxFrame) : List Nat := s.slotPayload f.slot
def State.wmbFields (s : State) (f : TxFrame) : List Nat := (s.payloadOf f).drop 8

/-- The Stook header of a frame, from its bytes or its submission. -/
def State.headerOf (s : State) (f : TxFrame) : List Nat :=
  if f.built then f.bytes
  else match f.src with
    | .slot => s.payloadOf f
    | .alarm => [6 + 16]
    | .fwd => []
    | .busy => f.bytes

/-- Whether a frame is a Stook frame with a header of Table MESH-2. -/
def TxFrame.stook (f : TxFrame) : Bool := f.form == 1 && f.src != .busy

/-- Whether a frame is a WMBUS telegram. -/
def TxFrame.wmbus (f : TxFrame) : Bool := f.form == 2

/-- Whether a frame is a beacon of the node. -/
def State.isBeacon (s : State) (f : TxFrame) : Bool := f.src == .fwd && hClass (s.headerOf f) == 0

/-- Whether a frame goes up. -/
def State.goesUp (s : State) (f : TxFrame) : Bool := f.stook && isUp (hClass (s.headerOf f))

/-- Whether a frame asks for an acknowledgement. -/
def State.wantsAck (s : State) (f : TxFrame) : Bool := f.src == .busy || s.goesUp f

/-- CHAN of a frame. -/
def State.frameChan (s : State) (f : TxFrame) : Nat := if f.chan = 0xFF then s.rd R.RADIO.CHAN.CHAN else f.chan

/-- The carrier of a frame in Hz × 2^19. -/
def State.frameFreq (s : State) (f : TxFrame) : Nat :=
  if f.wmbus then s.wmbCarrier (subMode f.wmb) (subDown f.wmb) (s.frameChan f) else s.carrier (s.frameChan f)

/-- Whether a frame's carrier is refused (R390, R462). -/
def State.frameOutside (s : State) (f : TxFrame) : Bool :=
  if f.wmbus then wmbOutside (subMode f.wmb) (s.frameFreq f) else (bandOf (s.frameFreq f)).isNone

/-- PRE, and the preamble of a frame to a gleaning receiver (R490). -/
def State.preamble (s : State) : Nat := max 4 (s.rd R.LINK.STOOK.PRE)
def State.longPreamble (s : State) : Nat := s.preamble + (s.guardTime * s.rate + 39999) / 40000

/-- Whether the receiver of a frame gleans: a parent whose INT_EFF is not 0; for a broadcast the neighbours (DEDUCED). -/
def State.gleans (s : State) (dst : Nat) : Bool :=
  dst == broadcast || (s.link.parents.any (fun p => p.addr == dst && p.intEff != 0))

/-- The bytes of a frame's PSDU with FCS. -/
def State.psduLen (s : State) (f : TxFrame) : Nat :=
  if f.built then f.bytes.length + 4
  else match f.src with
    | .alarm => 20 + 20 + (if s.fcExhausted 2 then 4 else 0) + 12
    | .fwd => 20 + 34 + 12
    | .slot => (s.payloadOf f).length + (if f.form = 1 then 12 else 4)
    | .busy => f.bytes.length + 4

/-- The bits on air of a frame and its rate (R435, R490, Table WMB-1). -/
def State.frameAir (s : State) (f : TxFrame) (dst : Nat) : Nat × Nat :=
  if f.wmbus then wmbAir f.wmb (if f.built then f.bytes.length else 1 + (s.wmbFields f).length)
  else (8 * ((if f.stook && s.gleans dst then s.longPreamble else s.preamble) + 4 + s.psduLen f), s.rate)

/-- The charge a frame is predicted to make, in microseconds (R448). -/
def State.frameCharge (s : State) (f : TxFrame) : Nat :=
  let a := s.frameAir f (hDst (s.headerOf f))
  airUs (a.1 * 1000000) a.2 + 100

/-- The retries of a frame. -/
def State.retries (s : State) (f : TxFrame) : Nat := if f.retry = 0xFF then s.rd R.LINK.TXCFG.RETRY_MAX else f.retry

/-- The power a frame names in place of the committed one. -/
def TxFrame.ownPower (f : TxFrame) : Option Int := if f.dbm = 0x7F then none else some (sInt 8 f.dbm)

/-! ### Queues -/

/-- A frame put in its place by order of arrival. -/
def enqueue (f : TxFrame) : List TxFrame → List TxFrame
  | [] => [f]
  | g :: r => if f.seq < g.seq then f :: g :: r else g :: enqueue f r

/-- A frame numbered as the next arrival. -/
def State.arrive (s : State) (f : TxFrame) : TxFrame × State :=
  ({ f with seq := s.link.nextSeq }, s.setLink { s.link with nextSeq := s.link.nextSeq + 1 })

/-- A frame in its queue. -/
def State.putFrame (s : State) (f : TxFrame) : State :=
  match f.src with
  | .slot =>
    if f.giver = ownDict then s.setLink { s.link with lane := enqueue f s.link.lane }
    else s.setLink { s.link with txq := enqueue f s.link.txq }
  | .fwd => s.setLink { s.link with fwd := enqueue f s.link.fwd }
  | .alarm => s.setLink { s.link with alarm := some f }
  | .busy => s.setLink { s.link with busy := some f }

/-- A frame out of its queue. -/
def State.takeFrame (s : State) (f : TxFrame) : State :=
  let keep := fun (g : TxFrame) => g.seq != f.seq
  match f.src with
  | .slot => s.setLink { s.link with lane := s.link.lane.filter keep, txq := s.link.txq.filter keep }
  | .fwd => s.setLink { s.link with fwd := s.link.fwd.filter keep }
  | .alarm => s.setLink { s.link with alarm := none }
  | .busy => s.setLink { s.link with busy := none }

/-- The forward queue in the order of R493. -/
def State.fwdOrder (s : State) : List TxFrame :=
  let cls := fun (f : TxFrame) => hClass (s.headerOf f)
  s.link.fwd.filter (fun f => cls f == 0) ++ s.link.fwd.filter (fun f => cls f == 6) ++
    s.link.fwd.filter (fun f => isDown (cls f)) ++ s.link.fwd.filter (fun f => cls f == 1 || cls f == 4)

/-- Every waiting frame in the order of R432 and R515. -/
def State.txOrder (s : State) : List TxFrame :=
  s.link.alarm.toList ++ s.link.busy.toList ++ s.link.lane ++ s.link.txq ++ s.fwdOrder

/-- The frames of attempts in play. -/
def Link.playing (l : Link) : List TxFrame :=
  (l.att.map Attempt.frame).toList ++ (l.yielded.map Attempt.frame).toList

/-- Whether a slot's frame is known to the engine. -/
def State.knowsSlot (s : State) (n : Nat) : Bool :=
  (s.link.txq ++ s.link.lane ++ s.link.playing).any (fun f => f.src == .slot && f.slot == n)

/-- The slots of the transmit queue, the frame in play among them. -/
def State.txqDepth (s : State) : Nat :=
  s.link.txq.length + (s.link.playing.filter (fun f => f.src == .slot && f.giver != ownDict)).length

/-- The frames of the forward queue, the frame in play among them. -/
def State.fwdDepth (s : State) : Nat :=
  s.link.fwd.length + (s.link.playing.filter (fun f => f.src == .fwd)).length

/-- Whether the BUSY buffer is pending. -/
def State.busyPending (s : State) : Bool := s.link.busy.isSome || s.link.playing.any (fun f => f.src == .busy)

/-- The first frame that can be served: one that waits for duty budget keeps its place, and meanwhile the first later
frame whose sub-band differs and whose charge fits is served (R432). -/
def State.pickFrom (s : State) : List TxFrame → List (Option Nat) → Option TxFrame
  | [], _ => none
  | f :: r, parked =>
    let b := subBand (s.frameFreq f)
    match f.wait with
    | some 0 => some f
    | some _ => s.pickFrom r (b :: parked)
    | none =>
      let fits := match b with
        | none => true
        | some n => s.dutyFits n (s.frameCharge f)
      if parked.isEmpty || (!parked.contains b && fits) then some f else s.pickFrom r parked

/-! ### The RX FIFO (R441) -/

/-- The bytes held. -/
def State.rxBytes (s : State) : Nat := 4 * (s.link.rx.map List.length).sum

/-- Bytes as words, the last padded with zeros. -/
def toWords (b : List Nat) : List Nat := (List.range ((b.length + 3) / 4)).map (fun i => le32 b (4 * i))

/-- A receive record (Table LINK-5): what word 0 holds beside the length and RSSI, from bit 18 up. -/
def State.rxRecord (s : State) (b : List Nat) (rssi extra : Nat) : List Nat :=
  [b.length % 1024 + rssi * 2 ^ 10 + extra * 2 ^ 18, s.utime, s.rd R.AON.RTC_SUB.SUB] ++ toWords b

/-- Whether a record fits in the 2 KiB of the FIFO. -/
def State.rxFits (s : State) (b : List Nat) : Bool := decide (s.rxBytes + 12 + 4 * ((b.length + 3) / 4) ≤ 2048)

/-- A whole record entered. -/
def State.rxPush (s : State) (r : List Nat) : State :=
  (s.setLink { s.link with rx := s.link.rx ++ [r] }).linkIrq R.LINK.IRQ.RX_FRAME

/-! ### Status -/

/-- STATUS.STATE (Table LINK-8). -/
def State.linkState (s : State) : Nat :=
  if s.link.ack.isSome then 3
  else
    match s.link.att with
    | some a =>
      (match a.phase with
        | .again => 4
        | .backoff => 4
        | .energy => 5
        | .admitted => 5
        | .tuneWait => 5
        | .tuneReady => 5
        | .tuneCal => 6
        | .tune => 6
        | .cal => 6
        | .ready => 6
        | .tx => 6
        | .ackWait => 7
        | .window => 2)
    | none => if s.link.glean ≠ 0 then 1 else if s.txOrder.any (fun f => f.wait.isSome) then 5 else 0

/-- DONE and DONE_CTL.COUNT. -/
def State.showDone (s : State) : State :=
  let d := s.link.done.headD { slot := 0, giver := 0, result := 0, attempts := 0 }
  let s1 := ((s.wr R.LINK.DONE.SLOT d.slot).wr R.LINK.DONE.GIVER d.giver).wr R.LINK.DONE.RESULT d.result
  ((s1.wr R.LINK.DONE.ATTEMPTS d.attempts).wrBool R.LINK.DONE.VALID (!s.link.done.isEmpty)).wr R.LINK.DONE_CTL.COUNT
    s.link.done.length

/-- A PEAK field raised to the present fill. -/
def State.raisePeak (s : State) (f : Fld) (v : Nat) : State := if s.rd f < v then s.wr f v else s

/-- The requests that frames have brought into DICT's queue; a local request waits in its slot. -/
def State.frameRequests (s : State) : Nat := (s.requests.filter (fun r => r.length != 1)).length

/-- The fill registers of Table QUE-4 and RXLEVEL. -/
def State.showFill (s : State) : State :=
  let s1 := ((s.wr R.LINK.FWD_STAT.DEPTH s.fwdDepth).raisePeak R.LINK.FWD_STAT.PEAK s.fwdDepth).wr R.LINK.RXLEVEL.BYTES
    s.rxBytes
  let s2 := (s1.raisePeak R.LINK.RX_STAT.PEAK s.rxBytes).wr R.DICT.QSTAT.DEPTH s.frameRequests
  s2.wrBool R.DICT.QSTAT.BUSY_PEND s.busyPending

/-- Whether continuous reception holds RF On: at L3 CONT acts as windows (R446). -/
def State.contListens (s : State) : Bool := s.gleanArmed && s.flag R.LINK.GLEAN.CONT && decide (s.level ≤ 2)

/-- The demands of the link engine: RF for an exchange or a window, and APP's engines while it has an attempt or a frame to
serve (R19, R103, R433, R445). -/
def State.linkDemands (s : State) : State :=
  let active := match s.link.att with
    | some a => !a.phase.waits
    | none => false
  let unread := (List.range 32).any (fun n => (s.slot n).owner == ownLink && !s.knowsSlot n)
  let s1 : State :=
    { s with power :=
        { s.power with
          exchange := active || s.link.ack.isSome || unread
          linkWork := s.txOrder.any (fun f => f.wait.isNone || f.wait == some 0)
          frameWait := s.link.att.isSome || !s.txOrder.isEmpty
          gleanOpen := s.link.glean != 0 || s.contListens } }
  let s2 := if s1.demanded .rf == .on then s1.startExit .rf else s1
  (if s2.demanded .app == .on then s2.startExit .app else s2).updateMode

/-- Every register and demand that follows the link engine's state. -/
def State.syncLink (s : State) : State :=
  let head := (s.link.playing ++ s.txOrder).head?
  let s1 := ((s.wr R.LINK.STATUS.STATE s.linkState).wr R.LINK.STATUS.TXQ s.txqDepth).wrBool R.LINK.STATUS.ACTIVE head.isSome
  let s2 := s1.wr R.LINK.STATUS.SLOT ((head.map TxFrame.slot).getD 0)
  let waits := s.txOrder.any (fun f => f.wait.isSome && f.wait != some 0)
  let s3 := if waits then s2 else s2.clear R.LINK.STATUS.WAIT_S
  let s4 := match head with
    | some f =>
      let b := (bandOf (s3.frameFreq f)).getD 4
      if s3.firstTune b then s3.raise R.TUNER.STATUS.DIRTY else s3.showDirtyAt b
    | none => s3.showDirty
  s4.showDone.showFill.linkDemands

/-! ### The end of a frame (R438, R439) -/

/-- The results of Table LINK-3. -/
def resAcked : Nat := 0
def resSent : Nat := 1
def resNoAck : Nat := 2
def resDuty : Nat := 3
def resEnergy : Nat := 4
def resRadio : Nat := 5
def resShed : Nat := 6
def resBadForm : Nat := 7
def resQueueFull : Nat := 8
def resKey : Nat := 9
def resDisabled : Nat := 10

/-- A DONE entry written (R439). -/
def State.pushDone (s : State) (e : DoneEntry) : State :=
  let s1 := s.setLink { s.link with done := newest 8 (s.link.done ++ [e]) }
  if s.link.done.length ≥ 8 then (s1.raise R.LINK.DONE_CTL.OVF).log 0x0408 [] else s1

/-- DONE_POP (R439). -/
def execDonePop (s : State) : Host.Outcome State Fault Refusal :=
  .next (s.setLink { s.link with done := s.link.done.drop 1 }).syncLink

/-- A slot given back to its giver, or freed. -/
def State.returnSlot (s : State) (n giver : Nat) (back : Bool) : State :=
  if back then (s.give ownLink n giver 0x3FF).1 else s.freeSlot n

/-- The end of a slot's frame (R438): RETURN gives it back on a failure. -/
def State.endSlot (s : State) (f : TxFrame) (result : Nat) (always : Bool) : State :=
  let good := result == resAcked || result == resSent
  let s1 := s.returnSlot f.slot f.giver (always || (!good && bit f.flags 2))
  let s2 := (s1.pushDone { slot := f.slot, giver := f.giver, result := result, attempts := f.attempts }).linkIrq
    R.LINK.IRQ.TX_DONE
  let s3 := if good then s2 else s2.log 0x0400 [f.slot, result]
  if result = resShed then (s3.linkIrq R.LINK.IRQ.SHED).log 0x0406 [] else s3

/-- The end of a frame, already out of its queue. -/
def State.reportEnd (s : State) (f : TxFrame) (result : Nat) : State :=
  match f.src with
  | .slot => s.endSlot f result false
  | .fwd => if s.isBeacon f then s else s.count R.LINK.MESH_COUNT.FWD 1
  | .alarm => ((s.raise R.LINK.STATUS.ALARM_DAY).linkIrq R.LINK.IRQ.ALARM_SENT).log 0x0407 [result]
  | .busy => s.count R.DICT.QSTAT.BUSY_SENT 1

/-- The attempt in play over; one that yielded the head resumes (R515). -/
def State.dropAttempt (s : State) : State := s.setLink { s.link with att := s.link.yielded, yielded := none }

/-- A frame whose attempt is in play ends. -/
def State.endAttempt (s : State) (a : Attempt) (result : Nat) : State := s.dropAttempt.reportEnd a.frame result

/-- A waiting frame ends. -/
def State.endWaiting (s : State) (f : TxFrame) (result : Nat) : State := (s.takeFrame f).reportEnd f result

/-- An attempt that failed (R437): the frame keeps the head while retries are left, and only the alarm frame at L4 and
deeper (R452). -/
def State.failAttempt (s : State) (a : Attempt) (result : Nat) : State :=
  if s.level ≥ 4 ∧ a.frame.src ≠ .alarm then s.endAttempt a resShed
  else if a.frame.attempts > s.retries a.frame then s.endAttempt a result
  else s.setLink { s.link with att := some { a with phase := .again, frame := { a.frame with lastFail := result } } }

/-! ### The forward queue (R492, R514) -/

/-- The oldest frame that a full queue drops. -/
def State.oldestForward (s : State) : Option TxFrame := s.link.fwd.find? (fun f => !s.isBeacon f)

/-- A frame entered in the forward queue (R514). -/
def State.enterForward (s : State) (f : TxFrame) : State :=
  let s1 :=
    if s.fwdDepth < 16 then s
    else
      match s.oldestForward with
      | none => s
      | some g => ((s.takeFrame g).count R.LINK.FWD_STAT.DROPPED 1).logMinute 0x0510 []
  let n := s1.arrive f
  n.2.putFrame n.1

/-- A received frame as it waits to be forwarded: HOPS counts this relay (R492). -/
def forwardFrame (b : List Nat) : TxFrame :=
  { src := .fwd, slot := 0, giver := 0, form := 1, flags := 0, chan := 0xFF, dbm := 0x7F, retry := 0xFF
    bytes := b.set 1 (min 15 (hHops b + 1)), built := true, attempts := 0, onAir := false, lastFail := 0, wait := none
    told := false, wmb := [], seq := 0 }

/-- A beacon to be sent. -/
def beaconFrame : TxFrame := { forwardFrame [] with bytes := [], built := false }

/-- An alarm frame to be built. -/
def alarmFrame : TxFrame := { forwardFrame [] with src := .alarm, bytes := [], built := false }

/-! ### DICT's requests and the BUSY buffer (R515, R546) -/

/-- The BUSY notice for a request (Table DICT-8). -/
def State.busyNotice (s : State) (reason : Nat) (b : List Nat) : List Nat :=
  let body := [0xBD, reason] ++ leBytes 2 s.stead ++ leBytes 2 s.addr ++ leBytes 2 (hSrc b) ++ leBytes 2 (hOrig b) ++
    leBytes 4 (hFc b) ++ leBytes 2 (s.rd R.DICT.CFG.BUSY_HOLD) ++ [s.frameRequests, 0, 0, 0]
  body ++ (cmacOf (s.keyBytes 4) body).take 8

/-- A frame in stages 1 to 3 yields the head to the BUSY buffer (R515). -/
def State.yieldHead (s : State) : State :=
  match s.link.att with
  | none => s
  | some a =>
    if a.frame.src ≠ .alarm ∧ a.phase.early = true then
      s.setLink { s.link with att := none, yielded := some a }
    else s

/-- A case of R515: the notice is built, or the request is lost while the buffer is pending. -/
def State.answerBusy (s : State) (reason : Nat) (b : List Nat) : State :=
  if s.busyPending then (s.count R.DICT.QSTAT.BUSY_LOST 1).logMinute 0x0611 []
  else
    let f : TxFrame :=
      { forwardFrame [] with src := .busy, chan := s.rd R.RADIO.CHAN.CHAN, bytes := s.busyNotice reason b, built := true }
    let s1 := s.logMinute 0x0610 []
    if s.keyHas 4 attrMac then
      let n := s1.arrive f
      (n.2.putFrame n.1).yieldHead
    else s1.reportEnd f resKey

/-- A request delivered to DICT at stage 8: discarded while it is not enabled, or at L5 (R93, Table DICT-10). -/
def State.deliverRequest (s : State) (b : List Nat) : State :=
  if s.level ≥ 5 then s
  else if !s.flag R.DICT.CTRL.EN then s.count R.DICT.COUNTS.AUTH_FAIL 1
  else if s.frameRequests ≥ 4 then s.answerBusy 1 b
  else
    let s1 : State := { s with requests := s.requests ++ [b] }
    let s2 := if s1.rd R.DICT.STATUS.STATE = 0 then s1.wr R.DICT.STATUS.STATE 1 else s1
    (if s2.demanded .app == .on then s2.startExit .app else s2).updateMode

/-! ### Submission (R430, R431) -/

/-- Whether a submission ends with BAD_FORM (R430, R465, R484). -/
def State.submitBad (s : State) (n : Nat) : Bool :=
  let h := s.slotHeader n
  let form := h.getD 0 0
  let len := le16 h 6
  let giver := (s.slot n).giver
  let p := s.slotPayload n
  !(decide (1 ≤ form) && decide (form ≤ 3)) || (form == 3 && giver != ownApp && giver != ownDma) ||
    decide (h.getD 1 0 ≥ 8) || h.getD 5 0 != 0 || !(decide (h.getD 4 0 ≤ 7) || h.getD 4 0 == 0xFF) ||
    len == 0 || decide (len > (if form = 1 then 498 else 504)) || decide ((s.slot n).len < 8 + len) ||
    (bit (h.getD 1 0) 0 && form != 1) || (form == 1 && s.stookBad p) || (form == 2 && wmbBad (p.take 8) (p.drop 8))

/-- The frame of a slot. -/
def State.slotFrame (s : State) (n : Nat) : TxFrame :=
  let h := s.slotHeader n
  { src := .slot, slot := n, giver := (s.slot n).giver, form := h.getD 0 0, flags := h.getD 1 0, chan := h.getD 2 0
    dbm := h.getD 3 0, retry := h.getD 4 0, bytes := [], built := false, attempts := 0, onAir := false, lastFail := 0
    wait := none, told := false, wmb := if h.getD 0 0 = 2 then (s.slotPayload n).take 8 else [], seq := 0 }

/-- FRAME_SUBMIT (R430 to R432, R438, R452, R489): the doorbell of a slot that LINK now owns. -/
def execFrameSubmit (slot : Nat) (s : State) : Host.Outcome State Fault Refusal :=
  let n := slot % 32
  if (s.slot n).owner ≠ ownLink ∨ s.knowsSlot n then .next s
  else
    let f := s.slotFrame n
    if !s.flag R.LINK.CTRL.EN then .next (s.endSlot f resDisabled false).syncLink
    else if s.level ≥ 4 then .next (s.endSlot f resShed false).syncLink
    else if f.giver ≠ ownDict ∧ s.txqDepth ≥ 8 then
      .next (((s.endSlot f resQueueFull true).linkIrq R.LINK.IRQ.QUEUE_FULL).log 0x0405 []).syncLink
    else if s.submitBad n then .next (s.endSlot f resBadForm false).syncLink
    else if s.goesUp f && s.flag R.LINK.MESH_STATE.NO_PARENT then
      .next (s.tellLonely.endSlot f resNoAck false).syncLink
    else
      let r := s.arrive f
      .next (r.2.putFrame r.1).syncLink

/-! ### Registers that pop or load -/

/-- RXDATA_READ (R441): the next word of the RX FIFO is removed; what an empty FIFO reads as the spec does not say. -/
def execRxdataRead (s : State) : Host.Outcome State Fault Refusal :=
  match s.link.rx with
  | [] =>
    let x := s.fresh
    .next (x.2.done (x.1 % 2 ^ 32))
  | [] :: r => .next ((s.setLink { s.link with rx := r }).syncLink.done 0)
  | (w :: ws) :: r =>
    let rx := if ws.isEmpty then r else ws :: r
    .next (((s.setLink { s.link with rx := rx }).wr R.LINK.RXDATA.DATA w).syncLink.done w)

/-- FWD_PEAK_WRITE (R522): a PEAK field loads the present fill: 0 FWD_STAT, 1 RX_STAT. -/
def execFwdPeakWrite (which : Nat) (s : State) : Host.Outcome State Fault Refusal :=
  .next (if which = 0 then s.wr R.LINK.FWD_STAT.PEAK s.fwdDepth else s.wr R.LINK.RX_STAT.PEAK s.rxBytes)

end Sys2Proof.Machine
end

