-- ==== Sys2Proof/Machine/Link.lean ====
section
/-! DEFINITION. Attempts of the link engine (ch. 16): their start with the build, the duty check, energy admission, retune
and calibration, transmission and its end, the waits after it, and every way an attempt fails; with the radio's lock and
HFXO failures. -/

namespace Sys2Proof.Machine

open Sys2Proof

/-- The attempt in play replaced. -/
def State.setAttempt (s : State) (a : Attempt) : State := s.setLink { s.link with att := some a }

/-- Whether RF is On with HFXO running. -/
def State.rfReady (s : State) : Bool := s.power.rf.st == .on && !s.power.rf.exiting && s.power.rf.entering.isNone

/-! ### ATTEMPT_START (R432, R433, R466, R485, R491, R492) -/

/-- The greatest count of backoff slots after `r` attempts, plus one (R433). -/
def State.backoffRange (s : State) (r : Nat) : Nat :=
  let lo := s.rd R.LINK.TXCFG.BO_MIN
  2 ^ min (lo + r) (max lo (s.rd R.LINK.TXCFG.BO_MAX))

/-- The address an attempt goes to: parent r mod P upwards, the request's sender for a BUSY notice, else all (R491). -/
def State.attemptDst (s : State) (f : TxFrame) : Option Nat :=
  if s.goesUp f then
    let ps := s.parents
    if ps.isEmpty then none else ((ps[f.attempts % ps.length]?).map Parent.addr)
  else if f.src = .busy then some (hDst f.bytes)
  else some broadcast

/-- The alarm payload (R453), with the exhausted slots while slot 2 is exhausted (R606). -/
def State.alarmPayload (s : State) : List Nat :=
  leBytes 8 s.otp.unitId ++ [s.level, s.rd R.PWR.LADDER.LEVEL_MAX] ++ leBytes 2 (s.rd R.PWR.LADDER.VBAT_COMP) ++
    leBytes 4 (s.rd (R.LINK.ALARM_DATA.DATA 0)) ++ leBytes 4 (s.rd (R.LINK.ALARM_DATA.DATA 1)) ++
    (if s.fcExhausted 2 then leBytes 2 0x0771 ++ [4 + 32 * b2n (s.fcExhausted 5), 0] else [])

/-- The payload of a response of DICT with its TAG8 (R536, R545), which covers the frame counter that the frame will take;
none while no class key is held. -/
def State.tagResponse (s : State) (f : TxFrame) (p : List Nat) : Option (List Nat) :=
  if f.giver ≠ ownDict then some p
  else
    match s.dict.responses.find f.slot, s.cmac.classKeys[p.getD 20 0 % 4]? with
    | none, _ => some p
    | some _, none => none
    | some rfc, some k =>
      let body := p.take (p.length - 8)
      some (body ++ (cmacOf k (s.unitIdBytes ++ leBytes 2 s.stead ++ leBytes 2 s.addr ++ leBytes 4 (s.rd (fcntOf 2)) ++
        leBytes 4 rfc ++ body.drop 20)).take 8)

/-- A frame built at the start of its first attempt (R466, R485); a telegram that never went on air is built afresh. -/
def State.buildFrame (s : State) (f : TxFrame) : Option (List Nat) × State :=
  match f.src with
  | .busy => (some f.bytes, s)
  | .alarm => if f.built then (some f.bytes, s) else s.stookSeal 6 (s.ownCtl 0x16) anyCollector s.ring 5 s.alarmPayload
  | .fwd => if f.built then (some f.bytes, s) else s.beaconBuild
  | .slot =>
    if f.form = 2 then (if f.built && f.onAir then (some f.bytes, s) else s.wmbBuild f.wmb (s.wmbFields f))
    else if f.built then (some f.bytes, s)
    else if f.form = 1 then
      (match s.tagResponse f (s.payloadOf f) with
        | none => (none, s)
        | some p => s.stookBuild p)
    else (some (s.payloadOf f), s)

/-- The hop fields of a Stook frame for this attempt. -/
def State.hopFields (s : State) (f : TxFrame) (b : List Nat) (dst : Nat) : List Nat :=
  if f.stook then setHop b (hHops b) s.addr dst s.ring (isUp (hClass b)) else b

/-- An attempt of a frame that is out of its queue begins. -/
def State.beginAttempt (s : State) (f : TxFrame) : State :=
  match s.attemptDst f with
  | none => s.dropAttempt.reportEnd f resNoAck
  | some dst =>
    let f1 := { f with attempts := f.attempts + 1, wait := none }
    let s1 := s.count R.LINK.COUNT0.TX_ATTEMPTS 1
    let s2 := if f.attempts = 0 then s1 else s1.count R.LINK.COUNT0.RETRIES 1
    match s2.buildFrame f with
    | (none, s3) => s3.dropAttempt.reportEnd f1 resKey
    | (some b, s3) =>
      let f2 := { f1 with bytes := s3.hopFields f b dst, built := true }
      s3.setAttempt
        { frame := f2, phase := .backoff, dst := dst, parents := s.parents.length, freq := 0, bits := 0, rate := 0
          dbm := 0, ext := false, capped := false, blocked := false, tuned := false, temp := 0 }

/-- A frame whose duty wait has passed resumes its attempt at stage 3. -/
def State.resumeFrame (s : State) (f : TxFrame) : State :=
  s.setAttempt
    { frame := { f with wait := none }, phase := .backoff, dst := hDst f.bytes, parents := s.parents.length, freq := 0
      bits := 0, rate := 0, dbm := 0, ext := false, capped := false, blocked := false, tuned := false, temp := 0 }

/-- The attempt of the frame that the order names, `k` backoff slots drawn (R432, R433). -/
def State.serveNext (s : State) (order : List TxFrame) (k : Nat) : State :=
  match s.pickFrom order [] with
  | none => s
  | some f =>
    if f.wait = some 0 then (s.takeFrame f).resumeFrame f
    else if k < s.backoffRange f.attempts then (s.takeFrame f).beginAttempt f
    else s

/-- Whether an attempt may start: no test runs, the ladder is above L7, and the engines that build the frame are powered,
as APP is, or CMACE alone from L5 on (R417, R452). -/
def State.mayStart (s : State) : Bool :=
  s.radio.test == 0 && decide (s.level < 7) && !s.power.frozen && !s.power.ship &&
    (s.railPowered .app || decide (s.level ≥ 5))

/-- The order of service: from L4 on only the alarm frame (R452). -/
def State.startOrder (s : State) : List TxFrame := if s.level ≥ 4 then s.link.alarm.toList else s.txOrder

/-- ATTEMPT_START: the frame that keeps the head, or the first that can be served; a pending BUSY notice goes first. -/
def execAttemptStart (k : Nat) (s : State) : Host.Outcome State Fault Refusal :=
  if !s.mayStart then .next s
  else
    match s.link.att with
    | some a =>
      if a.phase ≠ .again then .next s
      else if s.link.busy.isSome ∧ a.frame.src ≠ .alarm ∧ a.frame.src ≠ .busy ∧ s.link.yielded.isNone ∧ s.level < 4 then
        .next (s.yieldHead.serveNext s.link.busy.toList k).syncLink
      else if k < s.backoffRange a.frame.attempts then
        .next ((s.setLink { s.link with att := none }).beginAttempt a.frame).syncLink
      else .next s
    | none =>
      let order := if s.link.yielded.isSome then s.link.alarm.toList ++ s.link.busy.toList else s.startOrder
      .next (s.serveNext order k).syncLink

/-! ### Stages 2 to 4 -/

/-- Calibration for the transmission itself, or its readiness. -/
def State.calibrateTx (s : State) (a : Attempt) : State :=
  if s.needsCal a.freq then (s.setAttempt { a with phase := .cal }).startCal a.freq .tx
  else s.setAttempt { a with phase := .ready }

/-- The retune's carrier goes on air (R413). -/
def State.beginTune (s : State) (a : Attempt) : State :=
  ((s.setAttempt { a with phase := .tune }).takeRetune ((bandOf a.freq).getD 0)).radioSends 5 false

/-- A retune that is admitted: after the calibration that R398 requires. -/
def State.startTune (s : State) (a : Attempt) : State :=
  if s.needsCal a.freq then (s.setAttempt { a with phase := .tuneCal }).startCal a.freq .tune else s.beginTune a

/-- Energy admission of a retune, as an attempt at 0 dBm (R413). -/
def State.tuneAdmission (s : State) (vres vbat : Nat) : Admission :=
  s.admission (s.pRes false 0) (20 * s.radio.op.maxProbes) 1 vres vbat

/-- A retune that is refused (R415): the band stays DIRTY, and the frame goes on under the codes it has, once RF is
ready (R394). -/
def State.skipTune (s : State) (a : Attempt) : State :=
  if s.rfReady then s.calibrateTx { a with tuned := true } else s.setAttempt { a with tuned := true, phase := .admitted }

/-- The retune judged for energy: it starts, waits, or is refused. -/
def State.judgeTune (s : State) (a : Attempt) (vres vbat : Nat) : State :=
  match s.tuneAdmission vres vbat with
  | .admitted => if s.rfReady then s.startTune a else s.setAttempt { a with phase := .tuneReady }
  | .wait => s.setAttempt { a with phase := .tuneWait }
  | .tooBig => (s.showAdmission .tooBig).skipTune a
  | .headroom => (s.showAdmission .headroom).skipTune a

/-- Stage 4: a retune where the band is due and its duty check passes, then calibration where R398 requires it. -/
def State.stageFour (s : State) (a : Attempt) (vres vbat : Nat) : State :=
  let s1 := s.opStart a.freq a.temp
  if a.tuned || !s1.retuneDue ((bandOf a.freq).getD 0) then s1.skipTune a
  else if s1.dutyCheck a.freq (tuneUs s1.radio.op.maxProbes) == .passes then s1.judgeTune a vres vbat
  else s1.skipTune a

/-- The power of an attempt that is not admitted yet, at the present ladder level (R83, R88, R403, R404). -/
def State.latchPower (s : State) (a : Attempt) : Attempt :=
  let sel := bit a.frame.flags 1
  let ext := s.usesExt sel
  let c := s.caps sel a.frame.ownPower
  { a with ext := ext, dbm := s.txPower ext a.frame.ownPower, capped := c.1, blocked := c.2 }

/-- Stage 3: energy admission (R75 to R77), of which a measurement of VRES is part; stage 4 begins once RF is ready
(R394). -/
def State.stageThree (s : State) (a0 : Attempt) (vres vbat : Nat) : State :=
  let a := s.latchPower a0
  match s.admission (s.pRes a.ext a.dbm) (a.bits * 1000000) a.rate vres vbat with
  | .admitted => if s.rfReady then s.stageFour a vres vbat else s.setAttempt { a with phase := .admitted }
  | .wait => s.setAttempt { a with phase := .energy }
  | .tooBig => (s.showAdmission .tooBig).endAttempt a resEnergy
  | .headroom => (s.showAdmission .headroom).endAttempt a resEnergy

/-- The time a wait of `m` minute ticks takes in seconds: the first tick falls within a minute, when the model does not
say (log entry 6). -/
def State.predictWait (s : State) (m : Nat) : State :=
  let x := s.fresh
  x.2.wr R.LINK.STATUS.WAIT_S (60 * (m - 1) + x.1 % 61)

/-- A frame parked for duty budget: back in its place, reported once (R451). -/
def State.park (s : State) (a : Attempt) (m : Nat) : State :=
  let f := { a.frame with wait := some s.dutyWaitMax, told := true }
  let s1 := ((s.dropAttempt.putFrame f).predictWait m).linkIrq R.LINK.IRQ.DUTY_WAIT
  if a.frame.told then s1 else s1.log 0x0401 []

/-- The attempt with its carrier and air time latched (R401). -/
def State.latch (s : State) (a : Attempt) (temp : Int) : Attempt :=
  let air := s.frameAir a.frame a.dst
  { a with freq := s.frameFreq a.frame, bits := air.1, rate := air.2, temp := temp }

/-- Stages 2 and 3 at the end of the backoff. -/
def State.afterBackoff (s : State) (a0 : Attempt) (vres vbat : Nat) (temp : Int) : State :=
  let a := s.latch a0 temp
  if s.frameOutside a.frame then (s.refuseRange a.freq).endAttempt a resRadio
  else
    match s.dutyCheck a.freq (airUs (a.bits * 1000000) a.rate + 100) with
    | .passes => s.stageThree a vres vbat
    | .refused => (s.log 0x0402 []).endAttempt a resDuty
    | .waits m => s.park a m

/-- BACKOFF_END (R433): the backoff has elapsed and RF_READY is 1. -/
def execBackoffEnd (vres vbat : Nat) (temp : Int) (s : State) : Host.Outcome State Fault Refusal :=
  match s.link.att with
  | none => .next s
  | some a =>
    if a.phase = .backoff ∧ s.rfReady = true then
      .next (((s.measureReservoir vres vbat).useVoted 4).afterBackoff a vres vbat temp).syncLink
    else .next s

/-- A VRES measurement while an attempt or its retune waits for energy (R77): it is admitted, refused on headroom, or waits
on. -/
def State.retryEnergy (s : State) (vres vbat : Nat) (temp : Int) : State :=
  match s.link.att with
  | none => s
  | some a0 =>
    let a := { a0 with temp := temp }
    if a.phase = .energy then (s.stageThree a vres vbat).syncLink
    else if a.phase = .tuneWait then (s.judgeTune a vres vbat).syncLink
    else s

/-- A commit of RES_CTRL or RES_CAP while an attempt waits (R90): the refusals of R76 are judged again. -/
def State.reservoirCommitted (s : State) (vres vbat : Nat) : State :=
  match s.link.att with
  | none => s
  | some a => s.retryEnergy vres vbat a.temp

/-- RES_SLOW (R77): the attempt, or its retune, has waited ADMIT_MAX seconds; without its retune a frame goes on (R415). -/
def execResSlow (s : State) : Host.Outcome State Fault Refusal :=
  match s.link.att with
  | none => .next s
  | some a =>
    let s1 := (s.raise R.PWR.RES_STATUS.SLOW).log 0x0104 []
    if a.phase = .energy then .next (s1.failAttempt a resEnergy).syncLink
    else if a.phase = .tuneWait then .next (s1.skipTune a).syncLink
    else .next s

/-- RF is ready: an attempt that was admitted before goes on (R394), with VRES and VBAT as they were measured last. -/
def State.admittedGoes (s : State) : State :=
  match s.link.att with
  | none => s
  | some a =>
    if a.phase = .admitted then s.stageFour a (s.rd R.PWR.RES_STATUS.VRES_MV) s.supply.vbat
    else if a.phase = .tuneReady then s.startTune a
    else s

/-! ### Transmission -/

/-- Whether a frame is a beacon still to take its time (R487). -/
def State.sendsBeacon (s : State) (a : Attempt) : Bool := s.isBeacon a.frame

/-- The time a beacon's sync word leaves: after the preamble. -/
def State.syncTime (s : State) (a : Attempt) : Nat :=
  ((s.rtcTicks : Int) + openDiv 9 (8 * (s.longPreamble : Int) * 32768) (max 1 a.rate)).toNat

/-- TX_START (R402 to R405, R410, R433, R456, R487): the first bit goes on air; a window without preamble is cut. -/
def execTxStart (s : State) : Host.Outcome State Fault Refusal :=
  match s.link.att with
  | none => .next s
  | some a =>
    if a.phase = .ready ∧ s.rfReady = true then
      let f := if s.sendsBeacon a then { a.frame with bytes := s.beaconFinish a.frame.bytes (s.syncTime a) } else a.frame
      let s1 := s.setAttempt { a with phase := .tx, frame := f }
      let s2 := s1.setLink { s1.link with glean := 0 }
      .next (((s2.applyCodes ((bandOf a.freq).getD 0)).showCaps (a.capped, a.blocked)).radioSends 3 a.ext).syncLink
    else .next s

/-- A forwarded frame's originator entered in the descendant table of 64 (R494). -/
def State.noteDescendant (s : State) (f : TxFrame) : State :=
  if f.src = .fwd ∧ isUp (hClass f.bytes) then
    let o := hOrig f.bytes
    let t := s.link.desc.filter (fun e => e.1 != o)
    s.setLink { s.link with desc := newest 64 (t ++ [(o, s.utime)]) }
  else s

/-- Whether the receiver is to be on when nothing else uses the radio (R446). -/
def State.listensOn (s : State) : Bool := s.contListens && s.rfReady

/-- What the end of every transmission does: the charge, the access number of a telegram's first transmission (R467), the
descendant table, and the turn of the front end, towards the receiver where `rx` says so. -/
def State.transmitted (s : State) (a : Attempt) (us : Nat) (rx : Bool) : State :=
  let s1 := (s.charge a.freq us).noteDescendant a.frame
  let first := a.frame.wmbus && subAccIns a.frame.wmb && !a.frame.onAir
  (if first then s1.stepAcc else s1).radioTurns a.ext (rx || s.listensOn)

/-- The end of a reception: the radio rests, or listens on. -/
def State.receiverEnds (s : State) : State := if s.listensOn then s.radioListens else s.radioRest

/-- The attempt after its transmission. -/
def Attempt.sent (a : Attempt) : Attempt := { a with frame := { a.frame with onAir := true } }

/-- The response window follows a telegram with WIN (R471): its receiver calibrates first where the carrier differs. -/
def State.awaitWindow (s : State) (a : Attempt) : State :=
  let freq := s.wmbCarrier (subMode a.frame.wmb) true (s.frameChan a.frame)
  let s1 := s.setAttempt { a with phase := .ackWait, freq := freq }
  if s1.needsCal freq then s1.startCal freq .tx else s1

/-- Whether the detector measures a transmission (R410, R411). -/
def State.measures (s : State) (ext : Bool) (dbm : Int) : Bool := s.tunerOn && !ext && decide (dbm ≥ 0)

/-- TX_END (R411, R433, R448): the transmission is charged; the acknowledgement wait or the response window follows, or
the frame ends with SENT. -/
def execTxEnd (rl : Nat) (s : State) : Host.Outcome State Fault Refusal :=
  match s.link.att with
  | none => .next s
  | some a0 =>
    if a0.phase = .tx then
      let a := a0.sent
      let waits := s.wantsAck a.frame || (a.frame.wmbus && subWin a.frame.wmb)
      let s1 := s.transmitted a0 (airUs (a.bits * 1000000) a.rate + 100) waits
      let s2 := if s.measures a.ext a.dbm then s1.measureLoss ((bandOf a.freq).getD 0) rl else s1
      if s.wantsAck a.frame then .next (s2.setAttempt { a with phase := .ackWait }).syncLink
      else if a.frame.wmbus && subWin a.frame.wmb then .next (s2.awaitWindow a).syncLink
      else .next (s2.endAttempt a resSent).syncLink
    else .next s

/-- ACK_TIMEOUT (R436): no matching acknowledgement in time. -/
def execAckTimeout (s : State) : Host.Outcome State Fault Refusal :=
  match s.link.att with
  | none => .next s
  | some a =>
    if a.phase = .ackWait ∧ a.frame.wmbus = false then .next (s.failAttempt a resNoAck).receiverEnds.syncLink else .next s

/-- RESPONSE_WINDOW_OPEN (R471): the receiver is ready at START. -/
def execResponseWindowOpen (s : State) : Host.Outcome State Fault Refusal :=
  match s.link.att with
  | none => .next s
  | some a =>
    if a.phase = .ackWait ∧ a.frame.wmbus = true ∧ s.radio.calFor = none then
      .next (s.setAttempt { a with phase := .window }).radioListens.syncLink
    else .next s

/-- RESPONSE_WINDOW_CLOSE (R471): no sync word within LEN. -/
def execResponseWindowClose (s : State) : Host.Outcome State Fault Refusal :=
  match s.link.att with
  | none => .next s
  | some a =>
    if a.phase = .window then .next (s.endAttempt a resSent).receiverEnds.syncLink else .next s

/-! ### Test modes (R417, R418) -/

/-- Whether a test has its carrier on air: it transmits, and the synthesiser is locked. -/
def State.testOnAir (s : State) : Bool := (s.radio.test == 1 || s.radio.test == 2) && s.radio.calFor != some .test

/-- The end of a test with its reason; a carrier on air is charged (R448). -/
def State.endTest (s : State) (why onAir : Nat) : State :=
  let s1 := if s.testOnAir then s.charge s.ownCarrier (onAir + 100) else s
  let s2 := s1.setRadio { s1.radio with test := 0, testExt := false, calFor := if s1.radio.calFor = some .test then none
    else s1.radio.calFor }
  let s3 := if s.testOnAir then s2.radioTurns s.radio.testExt s2.listensOn else if s.radio.test = 0 then s2 else s2.receiverEnds
  (((s3.clear R.RADIO.TEST.MODE).raise R.RADIO.EVENTS.TEST_END).wr R.RADIO.EVENTS.TEST_WHY why).log 0x0443 [why]

/-- A test ended by a cause the spec gives no reason code for: what TEST_WHY holds is free (log entry 6). -/
def State.endTestFree (s : State) (onAir : Nat) : State :=
  let x := s.fresh
  x.2.endTest (x.1 % 8) onAir

/-- Whether the link engine has an operation in progress. -/
def State.linkBusy (s : State) : Bool :=
  s.link.ack.isSome || s.link.glean != 0 ||
    (match s.link.att with
      | some a => a.phase != .again && a.phase != .backoff && a.phase != .energy
      | none => false)

/-- The power a test transmits at (R417). -/
def State.testPower (s : State) : Int := s.txPower s.radio.testExt none

/-- The test itself, once the synthesiser is locked: the pins of its path, and the detector's result for its carrier, which
the command does not give and which is free (R411). -/
def State.runTest (s : State) : State :=
  if s.radio.test = 3 then (s.radioState 6).movePins s.radio.op.receiveMoves
  else
    let s1 := s.radioSends 6 s.radio.testExt
    if s1.measures s.radio.testExt s.testPower then
      let x := s1.fresh
      x.2.measureLoss ((bandOf s.ownCarrier).getD 0) (x.1 % 51)
    else s1

/-- A write of TEST with its key starts a test (R417, R425), which ends at once at L4 and deeper (R418); with another key it
is ignored, and so it is while a test runs (log entry 17). -/
def State.startTest (s : State) (mode key : Nat) (temp : Int) : State :=
  if key ≠ 0xB4 ∨ s.radio.test ≠ 0 ∨ s.power.rf.st ≠ .on then s
  else if !s.flag R.PWR.DOMAIN_REQ.RF_HOLD || s.linkBusy then s.endTest 4 0
  else if s.level ≥ 4 then s.endTest 3 0
  else if (bandOf s.ownCarrier).isNone then (s.refuseRange s.ownCarrier).endTestFree 0
  else
    let ext := mode != 3 && s.usesExt (s.flag R.RADIO.EXTPA_CFG.EN)
    let s1 := (s.opStart s.ownCarrier temp).wr R.RADIO.TEST.MODE mode
    let s2 := s1.setRadio { s1.radio with test := mode, testExt := ext }
    let s3 := s2.applyCodes ((bandOf s.ownCarrier).getD 0)
    let s4 := if mode = 3 then s3 else s3.showCaps (s.caps (s.flag R.RADIO.EXTPA_CFG.EN) none)
    if s4.needsCal s.ownCarrier then s4.startCal s.ownCarrier .test else s4.runTest

/-- TEST_CARRIER (R417). -/
def execTestCarrier (key : Nat) (temp : Int) (s : State) : Host.Outcome State Fault Refusal := .next (s.startTest 1 key temp)

/-- TEST_MODULATED (R417). -/
def execTestModulated (key : Nat) (temp : Int) (s : State) : Host.Outcome State Fault Refusal :=
  .next (s.startTest 2 key temp)

/-- TEST_RX (R417). -/
def execTestRx (key : Nat) (temp : Int) (s : State) : Host.Outcome State Fault Refusal := .next (s.startTest 3 key temp)

/-- TEST_STOP (R418). -/
def execTestStop (onAir : Nat) (s : State) : Host.Outcome State Fault Refusal :=
  .next (if s.radio.test = 0 then s else s.endTest 1 onAir)

/-- TEST_DUTY_EXHAUSTED (R418): only a test that transmits uses the budget. -/
def execTestDutyExhausted (onAir : Nat) (s : State) : Host.Outcome State Fault Refusal :=
  .next (if s.radio.test = 1 ∨ s.radio.test = 2 then s.endTest 2 onAir else s)

/-- The end of a test whose RF hold has ended (R418). -/
def State.holdChecked (s : State) (onAir : Nat) : State :=
  if s.radio.test ≠ 0 ∧ s.flag R.PWR.DOMAIN_REQ.RF_HOLD = false then s.endTest 5 onAir else s

/-- RF_HOLD (R107, R418). -/
def execRfHold (v : Bool) (onAir : Nat) (s : State) : Host.Outcome State Fault Refusal :=
  .next ((s.setRfHold v).holdChecked onAir)

/-- ACORE_WFI (R107, R418). -/
def execAcoreWfi (onAir : Nat) (s : State) : Host.Outcome State Fault Refusal := .next (s.acoreSleep.holdChecked onAir)

/-! ### Calibration, retune and failures -/

/-- SYNTH_CAL_DONE (R398): what the calibration was for goes on. -/
def execSynthCalDone (s : State) : Host.Outcome State Fault Refusal :=
  match s.radio.calFor with
  | none => .next s
  | some .glean =>
    let s1 := s.calLocks
    .next (s1.setLink { s1.link with glean := s1.link.glean + s1.link.glean % 2 }).radioListens.syncLink
  | some .test => .next s.calLocks.runTest
  | some .tune =>
    (match s.link.att with
      | some a => .next (s.calLocks.beginTune a).syncLink
      | none => .next s.calLocks)
  | some .tx =>
    (match s.link.att with
      | some a =>
        if a.phase = .cal then .next ((s.calLocks.setAttempt { a with phase := .ready }).radioState 0).syncLink
        else .next s.calLocks.radioListens.syncLink
      | none => .next s.calLocks)

/-- SYNTH_CAL_TIMEOUT (R399): retried once, then the operation is refused. -/
def execSynthCalTimeout (s : State) : Host.Outcome State Fault Refusal :=
  match s.radio.calFor with
  | none => .next s
  | some c =>
    if !s.radio.calRetry then .next s.calAgain
    else
      let s1 := s.calFails
      match c with
      | .glean => .next (s1.setLink { s1.link with glean := 0 }).syncLink
      | .test => .next (s1.endTestFree 0)
      | .tune => .next (match s.link.att with
          | some a => s1.failAttempt a resRadio
          | none => s1).syncLink
      | .tx => .next (match s.link.att with
          | some a => s1.failAttempt a resRadio
          | none => s1).syncLink

/-- A retune that ends early (R415): the band stays DIRTY with its codes, the time on air is charged, and the frame goes
on to its own admission. -/
def State.cutTune (s : State) (a : Attempt) (us : Nat) : State :=
  ((s.charge a.freq us).setAttempt { a with phase := .backoff, tuned := true }).radioTurns false false

/-- TUNE_DONE (R413, R414): the search over the losses measured ends; the frame is admitted afresh. -/
def execTuneDone (losses : List Nat) (vres vbat : Nat) (s : State) : Host.Outcome State Fault Refusal :=
  match s.link.att with
  | none => .next s
  | some a =>
    if a.phase = .tune then
      let b := (bandOf a.freq).getD 0
      let x := s.search b losses
      let s1 := (((s.charge a.freq (tuneUs x.probes)).storeTune b x).radioTurns false false).measureReservoir vres vbat
      .next (s1.stageThree { a with tuned := true } vres vbat).syncLink
    else .next s

/-- The charge of the newest bucket of a carrier's sub-band reduced by what a transmission did not use. -/
def State.uncharge (s : State) (freq us : Nat) : State :=
  match subBand freq with
  | none => s
  | some n =>
    let b := s.buckets n
    { s with link := { s.link with duty := s.link.duty.set n (b.dropLast ++ [b.getLastD 0 - us]) } }

/-- An acknowledgement on air ends early: it is charged for its time (R448). -/
def State.cutAck (s : State) (tAir : Nat) : State :=
  match s.link.ackAir with
  | none => s
  | some x => (s.setLink { s.link with ackAir := none }).uncharge x.1 (x.2 - (tAir + 100))

/-- The buck stops under a transmission `tAir` microseconds on air (R89): of an attempt, of a test, whose end the spec gives
no reason code for, or of an acknowledgement. -/
def State.collapse (s : State) (tAir : Nat) : State :=
  match s.link.att with
  | some a =>
    if a.phase = .tx then (s.transmitted a (tAir + 100) false).failAttempt a.sent resEnergy
    else if a.phase = .tune then s.cutTune a (tAir + 100)
    else s.cutAck tAir
  | none => if s.testOnAir then s.endTestFree tAir else s.cutAck tAir

/-- Whether the PA is on. -/
def State.onAir (s : State) : Bool :=
  s.testOnAir || s.link.ackAir.isSome ||
    (match s.link.att with
      | some a => a.phase == .tx || a.phase == .tune
      | none => false)

/-- RES_COLLAPSE (R89): VRES fell below VSTOP `tAir` microseconds into a transmission. -/
def execResCollapse (tAir : Nat) (s : State) : Host.Outcome State Fault Refusal :=
  if s.onAir then .next (((s.raise R.PWR.RES_STATUS.COLLAPSE).log 0x0105 []).collapse tAir).syncLink else .next s

/-- Whether the receiver is on. -/
def State.radioReceives (s : State) : Bool := s.rd R.RADIO.STATUS.STATE == 2

/-- The operation in progress ends with the radio (R396, R400); a transmission is charged for its time on air. -/
def State.cutOperation (s : State) (onAir : Nat) : State :=
  let s0 := (if s.link.glean ≠ 0 || s.radioReceives then s.radioRest else s).setLink { s.link with glean := 0 }
  let s1 := (if s.radio.test ≠ 0 then s0.endTestFree onAir else s0).cutAck onAir
  match s1.link.att with
  | none => s1
  | some a =>
    match a.phase with
    | .tx => (s1.transmitted a (onAir + 100) false).failAttempt a.sent resRadio
    | .tune => s1.cutTune a (onAir + 100)
    | .tuneCal => s1.cutTune a 0
    | .cal => s1.failAttempt a resRadio
    | .ready => s1.setAttempt { a with phase := .admitted }
    | .ackWait => (s1.failAttempt a resRadio).radioRest
    | .window => (s1.failAttempt a resRadio).radioRest
    | .again => s1
    | .backoff => s1
    | .energy => s1
    | .admitted => s1
    | .tuneWait => s1
    | .tuneReady => s1

/-- Whether an operation of the radio is in progress. -/
def State.radioBusy (s : State) : Bool :=
  s.radio.test != 0 || s.link.glean == 2 || s.link.glean == 4 || s.link.ackAir.isSome || s.radioReceives ||
    (match s.link.att with
      | some a => a.phase == .tx || a.phase == .tune || a.phase == .ackWait || a.phase == .window
      | none => false)

/-- RF_HFXO_FAIL (R396, R397): HFXO stops while RF is On; it starts again at the next RF demand. -/
def execRfHfxoFail (onAir : Nat) (s : State) : Host.Outcome State Fault Refusal :=
  if s.power.rf.st == .on then
    let s1 := ((s.raise R.RADIO.EVENTS.HFXO_FAIL).log 0x0442 []).cutOperation onAir
    let s2 := s1.hfxoStops
    let s3 := s2.setLink { s2.link with ack := none }
    .next (s3.setDom .rf { s3.power.rf with st := .retained, entering := none, exiting := false }).syncLink
  else .next s

end Sys2Proof.Machine
end

