-- ==== Sys2Proof/Machine/Ports.lean ====
section
/-! DEFINITION. The wired ports (ch. 25): line timing, the UARTs, the service link with its claims, SPI, I2C, GPIO, and the
field I/O pins. -/

namespace Sys2Proof.Machine

open Sys2Proof

/-- The ports replaced. -/
def State.setPorts (s : State) (p : Ports) : State := { s with ports := p }

/-- Whether APP is On. -/
def State.appOn (s : State) : Bool := s.power.app.st == .on

/-! ### Line timing (R633) -/

/-- Whether an enabled port needs POSC. -/
def State.needsPosc (s : State) : Bool :=
  s.appOn && (s.flag (R.UART.CFG.EN 0) || s.flag (R.UART.CFG.EN 1) ||
    (s.flag R.SPI.CFG.EN && !s.flag R.SPI.CFG.ROLE) || s.flag R.I2C.CFG.EN)

/-- PORT_UNCAL of each enabled port: timing is uncalibrated. -/
def State.showUncal (s : State) : State :=
  let un := s.ports.posc && s.ports.ready && s.ports.scale == 0
  forEach 2 (fun u a => a.wrBool (R.UART.STATUS.PORT_UNCAL u) (un && a.flag (R.UART.CFG.EN u))) s

/-- A UART. -/
def State.uart (s : State) (u : Nat) : Uart := s.ports.uarts.getD u { rx := [], tx := [], shifter := none }

/-- A UART replaced, with its counts. -/
def State.setUart (s : State) (u : Nat) (x : Uart) : State :=
  let s1 := s.setPorts { s.ports with uarts := s.ports.uarts.set u x }
  ((s1.wr (R.UART.STATUS.RXCNT u) x.rx.length).wr (R.UART.STATUS.TXCNT u) x.tx.length).wrBool (R.UART.STATUS.TXIDLE u)
    (x.tx.isEmpty && x.shifter.isNone)

/-- An empty shifter takes the next byte once bits can be sent. -/
def State.loadShifter (s : State) (u : Nat) : State :=
  let x := s.uart u
  match x.shifter, x.tx with
  | none, b :: r =>
    if s.appOn && s.ports.ready && s.flag (R.UART.CFG.EN u) then s.setUart u { x with shifter := some b, tx := r } else s
  | none, [] => s
  | some _, _ => s

/-- POSC started or stopped as the ports need it; with LFXO absent at its start no calibration is made. -/
def State.followPosc (s : State) : State :=
  if !s.needsPosc then (s.setPorts { s.ports with posc := false, ready := false, scale := 0 }).showUncal
  else if s.ports.posc then ((s.loadShifter 0).loadShifter 1).showUncal
  else
    let cal := s.flag (R.BRIDGE.CLKSTAT.LFXO_RUN .app)
    let s1 := (s.setPorts { s.ports with posc := true, ready := !cal, scale := 0 }).showUncal
    (s1.loadShifter 0).loadShifter 1

/-- PORT_CALIBRATION (R633): POSC's cycles over four LFXO periods. -/
def execPortCalibration (count : Nat) (s : State) : Host.Outcome State Fault Refusal :=
  if s.ports.posc && !s.ports.ready then
    .next (((s.setPorts { s.ports with ready := true, scale := max 1 count }).showUncal.loadShifter 0).loadShifter 1)
  else .next s

/-! ### UARTs (R634 to R636) -/

/-- Whether a UART can send and sample bits. -/
def State.uartWorks (s : State) (u : Nat) : Bool :=
  decide (u < 2) && s.appOn && s.ports.ready && s.flag (R.UART.CFG.EN u)

/-- An error flag of a UART set; true where it went from 0 to 1. -/
def State.uartErr (s : State) (f : Fld) (b : Bool) : State × Bool := (if b then s.raise f else s, b && !s.flag f)

/-- UART_RX_BYTE (R634, R636): in FORM 2 nothing is received while the node transmits; UART0_RX sees mark while the
island holds its lead (R709). -/
def execUartRxByte (u byte : Nat) (fe pe : Bool) (s : State) : Host.Outcome State Fault Refusal :=
  let x := s.uart u
  if !s.uartWorks u || (u == 0 && s.leadHeld 3) || (u == 1 && s.rd R.UART1.SVC.FORM == 2 && x.shifter.isSome) then .next s
  else
    let full := decide (x.rx.length ≥ 16)
    let b := if s.flag (R.UART.CFG.DATA7 u) then byte % 128 else byte % 256
    let s1 := if full then s else s.setUart u { x with rx := x.rx ++ [b] }
    let e1 := s1.uartErr (R.UART.STATUS.OVR u) full
    let e2 := e1.1.uartErr (R.UART.STATUS.FE u) fe
    let e3 := e2.1.uartErr (R.UART.STATUS.PE u) pe
    .next (if e1.2 || e2.2 || e3.2 then e3.1.logMinute 0x0902 [] else e3.1)

/-- UART_TX_BYTE (R634). -/
def execUartTxByte (u : Nat) (s : State) : Host.Outcome State Fault Refusal :=
  let x := s.uart u
  if x.shifter.isSome && s.uartWorks u then .next ((s.setUart u { x with shifter := none }).loadShifter u) else .next s

/-- A write of DATA (Table WIO-4). -/
def State.uartPush (s : State) (u byte : Nat) : State :=
  let x := s.uart u
  if u ≥ 2 ∨ x.tx.length ≥ 16 then s else (s.setUart u { x with tx := x.tx ++ [byte % 256] }).loadShifter u

/-- A read of DATA: the oldest byte; an empty FIFO gives a free value. -/
def State.uartPop (s : State) (u : Nat) : State :=
  let x := s.uart u
  match x.rx with
  | b :: r => if u < 2 then (s.setUart u { x with rx := r }).done b else s
  | [] => s.fresh.2.done (s.fresh.1 % 256)

/-- UART_DATA_WRITE (R648). -/
def execUartDataWrite (u byte : Nat) (s : State) : Host.Outcome State Fault Refusal := .next (s.uartPush u byte)

/-- UART_DATA_READ (R648). -/
def execUartDataRead (u : Nat) (s : State) : Host.Outcome State Fault Refusal := .next (s.uartPop u)

/-! ### The service link (R637 to R639, R649) -/

/-- Whether the service link can claim: FORM 1 or 2. -/
def State.svcWorks (s : State) : Bool :=
  s.uartWorks 1 && (s.rd R.UART1.SVC.FORM == 1 || s.rd R.UART1.SVC.FORM == 2)

/-- The phase of a claim, with its round. -/
def State.setSvc (s : State) (p : SvcPhase) (k : Option Nat) : State := s.setPorts { s.ports with svc := p, round := k }

/-- The bytes of a claim. -/
def State.claimBytes (s : State) : List Nat := 0xC5 :: s.unitIdBytes

/-- A claim ended without a role. -/
def State.dropClaim (s : State) : State := (s.setSvc .idle none).clear R.UART1.SVC_CTL.CLAIM

/-- The claim resolved: the role taken (R637). -/
def State.takeRole (s : State) (role : Nat) : State :=
  let s1 := (s.wr R.UART1.SVC_STAT.ROLE role).wr R.UART1.SVC_STAT.ROUND (s.ports.round.getD 0)
  ((s1.raise R.UART1.SVC_STAT.ROLE_CHG).log 0x0901 [role]).dropClaim

/-- A write of SVC_CTL.CLAIM: ignored while a claim or a backoff runs (R649). -/
def State.svcClaim (s : State) : State :=
  if s.svcWorks && s.ports.svc == .idle then (s.setSvc .waiting none).raise R.UART1.SVC_CTL.CLAIM else s

/-- SVC_CLAIM (R637). -/
def execSvcClaim (s : State) : Host.Outcome State Fault Refusal := .next s.svcClaim

/-- A claim sent. -/
def State.sendClaim (s : State) : State :=
  let s1 := s.setSvc .claiming s.ports.round
  s1.setPorts { s1.ports with svcSent := s1.claimBytes }

/-- SVC_CLAIM_SEND (R637): the line has been idle for IDLE bit times. -/
def execSvcClaimSend (s : State) : Host.Outcome State Fault Refusal :=
  if s.svcWorks && s.ports.svc == .waiting then .next s.sendClaim else .next s

/-- SVC_CLAIM_RECEIVED (R637, R639, R649): a whole claim from the unit `id`, while this end sends none; its own claim, if
one waits, is abandoned. -/
def execSvcClaimReceived (id : Nat) (s : State) : Host.Outcome State Fault Refusal :=
  if s.svcWorks && s.ports.svc != .claiming && decide (id < 2 ^ 64) then
    .next ((s.setPorts { s.ports with svcSent := [0x3A] }).takeRole 0)
  else .next s

/-- SVC_CONFIRM_RECEIVED (R637). -/
def execSvcConfirmReceived (s : State) : Host.Outcome State Fault Refusal :=
  if s.svcWorks && s.ports.svc == .claiming then .next (s.takeRole 1) else .next s

/-- SVC_COLLISION (R638, R639): the next round's wait, or after round 15 the failure. -/
def execSvcCollision (s : State) : Host.Outcome State Fault Refusal :=
  if !(s.svcWorks && s.ports.svc == .claiming) then .next s
  else
    let s1 := (s.count R.UART1.SVC_STAT.COLL 1).log 0x0900 []
    match s.ports.round with
    | none => .next (s1.setSvc .backoff (some 0))
    | some k =>
      if k ≥ 15 then
        .next ((((s1.raise R.UART1.SVC_STAT.FAIL).clear R.UART1.SVC_STAT.ROLE).wr R.UART1.SVC_STAT.ROUND k).log 0x0903 []).dropClaim
      else .next (s1.setSvc .backoff (some (k + 1)))

/-- SVC_BACKOFF_END (R639): the wait of (1 + nibble k of the unit ID) × SLOT has ended with the line idle. -/
def execSvcBackoffEnd (s : State) : Host.Outcome State Fault Refusal :=
  if s.svcWorks && s.ports.svc == .backoff then .next s.sendClaim else .next s

/-- A commit of SVC.FORM or BAUD during a claim (R649). -/
def State.svcCommitted (s : State) : State :=
  if s.ports.svc = .idle then s else s.dropClaim.clear R.UART1.SVC_STAT.ROLE

/-! ### SPI (R641) -/

/-- The SPI FIFOs replaced, with their counts. -/
def State.setSpi (s : State) (rx tx : List Nat) : State :=
  let s1 := (s.setPorts { s.ports with spiRx := rx, spiTx := tx }).wr R.SPI.STATUS.RXCNT rx.length
  (s1.wr R.SPI.STATUS.TXCNT tx.length).wrBool R.SPI.STATUS.BUSY (s.flag R.SPI.CFG.EN && !s.flag R.SPI.CFG.ROLE && !tx.isEmpty)

/-- A write of SPI.DATA. -/
def State.spiPush (s : State) (byte : Nat) : State :=
  if s.ports.spiTx.length ≥ 8 then s else s.setSpi s.ports.spiRx (s.ports.spiTx ++ [byte % 256])

/-- A read of SPI.DATA. -/
def State.spiPop (s : State) : State :=
  match s.ports.spiRx with
  | b :: r => (s.setSpi r s.ports.spiTx).done b
  | [] => s.fresh.2.done (s.fresh.1 % 256)

/-- What SPI shifts in: mark where the island holds the lead of its input, SPI_MISO (GPIO7) of a controller and SPI_MOSI
(GPIO6) of a peripheral (R709). -/
def State.spiInput (s : State) (byte : Nat) : Nat :=
  if s.leadHeld (if s.flag R.SPI.CFG.ROLE then 6 else 7) then 0xFF else byte % 256

/-- SPI_FRAME (R641): the byte shifted in; the controller sends frames only while it has bytes, and a peripheral sees none
while the island holds the lead of SPI_SCK (GPIO5) or SPI_CS (GPIO8) (R709). -/
def execSpiFrame (byte : Nat) (s : State) : Host.Outcome State Fault Refusal :=
  let peripheral := s.flag R.SPI.CFG.ROLE
  if !s.appOn || !s.flag R.SPI.CFG.EN || (peripheral && (s.leadHeld 5 || s.leadHeld 8)) ||
      (!peripheral && (!s.ports.ready || s.ports.spiTx.isEmpty)) then .next s
  else
    let full := decide (s.ports.spiRx.length ≥ 8)
    let s1 := if full then s.raise R.SPI.STATUS.OVR else s
    let s2 := if s.ports.spiTx.isEmpty then s1.raise R.SPI.STATUS.UNDR else s1
    .next (s2.setSpi (if full then s.ports.spiRx else s.ports.spiRx ++ [s.spiInput byte]) s.ports.spiTx.tail)

/-! ### I2C (R642) -/

/-- A write of I2C.CMD: a transfer starts where none runs. -/
def State.i2cStart (s : State) (cmd : Nat) : State :=
  if !s.appOn || !s.flag R.I2C.CFG.EN || s.ports.i2c.isSome then s
  else
    let x : I2cXfer :=
      { addr := bitsOf cmd 0 7, read := bit cmd 7, len := max 1 (bitsOf cmd 8 8), stop := bit cmd 16 }
    (s.setPorts { s.ports with i2c := some x }).raise R.I2C.STATUS.BUSY

/-- I2C_TRANSFER (R642). -/
def execI2cTransfer (cmd : Nat) (s : State) : Host.Outcome State Fault Refusal := .next (s.i2cStart cmd)

/-- A write of I2C.DATA. -/
def State.i2cPush (s : State) (byte : Nat) : State :=
  if s.ports.i2cTx.length ≥ 4 then s else s.setPorts { s.ports with i2cTx := s.ports.i2cTx ++ [byte % 256] }

/-- A read of I2C.DATA. -/
def State.i2cPop (s : State) : State :=
  match s.ports.i2cRx with
  | b :: r => (s.setPorts { s.ports with i2cRx := r }).done b
  | [] => s.fresh.2.done (s.fresh.1 % 256)

/-- The transfer ends. -/
def State.i2cEnd (s : State) : State := (s.setPorts { s.ports with i2c := none }).clear R.I2C.STATUS.BUSY

/-- The end of a transfer at its lines: one whose SDA (GPIO10) or SCL (GPIO9) the island holds has no target that answers,
and SDA then reads as released (R709). -/
def State.i2cOutcome (s : State) (outcome : Nat) : Nat :=
  if s.leadHeld 10 || (s.leadHeld 9 && outcome != 2) then 1 else outcome

/-- I2C_TRANSFER_END (R642): 0 all bytes done, 1 not acknowledged, 2 arbitration lost; `data` are the bytes read that
still wait in the FIFO. -/
def execI2cTransferEnd (outcome : Nat) (data : List Nat) (s : State) : Host.Outcome State Fault Refusal :=
  match s.ports.i2c with
  | none => .next s
  | some x =>
    let s1 := s.i2cEnd
    let s2 :=
      if x.read then s1.setPorts { s1.ports with i2cRx := (s1.ports.i2cRx ++ data.map (fun b => b % 256)).take 4 }
      else s1.setPorts { s1.ports with i2cTx := s1.ports.i2cTx.drop x.len }
    if s.i2cOutcome outcome = 1 then .next (s2.raise R.I2C.STATUS.NACK)
    else if s.i2cOutcome outcome = 2 then .next ((s2.raise R.I2C.STATUS.ARB_LOST).log 0x0930 [])
    else .next (s2.raise R.I2C.STATUS.DONE)

/-- I2C_STUCK (R642): SCL is not seen low while the island holds its lead (R709). -/
def execI2cStuck (s : State) : Host.Outcome State Fault Refusal :=
  if s.ports.i2c.isSome && !s.leadHeld 9 then .next ((s.i2cEnd.raise R.I2C.STATUS.STUCK).log 0x0931 []) else .next s

/-! ### GPIO (R643) -/

/-- GPIO_CONTEND (R643): a push-pull output has differed from its driven value for 10 µs; never at a lead that the island
holds (R709). -/
def execGpioContend (pin : Nat) (s : State) : Host.Outcome State Fault Refusal :=
  if !s.appOn || decide (pin ≥ 12) || !s.rdBit R.GPIO.DIR.OUT pin || s.rdBit R.GPIO.OD.OD pin ||
      s.rdBit R.GPIO.CONTEND.CONTEND pin || s.leadHeld pin then .next s
  else .next ((s.wrBit R.GPIO.CONTEND.CONTEND pin true).log 0x0920 [])

/-! ### Field I/O (R644 to R647, R652) -/

/-- A pin. -/
def State.fioPin (s : State) (n : Nat) : FioPin :=
  s.ports.fio.getD n { last := none, run := 0, level := none, pulse := false, gap := false, therm := false }

/-- A pin replaced. -/
def State.setFio (s : State) (n : Nat) (p : FioPin) : State := s.setPorts { s.ports with fio := s.ports.fio.set n p }

/-- The mode of a pin. -/
def State.fioMode (s : State) (n : Nat) : Nat := s.rd (R.FIO.CFG.MODE n)

/-- Whether a pin's driver may be on. -/
def State.fioFree (s : State) (n : Nat) : Bool :=
  s.appOn && !s.rdBit R.FIO.STATUS.LATCHED n && !(s.fioPin n).therm

/-- Whether a pin is driven low. -/
def State.fioDriven (s : State) (n : Nat) : Bool :=
  s.fioFree n && ((s.fioMode n == 2 && s.rdBit R.FIO.OUT.OUT n) || (s.fioMode n == 3 && (s.fioPin n).pulse))

/-- The next pulse of a pin begins where one is pending and may (R647). -/
def State.tryPulse (s : State) (n : Nat) : State :=
  let p := s.fioPin n
  if s.fioMode n = 3 ∧ s.fioFree n = true ∧ p.pulse = false ∧ p.gap = false ∧ s.rd (R.FIO.PEND.PEND n) ≠ 0 then
    s.setFio n { p with pulse := true }
  else s

/-- A short latched (Table WIO-3); the pulse it cut stays pending. -/
def State.fioShort (s : State) (n : Nat) : State :=
  let s1 := ((s.setFio n { s.fioPin n with pulse := false }).wrBit R.FIO.STATUS.LATCHED n true).count (R.FIO.SHORTS.SHORTS n) 1
  if s.rdBit R.FIO.STATUS.SHORT n then s1 else (s1.wrBit R.FIO.STATUS.SHORT n true).log 0x0910 []

/-- FIO_READBACK (R645). -/
def execFioReadback (pin : Nat) (level : Bool) (s : State) : Host.Outcome State Fault Refusal :=
  if pin ≥ 4 ∨ s.fioMode pin < 2 then .next s
  else
    let s1 := s.wrBit R.FIO.STATUS.LEVEL pin level
    if s.fioDriven pin then .next (if level then s1.fioShort pin else s1)
    else if !level && s.fioFree pin && !s.rdBit R.FIO.STATUS.WIRED pin then
      .next ((s1.wrBit R.FIO.STATUS.WIRED pin true).log 0x0911 [])
    else .next s1

/-- FIO_RETRY (R645, R652): the driver is on for one readback; postponed during a thermal shutdown. -/
def execFioRetry (pin : Nat) (level : Bool) (s : State) : Host.Outcome State Fault Refusal :=
  if pin ≥ 4 ∨ s.rdBit R.FIO.STATUS.LATCHED pin = false ∨ (s.fioPin pin).therm = true then .next s
  else
    let s1 := s.wrBit R.FIO.STATUS.LEVEL pin level
    .next (if level then s1.fioShort pin else (s1.wrBit R.FIO.STATUS.LATCHED pin false).tryPulse pin)

/-- FIO_THERMAL (R645, R652). -/
def execFioThermal (pin : Nat) (s : State) : Host.Outcome State Fault Refusal :=
  if pin ≥ 4 then .next s
  else .next (((s.setFio pin { s.fioPin pin with therm := true, pulse := false }).wrBit R.FIO.STATUS.THERM pin true).log 0x0912 [])

/-- FIO_THERMAL_END (R645): the mode resumes. -/
def execFioThermalEnd (pin : Nat) (s : State) : Host.Outcome State Fault Refusal :=
  if pin ≥ 4 then .next s else .next ((s.setFio pin { s.fioPin pin with therm := false }).tryPulse pin)

/-- CNTn has become equal to THRn (R646). -/
def State.fioHit (s : State) (n : Nat) : State :=
  if s.rd (R.FIO.CNT.CNT n) = s.rd (R.FIO.THR.THR n) then (s.wrBit R.FIO.STATUS.HIT n true).wake .app 6 else s

/-- One debounced falling edge counted (R646). -/
def State.fioCount (s : State) (n : Nat) : State :=
  let c := s.rd (R.FIO.CNT.CNT n)
  let s1 := s.wr (R.FIO.CNT.CNT n) (c + 1)
  let s2 := if c = 0xFFFFFFFF then (s1.wrBit R.FIO.STATUS.WRAP n true).log 0x0913 [] else s1
  s2.fioHit n

/-- FIO_SAMPLE (R646): AON samples a pulse input. -/
def execFioSample (pin : Nat) (level : Bool) (s : State) : Host.Outcome State Fault Refusal :=
  if pin ≥ 4 ∨ s.fioMode pin ≠ 1 ∨ s.power.ship = true then .next s
  else
    let p := s.fioPin pin
    let run := if p.last = some level then min 15 (p.run + 1) else 1
    let settled := decide (run ≥ max 1 (s.rd (R.FIO.CFG.DEB pin)))
    let s1 := s.setFio pin { p with last := some level, run := run, level := if settled then some level else p.level }
    let s2 := if settled then s1.wrBit R.FIO.STATUS.LEVEL pin level else s1
    .next (if settled && !level && p.level == some true then s2.fioCount pin else s2)

/-- A write of N to ADDn (R647). -/
def State.fioAdd (s : State) (pin n : Nat) : State :=
  if pin ≥ 4 ∨ s.fioMode pin ≠ 3 then s else (s.count (R.FIO.PEND.PEND pin) (n % 0x10000)).tryPulse pin

/-- FIO_ADD (R647). -/
def execFioAdd (pin n : Nat) (s : State) : Host.Outcome State Fault Refusal := .next (s.fioAdd pin n)

/-- FIO_PULSE_END (R647): WIDTH has passed. -/
def execFioPulseEnd (pin : Nat) (s : State) : Host.Outcome State Fault Refusal :=
  let p := s.fioPin pin
  if pin < 4 ∧ p.pulse = true then
    .next ((s.setFio pin { p with pulse := false, gap := true }).wr (R.FIO.PEND.PEND pin) (s.rd (R.FIO.PEND.PEND pin) - 1))
  else .next s

/-- FIO_GAP_END (R647): GAP has passed. -/
def execFioGapEnd (pin : Nat) (s : State) : Host.Outcome State Fault Refusal :=
  let p := s.fioPin pin
  if pin < 4 ∧ p.gap = true then .next ((s.setFio pin { p with gap := false }).tryPulse pin) else .next s

/-- A mode committed again (R645): LATCHED clears. -/
def State.fioCommitted (s : State) (n : Nat) : State :=
  let p := s.fioPin n
  ((s.wrBit R.FIO.STATUS.LATCHED n false).setFio n
    (if s.fioMode n = 3 then p else { p with pulse := false, gap := false })).tryPulse n

/-- What APP's return to On starts: line timing and pending pulses (R633, R644). -/
def State.portsResume (s : State) : State := forEach 4 (fun n a => a.tryPulse n) s.followPosc

/-- The ports after an APP-scope reset (R650): transfers ended, FIFOs empty, drivers released; the AON registers stay. -/
def State.resetPorts (s : State) : State :=
  let s1 := s.resetRange 0x4000C000 0x40010000
  let s2 := (((s1.resetRange 0x40010000 0x40010018).resetRange 0x40010040 0x40011000).resetRange 0x40011000 0x40011014)
  let old := s2.ports
  s2.setPorts { State.reset.ports with fio := old.fio.map (fun p => { p with pulse := false, gap := false }) }

end Sys2Proof.Machine
end

