-- ==== Sys2Proof/Machine/Receive.lean ====
section
/-! DEFINITION. Reception (ch. 16 to 19): the receive stages, the acknowledgement, gleaning windows and rescue listens,
beacons, the daily alarm frame, the minute tick of the duty window, and what the ladder sheds. -/

namespace Sys2Proof.Machine

open Sys2Proof

/-! ### What the receiver listens to -/

/-- Whether a window, a rescue listen or continuous reception has the receiver on (R445, R446, R489). -/
def State.gleaning (s : State) : Bool :=
  s.rfReady && decide (s.level ≤ 3) && s.radio.test == 0 &&
    (s.link.glean == 2 || s.link.glean == 4 || (s.contListens && s.flag R.RADIO.STATUS.CAL_VALID)) &&
    (match s.link.att with
      | some a => a.phase.early
      | none => true)

/-- Whether the Stook configuration is listened to; a rescue listen always is. -/
def State.hearsStook (s : State) : Bool := s.gleaning && (s.link.glean == 4 || !s.wmbListens)

/-- Whether telegrams of a mode are listened to outside a response window (R472). -/
def State.hearsMode (s : State) (mode : Nat) : Bool :=
  s.gleaning && s.link.glean != 4 && s.wmbListens && mode == s.rxMode

/-- A frame dropped at stage 1 or 4. -/
def State.rxDrop (s : State) : State := s.count R.LINK.COUNT2.RX_DROP 1

/-- The RSSI code the receiver reports: inputs above −20 dBm read code 40 (R392). -/
def rssiCode (r : Nat) : Nat := max 40 (r % 256)

/-! ### The Stook receive stages (Table LINK-4) -/

/-- Whether the originator and frame counter of a frame are in the duplicate cache and not too old (R442). -/
def State.isDuplicate (s : State) (b : List Nat) : Bool :=
  s.link.dups.any (fun e => e.1 == hOrig b && e.2.1 == hFc b && decide (s.utime ≤ e.2.2 + max 1 (s.rd R.LINK.DUP.TTL)))

/-- A delivered frame entered in the cache of 32. -/
def State.noteDelivered (s : State) (b : List Nat) : State :=
  s.setLink { s.link with dups := newest 32 (s.link.dups ++ [(hOrig b, hFc b, s.utime)]) }

/-- Whether a BUSY notice. -/
def isBusyNotice (b : List Nat) : Bool := b.getD 0 0 == 0xBD && b.length == 28

/-- Whether a frame asks this node alone for an acknowledgement, and it may answer (stage 7). -/
def State.owesAck (s : State) (b : List Nat) : Bool :=
  (hAck b || isBusyNotice b) && hDst b == s.addr && s.flag R.LINK.ACKCFG.EN

/-- The acknowledgement owed for a frame, due 1,000 µs after it (R444). -/
def State.oweAck (s : State) (b : List Nat) (dup : Bool) : State :=
  if s.owesAck b then s.setLink { s.link with ack := some { fcs := fcsOf b, dup := dup, freq := s.ownCarrier } } else s

/-- Stage 8 for the receive ring. -/
def State.toRing (s : State) (b : List Nat) (rssi extra : Nat) : State := s.rxPush (s.rxRecord b rssi extra)

/-- Whether a delivered sheaf goes to UPDATE and not to the ring (R659). -/
def State.toUpdate (s : State) (b : List Nat) : Bool := hClass b == 5 && s.flag R.UPDATE.CTRL.RX_EN

/-- Whether work of UPDATE erases a staging bank. -/
def UpdWork.erases : UpdWork → Bool
  | .erase _ _ => true
  | .confirm _ => false
  | .decrypt _ => false
  | .rebuild => false

/-- Stages 6 to 8: room for the ring or in UPDATE's buffer, the acknowledgement, and delivery. -/
def State.deliver (s : State) (b : List Nat) (rssi : Nat) (ring0 dict mesh fwd : Bool) : State :=
  let upd := ring0 && s.toUpdate b
  let full := s.update.sheaf.isSome || s.update.due.any (fun w => w.erases)
  let ring := ring0 && !upd
  if upd && full then s.count R.LINK.RX_STAT.REFUSED 1
  else if ring && !s.rxFits b then
    ((s.count R.LINK.RX_STAT.REFUSED 1).linkIrq R.LINK.IRQ.RX_OVF).log 0x0404 []
  else
    let s1 := (s.oweAck b false).count R.LINK.COUNT1.RX_OK 1
    let s2 := if isBusyNotice b then s1 else s1.noteDelivered b
    let s2' : State := if upd then { s2 with update := { s2.update with sheaf := some (stookData b) } } else s2
    let s3 := if ring then s2'.toRing b rssi (1 + 4 * b2n (s.owesAck b)) else s2'
    let s4 := if dict then s3.deliverRequest b else s3
    let s5 :=
      if mesh then
        s4.setLink { s4.link with beacons := s4.link.beacons ++ [{ bytes := b, rssi := rssi, time := s.rtcTicks }] }
      else s4
    if fwd then s5.enterForward (forwardFrame b) else s5

/-- Stages 3 to 8 for a frame whose FCS matches. -/
def State.stookStages (s : State) (b : List Nat) (rssi : Nat) : State :=
  if !s.flag R.LINK.CTRL.EN || !s.flag R.LINK.CTRL.STOOK_RX then s
  else
    match s.judge b with
    | .drop => s
    | .loop => (s.count R.LINK.MESH_COUNT.LOOP 1).log 0x0503 []
    | .take ring dict mesh fwd =>
      let s1 := s.wr R.RADIO.RSSI.LAST rssi
      if (fwd && decide (s.level ≥ 1)) || (hClass b == 5 && decide (s.level ≥ 2)) then s1.rxDrop
      else if !isBusyNotice b && s1.isDuplicate b then (s1.count R.LINK.COUNT2.RX_DUP 1).oweAck b true
      else s1.deliver b rssi ring dict mesh fwd

/-- A frame of `n` bytes written into the RX FIFO as it arrives, whatever becomes of it (R440): its record counts in the
highest fill. -/
def State.frameArrives (s : State) (n : Nat) : State :=
  s.raisePeak R.LINK.RX_STAT.PEAK (min 2048 (s.rxBytes + 12 + 4 * ((n + 3) / 4)))

/-- A Stook frame received in a window (R440); `bytes` is its PSDU with FCS. -/
def State.receiveStook (s : State) (rssi : Nat) (bytes : List Nat) : State :=
  let b := bytes.take (bytes.length - 4)
  if bytes.length < 5 ∨ bytes.length > 510 then s.rxDrop
  else if bytes.drop (bytes.length - 4) ≠ leBytes 4 (fcsOf b) then (s.frameArrives b.length).count R.LINK.COUNT1.RX_FCS 1
  else (s.frameArrives b.length).stookStages b rssi

/-- Whether a frame is the acknowledgement of an attempt: type, FCS and MATCH (R436, R443). -/
def acksAttempt (a : Attempt) (bytes : List Nat) : Bool :=
  let b := bytes.take 4
  bytes.length == 8 && b.getD 0 0 == 0xAC && bytes.drop 4 == leBytes 4 (fcsOf b) &&
    le16 b 2 == fcsOf a.frame.bytes % 65536

/-! ### Telegrams (R471 to R474) -/

/-- Whether a telegram's address is the own one. -/
def State.wmbMine (s : State) (t : List Nat) : Bool := (t.drop 2).take 8 == s.wmbOwn

/-- A received telegram through its stages, inside a response window or not. -/
def State.receiveWmb (s0 : State) (mode fmt rssi : Nat) (inside : Bool) (bytes : List Nat) : State :=
  let l := bytes.getD 0 0
  let s := s0.frameArrives (l + 1)
  if l < 9 then s0.rxDrop
  else
    match wmbStrip (wmbBlocks fmt (wmbData fmt l)) bytes with
    | none => s.count R.LINK.COUNT1.RX_FCS 1
    | some t =>
      if !s.flag R.LINK.CTRL.EN || !s.flag R.LINK.CTRL.WMBUS_RX ||
          ((inside || s.flag R.LINK.WMB_CFG.FILTER) && !s.wmbMine t) then s
      else
        let s1 := s.wr R.RADIO.RSSI.LAST rssi
        if s1.rxFits t then (s1.count R.LINK.COUNT1.RX_OK 1).toRing t rssi (2 + 8 * fmt + 32 * mode)
        else ((s1.count R.LINK.RX_STAT.REFUSED 1).linkIrq R.LINK.IRQ.RX_OVF).log 0x0404 []

/-- A frame outside any attempt's wait, where the receiver listens to its kind. -/
def State.receiveOpen (s : State) (wmb r : Nat) (b : List Nat) : State :=
  if wmb = 0 ∧ s.hearsStook = true then (s.wr R.RADIO.RSSI.NOW r).receiveStook r b
  else if wmb ≠ 0 ∧ s.hearsMode (wmb % 16) = true then
    (s.wr R.RADIO.RSSI.NOW r).receiveWmb (wmb % 16) (wmb / 16) r false b
  else s

/-- The frame that an attempt's acknowledgement wait or response window ends with, or another. -/
def State.receiveWaiting (s : State) (a : Attempt) (wmb r : Nat) (b : List Nat) : State :=
  if a.phase = .ackWait ∧ a.frame.wmbus = false ∧ wmb = 0 then
    if acksAttempt a b then ((s.wr R.RADIO.RSSI.LAST r).endAttempt a resAcked).receiverEnds else s.rxDrop
  else if a.phase = .window ∧ wmb ≠ 0 then
    if wmb % 16 = subMode a.frame.wmb then
      ((s.receiveWmb (wmb % 16) (wmb / 16) r true b).endAttempt a resSent).receiverEnds
    else s
  else s.receiveOpen wmb r b

/-- FRAME_RECEIVED (R436, R440, R471): `wmb` is 0 for a Stook frame, else the mode plus 16 times the format of a telegram;
`bytes` the PSDU with FCS or the telegram with its CRCs.  A frame for which no receiver is on is not received. -/
def execFrameReceived (wmb rssi : Nat) (bytes : List Nat) (s : State) : Host.Outcome State Fault Refusal :=
  let s1 := s.setLink { s.link with ackAir := none }
  let b := bytes.map (fun x => x % 256)
  .next (match s.link.att with
    | some a => s1.receiveWaiting a wmb (rssiCode rssi) b
    | none => s1.receiveOpen wmb (rssiCode rssi) b).syncLink

/-! ### The acknowledgement (R443, R444) -/

/-- The air time of an acknowledgement: 20 bytes at the frame's rate. -/
def State.ackUs (s : State) : Nat := airUs (160 * 1000000) s.rate

/-- Whether an acknowledgement passes the duty check with the full limit (R451). -/
def State.ackDuty (s : State) (freq : Nat) : Bool :=
  match subBand freq with
  | none => true
  | some n => decide (s.usedUs n + s.ackUs + 100 ≤ s.limitUs n)

/-- An acknowledgement that is not sent: where its record still waits, its mark goes too (Table LINK-5). -/
def State.skipAck (s : State) : State :=
  let fix := fun (r : List Nat) =>
    match r with
    | w :: t => (if bit w 20 then w - 2 ^ 20 else w) :: t
    | [] => []
  let n := s.link.rx.length
  let rx := s.link.rx.take (n - 1) ++ (s.link.rx.drop (n - 1)).map fix
  (((s.setLink { s.link with rx := rx }).count R.LINK.COUNT3.ACK_SKIP 1).linkIrq R.LINK.IRQ.ACK_SKIP).log 0x0403 []

/-- Whether an acknowledgement may go: RF is ready, and from L4 on only the alarm frame is sent (Table LINK-7). -/
def State.mayAck (s : State) : Bool := s.rfReady && decide (s.level ≤ 3)

/-- Whether the receiver listens once a transmission outside an attempt is over. -/
def State.listensAfter (s : State) : Bool := s.listensOn || s.link.glean == 2 || s.link.glean == 4

/-- An acknowledgement on air: its charge, its codes and pins, and its return loss. -/
def State.sendAck (s : State) (k : AckOwed) (sel ext : Bool) (own : Option Int) (dbm : Int) (rl : Nat) : State :=
  let us := s.ackUs + 100
  let b := (bandOf k.freq).getD 0
  let s1 := ((s.charge k.freq us).count R.LINK.COUNT3.ACKS_SENT 1).setLink { (s.charge k.freq us).link with ackAir := some (k.freq, us) }
  let s2 := (((s1.wr R.RADIO.STATUS.BAND b).applyCodes b).showCaps (s.caps sel own)).radioBursts ext s.listensAfter s.ackUs
  if s2.measures ext dbm then s2.measureLoss b rl else s2

/-- ACK_SEND (R444): the acknowledgement is checked for duty and energy and sent; `rl` is its return loss. -/
def execAckSend (vres vbat rl : Nat) (s : State) : Host.Outcome State Fault Refusal :=
  match s.link.ack with
  | none => .next s
  | some k =>
    let s0 := ((s.setLink { s.link with ack := none }).useVoted 4).latchOp.measureReservoir vres vbat
    let sel := s.flag R.LINK.ACKCFG.EXT
    let ext := s.usesExt sel
    let own : Option Int := some (s.srd R.LINK.ACKCFG.DBM)
    let dbm := s.txPower ext (if ext then none else own)
    if s.mayAck && s0.ackDuty k.freq && s0.admission (s.pRes ext dbm) (160 * 1000000) s.rate vres vbat == .admitted then
      .next (s0.sendAck k sel ext own dbm rl).syncLink
    else .next s0.skipAck.syncLink

/-! ### Gleaning and rescue listens (R445, R446, R489) -/

/-- The carrier a window listens on. -/
def State.gleanFreq (s : State) (rescue : Bool) : Nat :=
  if s.wmbListens && !rescue then s.wmbCarrier s.rxMode false (s.rd R.RADIO.CHAN.CHAN) else s.ownCarrier

/-- The receiver opens: `k` is 1 for a window and 3 for a rescue listen; it waits for RF_READY (R394), and calibrates first
where R398 requires it. -/
def State.openReceiver (s : State) (k : Nat) (temp : Int) : State :=
  let freq := s.gleanFreq (k == 3)
  let outside := if s.wmbListens && k != 3 then wmbOutside s.rxMode freq else (bandOf freq).isNone
  if outside then s.refuseRange freq
  else
    let s1 := (s.opStart freq temp).applyCodes ((bandOf freq).getD 0)
    if !s.rfReady then s1.setLink { s1.link with glean := k }
    else if s1.needsCal freq then (s1.setLink { s1.link with glean := k }).startCal freq .glean
    else (s1.setLink { s1.link with glean := k + 1 }).radioListens

/-- Whether the receiver may open now: no attempt, reception or test in progress. -/
def State.receiverFree (s : State) : Bool :=
  s.link.att.isNone && s.link.ack.isNone && s.radio.test == 0 && !s.power.frozen && !s.power.ship

/-- GLEAN_WINDOW (R445, R472): skipped while an attempt, a reception or a test is in progress, and at L4. -/
def execGleanWindow (temp : Int) (s : State) : Host.Outcome State Fault Refusal :=
  if s.gleanArmed && decide (s.level ≤ 3) && s.receiverFree && s.link.glean == 0 then
    .next (s.openReceiver 1 temp).syncLink
  else .next s

/-- Continuous reception opens the receiver wherever RF is On and nothing else uses the radio (R446); the die temperature
at this start, which no command carries, is free. -/
def State.contOpens (s : State) : State :=
  if s.listensOn && s.receiverFree && s.link.glean == 0 && s.radio.calFor == none && !s.radioReceives then
    let x := s.fresh
    x.2.openReceiver 1 (sInt 8 (x.1 % 256))
  else s

/-- RF is ready: an attempt that was admitted before goes on, and the receiver that waits, or that continuous reception
keeps on (R394, R446). -/
def State.radioReady (s : State) : State :=
  let s1 := s.admittedGoes
  let k := s1.link.glean
  if (k = 1 ∨ k = 3) ∧ s1.radio.calFor = none then s1.startCal (s1.gleanFreq (k == 3)) .glean else s1.contOpens

/-- RF_SYNTH_UNLOCK (R400, R423): loss of lock during an operation. -/
def execRfSynthUnlock (onAir : Nat) (s : State) : Host.Outcome State Fault Refusal :=
  if s.radioBusy && s.power.rf.st == .on then .next (s.lockLost.cutOperation onAir).contOpens.syncLink else .next s

/-- The receiver closes, or goes on for continuous reception; an attempt that has the radio keeps it. -/
def State.closeReceiver (s : State) : State :=
  let s1 := s.setRadio { s.radio with calFor := if s.radio.calFor = some .glean then none else s.radio.calFor }
  let s2 := s1.setLink { s1.link with glean := 0 }
  (if s2.link.att.all (fun a => a.phase.early) then s2.receiverEnds else s2).syncLink

/-- GLEAN_WINDOW_CLOSE (R445); with CONT the receiver stays on (R446). -/
def execGleanWindowClose (s : State) : Host.Outcome State Fault Refusal :=
  if (s.link.glean = 1 ∨ s.link.glean = 2) ∧ s.contListens = false then .next s.closeReceiver else .next s

/-- RESCUE_LISTEN (R489): not at L3 or deeper. -/
def execRescueListen (temp : Int) (s : State) : Host.Outcome State Fault Refusal :=
  if s.flag R.LINK.MESH_STATE.NO_PARENT && s.inStead && !s.isCollector && decide (s.level ≤ 2) && s.receiverFree &&
      s.flag R.LINK.CTRL.EN && decide (s.link.glean < 3) then .next (s.openReceiver 3 temp).syncLink
  else .next s

/-- RESCUE_LISTEN_END (R489). -/
def execRescueListenEnd (s : State) : Host.Outcome State Fault Refusal :=
  if s.link.glean ≥ 3 then .next s.closeReceiver else .next s

/-- A commit of the gleaning configuration (R446): CONT takes and releases RF; a window without EN closes. -/
def State.gleanCommitted (s : State) : State :=
  if (s.link.glean = 1 ∨ s.link.glean = 2) ∧ s.gleanArmed = false then s.closeReceiver else s.contOpens.syncLink

/-! ### Beacons (R487, R488, R509) -/

/-- An own beacon that is still to be sent when the next is due is dropped and not counted (R509): it waits in the queue,
or in an attempt that is not on its way to the air yet. -/
def State.dropBeacon (s : State) : State :=
  let s1 := s.setLink { s.link with fwd := s.link.fwd.filter (fun f => !s.isBeacon f) }
  match s1.link.att with
  | some a => if s1.isBeacon a.frame && a.phase.early then s1.dropAttempt else s1
  | none => s1

/-- BEACON_SEND (R487, R509, R605): at the head of the forward queue, which holds at most one own beacon. -/
def execBeaconSend (s : State) : Host.Outcome State Fault Refusal :=
  if s.relaying && s.inStead && !s.fcExhausted 2 then .next (s.dropBeacon.enterForward beaconFrame).syncLink else .next s

/-- A frame that waits for a window of a parent no longer in the table moves to the next parent's window (R506); `old` is
the table before. -/
def State.retarget (s : State) (old : List Parent) : State :=
  match s.link.att with
  | none => s
  | some a =>
    let gone := old.any (fun p => p.addr == a.dst && p.intEff != 0) && !(s.link.parents.any (fun p => p.addr == a.dst))
    match s.parents[(a.frame.attempts - 1) % max 1 s.parents.length]? with
    | some p =>
      if a.phase = .backoff ∧ s.goesUp a.frame ∧ gone = true then
        s.setAttempt { a with dst := p.addr, frame := { a.frame with bytes := setHop a.frame.bytes (hHops a.frame.bytes) s.addr p.addr s.ring true } }
      else s
    | none => s

/-- PARENT_AGE (R488): entry `n` has been without a beacon for one more BEACON_INT; at L4 and deeper the table is frozen
(R504). -/
def execParentAge (n : Nat) (s : State) : Host.Outcome State Fault Refusal :=
  match s.link.parents[n]? with
  | none => .next s
  | some p =>
    if s.level ≥ 4 then .next s
    else if p.age + 1 ≥ s.parentTtl then .next ((s.dropParent n).retarget s.link.parents).syncLink
    else .next (s.setLink { s.link with parents := s.link.parents.set n { p with age := p.age + 1 } }).updateMesh

/-- BEACON_PROCESS (R488, R497, R500): the first waiting beacon is checked and used; from L4 on all is frozen (R504). A
usable beacon ends a rescue listen. -/
def execBeaconProcess (s : State) : Host.Outcome State Fault Refusal :=
  match s.link.beacons with
  | [] => .next s
  | b :: r =>
    let s1 := s.setLink { s.link with beacons := r }
    if s.level ≥ 4 then .next s1
    else if hKeys b.bytes ≠ 2 ∨ s.micPasses b.bytes = false then
      .next ((s1.raise R.LINK.MESH_EVT.AUTH_FAIL).log 0x0504 [])
    else if (stookData b.bytes).length ≠ 34 then .next s1
    else
      let s2 := (s1.useBeacon b).retarget s.link.parents
      .next (if s2.link.glean ≥ 3 ∧ b.rssi ≤ s.rd R.LINK.MESH_BCN.PARENT_RSSI then s2.closeReceiver else s2.syncLink)

/-! ### The daily alarm frame (R453, R606) -/

/-- Whether an alarm frame is due: at L4 to L6, or while slot 2 is exhausted and slot 5 is not. -/
def State.alarmDue (s : State) : Bool :=
  !s.flag R.LINK.STATUS.ALARM_DAY && s.link.alarm.isNone && !(s.link.playing.any (fun f => f.src == .alarm)) &&
    decide (s.level < 7) && (decide (s.level ≥ 4) || (s.fcExhausted 2 && !s.fcExhausted 5))

/-- ALARM_FRAME (R453): a node outside a stead has no address to send it from (R482). -/
def execAlarmFrame (s : State) : Host.Outcome State Fault Refusal :=
  if !s.alarmDue then .next s
  else if s.inStead then
    let n := s.arrive alarmFrame
    .next (n.2.putFrame n.1).syncLink
  else .next (s.reportEnd alarmFrame resBadForm).syncLink

/-! ### The minute tick (R449, R451, R523) -/

/-- The oldest bucket of every sub-band dropped, and an empty one opened. -/
def State.turnBuckets (s : State) : State :=
  s.setLink { s.link with duty := s.link.duty.map (fun b => b.drop 1 ++ [0]) }

/-- The ticks until the first waiting frame fits. -/
def State.headWait (s : State) : Option Nat :=
  match s.txOrder.find? (fun f => f.wait.isSome && f.wait != some 0) with
  | none => none
  | some f =>
    match subBand (s.frameFreq f) with
    | none => none
    | some n => s.ticksToFit n (s.frameCharge f) 60

/-- One waiting frame checked again (R451, R457). -/
def State.recheck (s : State) (f : TxFrame) : State :=
  match f.wait, subBand (s.frameFreq f) with
  | none, _ => s
  | some 0, _ => s
  | some (m + 1), some n =>
    let c := s.frameCharge f
    if s.dutyFits n c then (s.takeFrame f).putFrame { f with wait := some 0 }
    else if c + s.reserveUs n > s.limitUs n then (s.log 0x0402 []).endWaiting f resDuty
    else if m = 0 then s.endWaiting f resDuty
    else (s.takeFrame f).putFrame { f with wait := some m }
  | some (_ + 1), none => (s.takeFrame f).putFrame { f with wait := some 0 }

/-- DUTY_MINUTE_TICK; under a reset the duty window stands (R134). -/
def execDutyMinuteTick (s : State) : Host.Outcome State Fault Refusal :=
  if !s.awake then .next s
  else
    let s1 := (s.turnBuckets.flushMinute).useVoted 4
    let s2 := s1.txOrder.foldl State.recheck s1
    let s3 := match s2.headWait with
      | some m => s2.predictWait m
      | none => s2
    .next s3.syncLink

/-! ### The ladder (R452, R504, R527) -/

/-- The forward queue discarded at L1, each frame counted; a frame not yet admitted goes with it (R88, R452). -/
def State.dropForward (s : State) : State :=
  let waiting := fun (a : Attempt) =>
    a.frame.src == .fwd && a.phase.early
  let inAtt := (s.link.att.filter waiting).isSome
  let inYield := (s.link.yielded.filter waiting).isSome
  let n := s.link.fwd.length + b2n inAtt + b2n inYield
  let l := { s.link with fwd := [], yielded := if inYield then none else s.link.yielded }
  let s1 := s.setLink l
  (if inAtt then s1.dropAttempt else s1).count R.LINK.FWD_STAT.DROPPED n

/-- Every waiting slot frame ended with SHED. -/
def State.shedQueues (s : State) : State :=
  (s.link.lane ++ s.link.txq).foldl (fun a f => a.endWaiting f resShed) s

/-- A frame whose attempt is not admitted, or at L7 any attempt, ended with SHED; the alarm frame goes on until L7. -/
def State.shedAttempt (s : State) (onAir : Nat) : State :=
  match s.link.att with
  | none => s
  | some a =>
    if s.level = 7 then
      let s1 :=
        if a.phase = .tx then s.transmitted a (onAir + 100) false
        else if a.phase = .tune then s.charge a.freq (onAir + 100)
        else s
      let s2 := s1.setRadio { s1.radio with calFor := none }
      (s2.endAttempt a resShed).radioRest
    else if a.frame.src ≠ .alarm ∧ a.phase.early = true then
      s.endAttempt a resShed
    else s

/-- What the present level takes from the link engine (Table LINK-7, R418, R446, R504, R527). -/
def State.linkLadder (s : State) (onAir : Nat) : State :=
  let s1 := (s.wrBool R.LINK.STATUS.FWD_OFF (decide (s.level ≥ 1))).updateMesh
  let s2 := if s1.level ≥ 1 then s1.dropForward else s1
  let s3 := if s2.radio.test ≠ 0 ∧ (s2.level ≥ 4 ∨ (s2.level = 3 ∧ s2.radio.testExt)) then s2.endTest 3 onAir else s2
  let s4 := if s3.level ≥ 4 then ((s3.shedAttempt onAir).shedAttempt onAir).shedQueues else s3
  let s5 := if s4.level ≥ 4 ∧ s4.link.glean ≠ 0 then s4.closeReceiver else s4
  let s6 := if s5.level ≥ 5 then (s5.setLink { s5.link with busy := none } : State) else s5
  let s7 : State := if s6.level ≥ 5 then { s6 with requests := [] } else s6
  let s8 := if s7.level = 7 then (s7.cutAck onAir).setLink { (s7.cutAck onAir).link with alarm := none, ack := none } else s7
  s8.syncLink

end Sys2Proof.Machine
end

