-- ==== Sys2Proof/Machine/Update.lean ====
section
/-! DEFINITION. Over-the-air update (ch. 26): keys, container headers, reception into staging, the apply, activation. -/

namespace Sys2Proof.Machine

open Sys2Proof

/-! ### Keys (R655, R656) -/

/-- Whether key slot 1 serves UPDATE. -/
def State.updKeyOk (s : State) : Bool := s.keyHas 1 attrMac && s.keyHas 1 attrPrf

/-- K_UENC of a container. -/
def State.kUenc (s : State) (cid : Nat) : List Nat := derive128 (s.keyBytes 1) [0x55, 0x45, 0x4E, 0x43] (leBytes 4 cid)

/-- K_UMAC of a container. -/
def State.kUmac (s : State) (cid : Nat) : List Nat := derive128 (s.keyBytes 1) [0x55, 0x4D, 0x41, 0x43] (leBytes 4 cid)

/-- K_IMG. -/
def State.kImg (s : State) : List Nat :=
  derive128 (s.keyBytes 1) [0x55, 0x49, 0x4D, 0x47] (leBytes 2 (typeId s.variant))

/-- `n` keystream blocks of a container from block `c` on (R656). -/
def State.updStream (s : State) (cid c n : Nat) : List Nat :=
  keystream (s.kUenc cid) (0x55 :: leBytes 4 cid ++ List.replicate 11 0) c n

/-! ### Staging (R661, Table UPD-6) -/

/-- Bank T: the bank other than the one that runs (R660). -/
def State.bankT (s : State) : Nat := if s.rd R.UPDATE.ACTIVE.BANK = 0 then 1 else 0

/-- The base of an image slot. -/
def slotBase (t : Nat) : Nat := 0x100000 + 0x60000 * t

/-- The base of the staging of a bank. -/
def stagingBase (t : Nat) : Nat := 0x150000 + 0x60000 * t

/-- Where the mark of sheaf `i` lies. -/
def markAddr (t i : Nat) : Nat := stagingBase t + 0xB000 + 8 * i

/-- The mark's double word. -/
def markWord : Nat := 0x5348A5C3

/-- Whether sheaf `i` is marked. -/
def State.marked (s : State) (t i : Nat) : Bool := s.load (markAddr t i) 8 == markWord

/-- The header stored in the staging of bank T. -/
def State.storedHeader (s : State) : List Nat := s.bytes (stagingBase s.bankT) 96

/-- Fields of a header (Table UPD-2). -/
def hdField (h : List Nat) (o n : Nat) : Nat := leNat ((h.drop o).take n)
def hdKind (h : List Nat) : Nat := hdField h 0x05 1
def hdSheaves (h : List Nat) : Nat := hdField h 0x06 2
def hdRollback (h : List Nat) : Nat := hdField h 0x0A 1
def hdStream (h : List Nat) : Nat := hdField h 0x14 4
def hdLen (h : List Nat) : Nat := hdField h 0x18 4
def hdEntry (h : List Nat) : Nat := hdField h 0x1C 4
def hdGen (h : List Nat) : Nat := hdField h 0x20 4
def hdVersion (h : List Nat) : Nat := hdField h 0x24 4
def hdBaseGen (h : List Nat) : Nat := hdField h 0x28 4
def hdRegions (h : List Nat) : Nat := hdField h 0x2C 2
def hdPart (h : List Nat) : Nat := hdField h 0x2E 1
def hdParts (h : List Nat) : Nat := hdField h 0x2F 1
def hdBaseTag (h : List Nat) : List Nat := (h.drop 0x30).take 8
def hdItag (h : List Nat) : List Nat := (h.drop 0x38).take 16

def kindDirect : Nat := 1
def kindDelta : Nat := 2
def kindTwin : Nat := 3
def kindLegal : Nat := 4

/-- Where part `p` of a DIRECT image ends (R667). -/
def partEnd (h : List Nat) : Nat := min ((hdPart h + 1) * 0xA000) (hdLen h)

/-! ### Application images (R670) -/

/-- A field of an image trailer (Table UPD-8). -/
def State.imageField (s : State) (b o n : Nat) : Nat := s.load (slotBase b + 0x4FFC0 + o) n

/-- The TAG of an image slot, computed under K_IMG. -/
def State.imageTag (s : State) (b : Nat) : List Nat :=
  cmacOf s.kImg (s.bytes (slotBase b) (s.imageField b 0x0C 4) ++ s.bytes (slotBase b + 0x4FFC0) 32)

/-- Whether an application image slot is valid. -/
def State.imageValid (s : State) (b : Nat) : Bool :=
  s.updKeyOk && s.imageField b 0 4 == 0x41500420 && s.imageField b 0x38 8 == 0x4150A5C3 &&
    s.imageField b 4 4 != 0xFFFFFFFF && decide (s.imageField b 0x0C 4 ≤ 0x4FFC0) &&
    decide (s.imageField b 0x10 4 < s.imageField b 0x0C 4) && rollbackOk (s.imageField b 8 1) (s.arb 1) &&
    s.flashClean (slotBase b) ((s.imageField b 0x0C 4 + 7) / 8) && s.flashClean (slotBase b + 0x4FFC0) 8 &&
    s.bytes (slotBase b + 0x4FFE0) 16 == s.imageTag b

/-- Whether an image is on trial: its TRIAL is erased. -/
def State.onTrial (s : State) (b : Nat) : Bool := s.dwordErased (slotBase b + 0x4FFF0)

/-- TRIAL.MAX in force. -/
def State.trialMax (s : State) : Nat := max 1 (s.rd R.UPDATE.TRIAL.MAX)

/-- The reads of APP_SELECT: both trailers, and the code of each image whose LEN is in bounds. -/
def Run.takesImage (r : Run) (b : Nat) : Run :=
  let q := r.takes (slotBase b + 0x4FFC0) 64
  if r.s.imageField b 0x0C 4 ≤ 0x4FFC0 then q.takes (slotBase b) (r.s.imageField b 0x0C 4) else q

/-- The choice of APP_SELECT (R670). -/
def State.selectImage (s : State) : State :=
  let v := (List.range 2).filter (fun b => s.imageValid b)
  let first := if v = [0, 1] then (if s.imageField 1 4 4 > s.imageField 0 4 4 then 1 else 0) else v.headD 3
  let worn := decide (first < 2) && s.onTrial first && decide (s.rd R.UPDATE.TRIAL.COUNT ≥ s.trialMax) &&
    v.contains (1 - first)
  let b := if worn then 1 - first else first
  let s1 := if worn then s.log 0x0807 [] else s
  let s2 := if b < 2 && s1.onTrial b then s1.wr R.UPDATE.TRIAL.COUNT (min 15 (s1.rd R.UPDATE.TRIAL.COUNT + 1)) else s1
  s2.romResult b

/-- APP_SELECT (R670): the bank in a0, 3 for none. -/
def execAppSelect (s : State) : Host.Outcome State Fault Refusal :=
  if !s.appRuns then .next s
  else
    let r := (s.romCall.takesImage 0).takesImage 1
    .next (if r.code = 0 then r.s.selectImage else r.s)

/-! ### Header checks (R658, Table UPD-4) -/

/-- The bounds and zero fields of Table UPD-2. -/
def State.headerForm (s : State) (h : List Nat) : Bool :=
  let k := hdKind h
  let direct := k == kindDirect
  hdField h 0 4 == 0x53480420 && hdField h 4 1 == 1 && decide (1 ≤ k) && decide (k ≤ 4) &&
    !(k == kindLegal && s.variant == .c) && decide (2 ≤ hdSheaves h) && decide (hdSheaves h ≤ 469) &&
    decide (hdRollback h ≤ 64) && hdField h 0x0B 1 == 0 && hdSheaves h - 1 == (hdStream h + 95) / 96 &&
    (if k == kindLegal then hdLen h == hdStream h
      else hdLen h % 8 == 0 && decide (hdLen h ≤ (if k == kindTwin then 0x3FC0 else 0x4FFC0))) &&
    decide (hdEntry h < hdLen h) && hdGen h != 0xFFFFFFFF && (k == kindDelta || hdBaseGen h == 0) &&
    decide (hdRegions h < 512) &&
    (if direct then hdParts h == (hdLen h + 0x9FFF) / 0xA000 && decide (hdParts h ≤ 8) && decide (hdPart h < hdParts h) &&
        hdStream h == partEnd h - hdPart h * 0xA000
      else hdPart h == 0 && hdParts h == 1) &&
    (k == kindDelta || (hdBaseTag h).all (fun b => b == 0)) &&
    (hdRegions h != 0 || ((h.drop 0x48).take 16).all (fun b => b == 0)) && ((h.drop 0x58).take 8).all (fun b => b == 0)

/-- The reason a header is refused for, 0 where every check passes. -/
def State.headerReason (s : State) (h : List Nat) : Nat :=
  let k := hdKind h
  if !s.updKeyOk then 10
  else if !s.headerForm h then 11
  else if hdField h 8 2 ≠ typeId s.variant then 1
  else if hdField h 0x0C 8 ≠ s.otp.unitId ∧ hdField h 0x0C 8 ≠ 0xFFFFFFFFFFFFFFFF then 2
  else if (k = kindDirect ∨ k = kindDelta) ∧ !rollbackOk (hdRollback h) (s.arb 1) then 3
  else if k = kindTwin ∧ (!rollbackOk (hdRollback h) (s.arb 0) ∨ s.mappedTwin = none ∨
      hdGen h ≠ s.twinGen (s.rd R.AON.BOOT_STATUS.TWIN) + 1) then 3
  else if k = kindDelta ∧ !(decide (s.rd R.UPDATE.ACTIVE.BANK < 2) && s.imageValid (1 - s.bankT) &&
      s.imageField (1 - s.bankT) 4 4 == hdBaseGen h &&
      s.bytes (slotBase (1 - s.bankT) + 0x4FFE0) 8 == hdBaseTag h) then 4
  else if s.rd R.UPDATE.ACTIVE.BANK > 1 then 12
  else if k = kindDirect ∧ hdPart h > 0 ∧
      (s.rd R.UPDATE.PART_GEN.GEN ≠ hdGen h ∨ s.rd R.UPDATE.PARTS.NEXT ≠ hdPart h) then 13
  else 0

/-- A header that fails its checks. -/
def State.headerBad (s : State) (reason : Nat) : State := (s.wr R.UPDATE.STATUS.REASON reason).log 0x0803 [reason]

/-! ### State of the container -/

/-- STATE: 0 IDLE, 1 RECEIVING, 2 COMPLETE, 3 APPLYING, 4 APPLIED, 5 FAILED, 6 PART_DONE. -/
def State.updState (s : State) : Nat := s.rd R.UPDATE.STATUS.STATE

/-- RECEIVED and FIRST_MISS counted again from the marks (R662, R663). -/
def State.countMarks (s : State) : State :=
  let n := s.rd R.UPDATE.RX.TOTAL
  let missing := (List.range n).filter (fun i => !s.marked s.bankT i)
  (s.wr R.UPDATE.RX.RECEIVED (n - missing.length)).wr R.UPDATE.FIRST_MISS.IDX (missing.headD 0xFFFF)

/-- PARTS and PART_GEN cleared (R667). -/
def State.clearParts (s : State) : State := (s.clear R.UPDATE.PARTS.NEXT).clear R.UPDATE.PART_GEN.GEN

/-- No container open. -/
def State.updIdle (s : State) : State :=
  (((s.clear R.UPDATE.STATUS.STATE).clear R.UPDATE.RX.RECEIVED).clear R.UPDATE.RX.TOTAL).wr R.UPDATE.FIRST_MISS.IDX 0xFFFF

/-! ### UPDATE at the flash (R668)

UPDATE starts its operations and reads only while no array of its controller is busy, so none of them meets FLASH_BUSY. -/

/-- Whether UPDATE can use the flash now: APP is On, its controller idle, and UNDER does not hold its accesses (R61). -/
def State.updFree (s : State) : Bool := s.appRuns && s.appFlash.isNone

/-- `n` bytes of flash read by UPDATE: the record of what they meet (R220). -/
def State.updReads (s : State) (a n : Nat) : State := s.readSpan .app 13 a n

/-- The reads of a check of an application image: its trailer, and its code where LEN is in bounds. -/
def State.imageReads (s : State) (b : Nat) : State :=
  let s1 := s.updReads (slotBase b + 0x4FFC0) 64
  if s.imageField b 0x0C 4 ≤ 0x4FFC0 then s1.updReads (slotBase b) (s.imageField b 0x0C 4) else s1

/-- The reads of the checks of a header: the booted twin's GEN, or the base image (Table UPD-4). -/
def State.headerReads (s : State) (h : List Nat) : State :=
  if hdKind h = kindTwin then s.updReads (twinBase (s.rd R.AON.BOOT_STATUS.TWIN) + 0x3FC4) 4
  else if hdKind h = kindDelta then s.imageReads (1 - s.bankT)
  else s

/-- A sequence of flash operations of UPDATE. -/
def State.updOps (s : State) (ops : List Nat) : Run := { s := s, ops := ops, code := 0 }

/-- The staging of a bank erased. -/
def Run.eraseStaging (r : Run) (t : Nat) : Run :=
  (List.range 12).foldl (fun (x : Run) i => x.eraseIn t 13 (80 + i)) r

/-- A double word of a sheaf stored: skipped where it holds the data already (R661). -/
def Run.storeDword (r : Run) (t a : Nat) (d : List Nat) : Run :=
  if r.code ≠ 0 then r
  else if !r.s.dwordErased a && r.s.bytes a 8 == d then r
  else r.programIn t 13 a d

/-- A sheaf stored: its payload, then its mark. -/
def Run.storeSheaf (r : Run) (t i : Nat) (payload : List Nat) : Run :=
  let r1 := (List.range 12).foldl (fun (x : Run) k =>
    x.storeDword t (stagingBase t + 96 * i + 8 * k) ((payload.drop (8 * k)).take 8)) r
  r1.storeDword t (markAddr t i) (leBytes 8 markWord)

/-- A container abandoned (R674): IDLE, with STUCK, PARTS and PART_GEN cleared; its staging is erased after that. -/
def State.abandonContainer (s : State) : State := (s.updIdle.clear R.UPDATE.STATUS.STUCK).clearParts

/-! ### The apply (R664 to R669) -/

/-- Whether the ladder and the state let an apply start. -/
def State.mayApply (s : State) : Bool :=
  s.updState == 2 && hdKind s.storedHeader != kindLegal && decide (s.level ≤ 1)

/-- An apply that fails (R669). -/
def State.applyFails (s : State) (reason : Nat) : State :=
  (((s.wr R.UPDATE.STATUS.STATE 5).raise R.UPDATE.STATUS.FAIL).wr R.UPDATE.STATUS.REASON reason).log 0x0805 [reason]

/-- The regions named that are protected and not lifted. -/
def State.closedRegions (s : State) (mask : Nat) : Nat :=
  (List.range 9).foldl (fun v r => v + 2 ^ r * b2n (bit mask r && !s.regionWritable r)) 0

/-- The password of a header, decrypted. -/
def State.headerPassword (s : State) (h : List Nat) : List Nat :=
  xorBytes ((h.drop 0x48).take 16) (s.updStream (s.rd R.UPDATE.CID.CID) 0 1)

/-- An apply starts (R664): STATE is APPLYING, and APP is held On for it (R660). -/
def State.startApply (s : State) : State :=
  (((s.wr R.UPDATE.STATUS.STATE 3).clear R.UPDATE.PROGRESS.BYTES).startExit .app).updateMode

/-- Steps 1 and 2 of an apply: the reason it ends for, 0 where it goes on with the regions that it lifted. -/
def State.applyChecks (s : State) (h : List Nat) : State × Nat :=
  let s0 := (s.updReads (stagingBase s.bankT) 96).headerReads h
  let reason := s0.headerReason h
  if reason ≠ 0 then (s0.headerBad reason, reason)
  else
    let closed := s0.closedRegions (hdRegions h)
    let s1 := if closed = 0 then s0 else s0.protectionCheck (hdRegions h) (s0.headerPassword h)
    if s1.closedRegions (hdRegions h) ≠ 0 then (s1, 5)
    else ({ s1 with update := { s1.update with lifted := closed } }, 0)

/-- AUTO_APPLY (R664). -/
def State.autoApply (s : State) : State :=
  if s.flag R.UPDATE.CTRL.AUTO_APPLY && s.mayApply then s.startApply else s

/-- UPD_APPLY (R664): CMD.APPLY. -/
def execUpdApply (s : State) : Host.Outcome State Fault Refusal :=
  s.ifApp (fun a => if a.mayApply then a.startApply else a.raise R.UPDATE.STATUS.CMD_REF)

/-- The target of an apply: its array, its first block and the address of its first byte and of its trailer. -/
structure ApplyTarget where
  arr : Nat
  blk : Nat
  base : Nat
  trailer : Nat
  deriving DecidableEq, Repr

/-- The image slot of bank T, or for TWIN the boot twin not booted. -/
def State.applyTarget (s : State) (h : List Nat) : ApplyTarget :=
  if hdKind h = kindTwin then
    let t := 1 - s.rd R.AON.BOOT_STATUS.TWIN
    { arr := 2, blk := 4 * t, base := twinBase t, trailer := twinBase t + 0x3FC0 }
  else { arr := s.bankT, blk := 0, base := slotBase s.bankT, trailer := slotBase s.bankT + 0x4FFC0 }

/-- The bytes of the target that a container covers: first offset and end (R664, R667). -/
def applyRange (h : List Nat) : Nat × Nat :=
  if hdKind h = kindDirect then (hdPart h * 0xA000, partEnd h) else (0, hdLen h)

/-- The blocks an apply erases, in order: the trailer's block first for part 0 of a DIRECT image. -/
def applyBlocks (h : List Nat) (last : Nat) : List Nat :=
  let r := applyRange h
  let body := (List.range ((r.2 + 0xFFF) / 0x1000 - r.1 / 0x1000)).map (fun i => r.1 / 0x1000 + i)
  let direct := hdKind h == kindDirect
  if direct && hdPart h == 0 then last :: body.filter (fun b => b != last)
  else if direct && hdPart h + 1 != hdParts h then body
  else if body.contains last then body
  else body ++ [last]

/-- The decrypted stream (R656). -/
def State.plainStream (s : State) (h : List Nat) : List Nat :=
  xorBytes (s.bytes (stagingBase s.bankT + 96) (hdStream h)) (s.updStream (s.rd R.UPDATE.CID.CID) 1 ((hdStream h + 15) / 16))

/-- `n` bytes of the base image from an offset (R665). -/
def State.baseBytes (s : State) (src n : Nat) : List Nat := s.bytes (slotBase (1 - s.bankT) + src) n

/-- The output of a delta stream, and whether the stream ends as R665 asks; an operation in error puts nothing out.  `fuel`
bounds the operations by the stream's bytes. -/
def State.patch (s : State) (baseLen newLen : Nat) : Nat → List Nat → List Nat → List Nat × Bool
  | 0, _, out => (out, false)
  | fuel + 1, st, out =>
    match st with
    | 0x00 :: _ => (out, out.length == newLen)
    | op :: r =>
      let src := leNat (r.take 4)
      let copies := op == 1 || op == 2
      let r1 := if copies then r.drop 4 else r
      let n := leNat (r1.take 2)
      let d := (r1.drop 2).take n
      let used := if op = 1 then 2 else 2 + n
      if !(decide (1 ≤ op) && decide (op ≤ 3)) || decide (n < 1) || decide (n > 4096) || decide (r1.length < used) ||
          (copies && decide (src + n > baseLen)) || decide (out.length + n > newLen) then (out, false)
      else
        let o :=
          if op = 1 then s.baseBytes src n
          else if op = 2 then ((s.baseBytes src n).zip d).map (fun p => (p.1 + p.2) % 256)
          else d
        s.patch baseLen newLen fuel (r1.drop used) (out ++ o)
    | [] => (out, false)

/-- The bytes an apply programs, and whether its stream is without a patch error. -/
def State.applyOutput (s : State) (h : List Nat) : List Nat × Bool :=
  let st := s.plainStream h
  if hdKind h = kindDelta then
    s.patch (s.imageField (1 - s.bankT) 0x0C 4) (hdLen h) (st.length + 1) st []
  else (st.take ((applyRange h).2 - (applyRange h).1), true)

/-- The reads of step 4 of an apply: the stream, and the base image of a DELTA. -/
def State.streamReads (s : State) (h : List Nat) : State :=
  let s1 := s.updReads (stagingBase s.bankT + 96) (hdStream h)
  if hdKind h = kindDelta then s1.imageReads (1 - s.bankT) else s1

/-- The trailer without COMMIT, from the header (R666): what no field names stays erased. -/
def trailerBytes (h : List Nat) : List Nat :=
  let twin := hdKind h == kindTwin
  leBytes 4 (if twin then 0x7B1E0420 else 0x41500420) ++ leBytes 4 (hdGen h) ++ [hdRollback h, 0xFF, 0xFF, 0xFF] ++
    leBytes 4 (hdLen h) ++ leBytes 4 (hdEntry h) ++ (if twin then List.replicate 4 0xFF else leBytes 4 (hdVersion h)) ++
    List.replicate 8 0xFF ++ hdItag h

/-- A trailer programmed; a double word that no field touches stays erased. -/
def Run.programSparse (r : Run) (arr a : Nat) (d : List Nat) : Run :=
  (List.range (d.length / 8)).foldl (fun (x : Run) i =>
    let w := (d.drop (8 * i)).take 8
    if allOnes w then x else x.programIn arr 13 (a + 8 * i) w) r

/-- The reason for the end of an apply by the flash (R668). -/
def flashReason (code : Nat) : Nat := if code = resProtWrite then 5 else 6

/-- Whether the new image matches ITAG. -/
def State.newTag (s : State) (h : List Nat) (t : ApplyTarget) : Bool :=
  let key := if hdKind h = kindTwin then s.rootDerive labelBoot else s.kImg
  cmacOf key (s.bytes t.base (hdLen h) ++ s.bytes t.trailer 32) == hdItag h

/-- The regions an apply lifted, locked again. -/
def State.relockLifted (s : State) : State :=
  let m := s.update.lifted
  let s1 : State := { s with update := { s.update with lifted := 0 } }
  if m = 0 then s1
  else (s1.wr R.FLASHC.PROT_STATUS.LIFTED (clearBits (s1.rd R.FLASHC.PROT_STATUS.LIFTED) m)).log 0x0733 []

/-- An apply stopped by a reset under its operations (R675): STATE returns to COMPLETE. -/
def State.applyStopped (s : State) : State := (s.wr R.UPDATE.STATUS.STATE 2).log 0x0806 []

/-- An apply whose flash operations ended with a code other than 0 (R668, R675). -/
def State.applyEnds (s : State) (code : Nat) : State :=
  if code = resCut then s.applyStopped else s.applyFails (flashReason code)

/-- Steps 5 to 8 of an apply. -/
def Run.finishApply (r : Run) (h : List Nat) (t : ApplyTarget) : State :=
  let r1 := (r.programSparse t.arr t.trailer (trailerBytes h)).map (fun s =>
    (s.updReads t.base (hdLen h)).updReads t.trailer 32)
  if r1.code ≠ 0 then r1.s.applyEnds r1.code
  else if !r1.s.newTag h t then r1.s.applyFails 7
  else
    let commit := if hdKind h = kindTwin then 0x3C5AA5C3 else 0x4150A5C3
    let r2 := r1.programIn t.arr 13 (t.trailer + 0x38) (leBytes 8 commit)
    if r2.code ≠ 0 then r2.s.applyEnds r2.code
    else ((r2.s.relockLifted.wr R.UPDATE.STATUS.STATE 4).raise R.UPDATE.STATUS.DONE).log 0x0804 []

/-- The end of a part other than the last (R667). -/
def State.partDone (s : State) (h : List Nat) : State :=
  let s1 := (s.wr R.UPDATE.PARTS.NEXT (hdPart h + 1)).wr R.UPDATE.PART_GEN.GEN (hdGen h)
  ((s1.wr R.UPDATE.STATUS.STATE 6).raise R.UPDATE.STATUS.DONE).log 0x0808 []

/-- Step 3 of an apply: the blocks of its target erased. -/
def Run.eraseTarget (r : Run) (h : List Nat) (t : ApplyTarget) : Run :=
  (applyBlocks h (if t.arr = 2 then 3 else 79)).foldl (fun (x : Run) b => x.eraseIn t.arr 13 (t.blk + b)) r

/-- The double words of an image programmed in order; PROGRESS counts the bytes. -/
def Run.programImage (r : Run) (arr a : Nat) (data : List Nat) : Run :=
  (List.range (data.length / 8)).foldl (fun (x : Run) i =>
    (x.programIn arr 13 (a + 8 * i) ((data.drop (8 * i)).take 8)).andThen (fun y =>
      y.map (fun s => s.wr R.UPDATE.PROGRESS.BYTES (8 * (i + 1))))) r

/-- Step 4 of an apply, with what follows it: what the stream puts out before a patch error is programmed. -/
def Run.applyStream (r : Run) (h : List Nat) (t : ApplyTarget) : State :=
  let q := r.map (fun s => s.streamReads h)
  let out := q.s.applyOutput h
  let r1 := q.programImage t.arr (t.base + (applyRange h).1) out.1
  if r1.code ≠ 0 then r1.s.applyEnds r1.code
  else if !out.2 then r1.s.applyFails 8
  else if hdKind h = kindDirect ∧ hdPart h + 1 ≠ hdParts h then r1.s.partDone h
  else r1.finishApply h t

/-- The steps of an apply. -/
def State.runApply (s : State) (ops : List Nat) : State :=
  let h := s.storedHeader
  let c := s.applyChecks h
  if c.2 ≠ 0 then c.1.applyFails c.2
  else
    let t := c.1.applyTarget h
    let r := (c.1.updOps ops).eraseTarget h t
    if r.code ≠ 0 then r.s.applyEnds r.code else r.applyStream h t

/-- UPD_APPLY_END (R664 to R669): the apply runs with the arrays idle (R668); its flash operations end as `ops` says. -/
def execUpdApplyEnd (ops : List Nat) (s : State) : Host.Outcome State Fault Refusal :=
  .next (if s.updState = 3 ∧ s.updFree = true then (s.runApply ops).updateMode else s)

/-- An apply stopped by the ladder or a reset (R675): the target is left without COMMIT and its content undefined, and
STATE returns to COMPLETE. -/
def State.stopApply (s : State) : State :=
  if s.updState ≠ 3 then s
  else
    let h := s.storedHeader
    let t := s.applyTarget h
    let lastBlk := if t.arr = 2 then 3 else 79
    let s1 := (applyBlocks h lastBlk).foldl (fun a b =>
      if b = lastBlk then a.blankBlock (blockBase t.arr (t.blk + b)) else a.undefBlock (blockBase t.arr (t.blk + b))) s
    s1.applyStopped

/-- The sheaf in the input buffer lost (R675). -/
def State.loseSheaf (s : State) : State := { s with update := { s.update with sheaf := none } }

/-! ### Reception (R659 to R663) -/

/-- The reads of a reconstruction of the reception state: the header and the marks. -/
def State.stagingReads (s : State) : State :=
  ((s.updReads (stagingBase s.bankT) 96).updReads (markAddr s.bankT 0) (8 * 469)).headerReads s.storedHeader

/-- The reception state rebuilt from staging (R663). -/
def State.rebuildReception (s : State) : State :=
  if s.updState = 3 then s
  else
    let h := s.storedHeader
    let s0 := s.stagingReads
    if s.marked s.bankT 0 ∧ s.headerReason h = 0 then
      let s1 := ((s0.wr R.UPDATE.RX.TOTAL (hdSheaves h)).wr R.UPDATE.CID.CID (s.update.staged.getD s.bankT 0)).countMarks
      if s1.rd R.UPDATE.RX.RECEIVED = hdSheaves h then (s1.wr R.UPDATE.STATUS.STATE 2).autoApply
      else s1.wr R.UPDATE.STATUS.STATE 1
    else s0.updIdle

/-- An accepted header stored (Table UPD-5): staging of bank T erased, header and mark stored, RECEIVING. -/
def State.openContainer (s : State) (ops : List Nat) (cid : Nat) (h : List Nat) : State :=
  let t := s.bankT
  let expected := hdKind h == kindDirect && decide (hdPart h > 0)
  let s0 := if expected then s else s.clearParts
  let r := ((s0.updOps ops).eraseStaging t).storeSheaf t 0 h
  if r.code = resCut then r.s.updIdle
  else if r.code ≠ 0 then (r.s.updIdle.count R.UPDATE.COUNTS.BAD 1)
  else
    let s1 : State := { r.s with update := { r.s.update with staged := r.s.update.staged.set t cid } }
    let s2 := ((s1.wr R.UPDATE.CID.CID cid).wr R.UPDATE.RX.TOTAL (hdSheaves h)).countMarks
    (s2.wr R.UPDATE.STATUS.STATE 1).log 0x0800 []

/-- A sheaf stored whose mark is missing (R661, R662). -/
def State.keepSheaf (s : State) (ops : List Nat) (i : Nat) (payload : List Nat) : State :=
  let r := (s.updOps ops).storeSheaf s.bankT i payload
  if r.code = resCut then r.s
  else if r.code ≠ 0 then (r.s.count R.UPDATE.COUNTS.BAD 1).raise R.UPDATE.STATUS.STUCK
  else
    let s1 := r.s.countMarks
    if s1.rd R.UPDATE.RX.RECEIVED = s1.rd R.UPDATE.RX.TOTAL then
      ((s1.wr R.UPDATE.STATUS.STATE 2).log 0x0801 []).autoApply
    else s1

/-- A double word of a sheaf that holds other data (R661). -/
def State.sheafStuck (s : State) (i : Nat) (payload : List Nat) : Bool :=
  (List.range 12).any (fun k =>
    let a := stagingBase s.bankT + 96 * i + 8 * k
    !s.dwordErased a && s.bytes a 8 != (payload.drop (8 * k)).take 8)

/-- A repeated or foreign sheaf dropped. -/
def State.dupSheaf (s : State) : State := s.count R.UPDATE.COUNTS.DUP 1

/-- A sheaf with a header (Table UPD-5, R676): checked where no container is open, or where its CID differs from that of the
open one, which it replaces only with a higher NEW_GEN; dropped in any other case. -/
def State.handleHeader (s : State) (ops : List Nat) (cid : Nat) (h : List Nat) : State :=
  let st := s.updState
  let replaces := st == 1 || st == 2
  if st = 3 ∨ (replaces = true ∧ s.rd R.UPDATE.CID.CID = cid) then s.dupSheaf
  else
    let s0 := s.headerReads h
    let reason := s0.headerReason h
    if reason ≠ 0 then (if replaces then (s0.headerBad reason).dupSheaf else s0.headerBad reason)
    else if !replaces then s0.openContainer ops cid h
    else if hdGen h > hdGen s.storedHeader then s0.abandonContainer.openContainer ops cid h
    else s0.dupSheaf

/-- The rows of Table UPD-5 below the check of STAG. -/
def State.handleSheaf (s : State) (ops : List Nat) (cid i : Nat) (payload : List Nat) : State :=
  if i = 0 then s.handleHeader ops cid payload
  else if s.updState = 0 ∨ s.rd R.UPDATE.CID.CID ≠ cid then s.dupSheaf
  else if i ≥ s.rd R.UPDATE.RX.TOTAL then s.count R.UPDATE.COUNTS.BAD 1
  else
    let s1 := s.updReads (markAddr s.bankT i) 8
    if s.marked s.bankT i then s1.dupSheaf
    else if s.sheafStuck i payload then (s1.count R.UPDATE.COUNTS.BAD 1).raise R.UPDATE.STATUS.STUCK
    else s1.keepSheaf ops i payload

/-- Whether the STAG of a sheaf matches (Table UPD-3). -/
def State.stagOk (s : State) (d : List Nat) : Bool :=
  let cid := leNat (d.take 4)
  (d.drop 0x68).take 8 ==
    (cmacOf (s.kUmac cid) (0x48 :: (d.take 6 ++ [0] ++ (d.drop 8).take 96))).take 8

/-- SHEAF_RECEIVED (R659 to R662): the sheaf in the input buffer is handled once the arrays are idle (R668). -/
def execSheafReceived (ops : List Nat) (s : State) : Host.Outcome State Fault Refusal :=
  match s.update.sheaf with
  | none => .next s
  | some d =>
    let s1 := s.loseSheaf
    let i := leNat ((d.drop 4).take 2)
    .next (if !s.updFree then s
      else (if !s.updKeyOk then (if i = 0 then s1.headerBad 10 else s1.count R.UPDATE.COUNTS.BAD 1)
        else if !s.stagOk d then (s1.count R.UPDATE.COUNTS.BAD 1).logMinute 0x0802 []
        else s1.handleSheaf ops (leNat (d.take 4)) i ((d.drop 8).take 96)).updateMode)

/-! ### Commands -/

/-- UPD_DECRYPT performed (R672). -/
def State.decrypt (s : State) : State :=
  let h := s.storedHeader
  let ofs := s.rd R.UPDATE.DEC_OFS.VALUE
  let len := s.rd R.UPDATE.DEC_LEN.VALUE
  let dst := s.rd R.UPDATE.DEC_DST.VALUE
  if s.updState = 2 ∧ ofs + len ≤ hdStream h ∧ 0x20000000 ≤ dst ∧ dst + len ≤ 0x20020000 then
    (s.updReads (stagingBase s.bankT + 96 + ofs) len).setBytes dst (((s.plainStream h).drop ofs).take len)
  else s.raise R.UPDATE.STATUS.CMD_REF

/-- TRIAL of the active slot programmed and COUNT cleared (R671). -/
def State.confirm (s : State) (ops : List Nat) : State :=
  let b := s.rd R.UPDATE.ACTIVE.BANK
  if b > 1 then s
  else (((s.updOps ops).programIn b 13 (slotBase b + 0x4FFF0) (leBytes 8 0x5452A5C3)).s).clear R.UPDATE.TRIAL.COUNT

/-- Work of UPDATE at the flash performed. -/
def State.updPerform (s : State) (w : UpdWork) : State :=
  match w with
  | .erase t ops => ((s.updOps ops).eraseStaging t).s
  | .confirm ops => s.confirm ops
  | .decrypt _ => s.decrypt.done 0
  | .rebuild => s.rebuildReception

/-- Work of UPDATE at the flash: done at once, or once the arrays are idle (R668). -/
def State.updDo (s : State) (w : UpdWork) : State :=
  if s.updFree && s.update.due.isEmpty then s.updPerform w
  else { s with update := { s.update with due := s.update.due ++ [w] } }

/-- The work that waited done, now that the arrays are idle. -/
def State.updServe (s : State) : State :=
  if s.updFree && !s.update.due.isEmpty then
    (s.update.due.foldl State.updPerform { s with update := { s.update with due := [] } }).updateMode
  else s

/-- A commit of UPDATE (R663). -/
def State.updateCommitted (s : State) : State := if s.flag R.UPDATE.CTRL.RX_EN then s.updDo .rebuild else s

/-- UPD_ABANDON (R674). -/
def execUpdAbandon (ops : List Nat) (s : State) : Host.Outcome State Fault Refusal :=
  s.ifApp (fun a =>
    if a.updState = 3 then a.raise R.UPDATE.STATUS.CMD_REF else a.abandonContainer.updDo (.erase a.bankT ops))

/-- UPD_CONFIRM (R671). -/
def execUpdConfirm (ops : List Nat) (s : State) : Host.Outcome State Fault Refusal :=
  s.ifApp (fun a => a.updDo (.confirm ops))

/-- DECRYPT by a requester, whose write completes when the bytes are written (R672). -/
def State.startDecrypt (s : State) (req : Nat) : State := s.updDo (.decrypt req)

/-- UPD_DECRYPT (R672). -/
def execUpdDecrypt (s : State) : Host.Outcome State Fault Refusal := s.ifApp (fun a => a.startDecrypt 1)

/-- UPD_ACTIVE_WRITE (R670, R677): only the first write after a reset takes effect; a change of bank T abandons an open
container. -/
def execUpdActiveWrite (bank : Nat) (ops : List Nat) (s : State) : Host.Outcome State Fault Refusal :=
  s.ifApp (fun a =>
    if a.update.activeSet then a
    else
      let t := a.bankT
      let s1 := ({ a with update := { a.update with activeSet := true } } : State).wr R.UPDATE.ACTIVE.BANK bank
      if s1.bankT ≠ t ∧ (a.updState = 1 ∨ a.updState = 2) then s1.abandonContainer.updDo (.erase t ops) else s1)

end Sys2Proof.Machine
end

