-- ==== Sys2Proof/Machine/Domains.lean ====
section
/-! DEFINITION. Domains in transition (ch. 04): what each domain loses when it leaves On or is reset, the conditions of an
entry, entries and exits, and wake events. -/

namespace Sys2Proof.Machine

open Sys2Proof

/-! ### Windows at a reset -/

/-- The windows of the application domain: all but AON, those of RF, and METVIEW (Table MAP-2). -/
def appWindows : List Nat :=
  [0x40000000, 0x40001000, 0x40003000, 0x40004000, 0x40005000, 0x40006000, 0x40007000, 0x4000B000, 0x4000C000, 0x4000D000,
    0x4000E000, 0x4000F000, 0x40010000, 0x40011000, 0x40012000, 0x40015000]

/-- The windows of the RF domain. -/
def rfWindows : List Nat := [0x40008000, 0x40009000, 0x4000A000]

/-- The windows of the MET domain. -/
def metWindows : List Nat := (List.range 13).map (fun n => 0x48000000 + 0x1000 * n)

/-- The fields of a window back at their reset values but for those that `keep` names; its shadow is lost, and DROPPED
shows one that was pending (R171). -/
def State.resetWindow (s : State) (keep : Fld → Bool) (base : Nat) : State :=
  let p := s.flag (R.CFG_COMMIT.PENDING base)
  let gone := ((windowFields base).filter (fun f => !keep f)).map Fld.key
  let s1 := ({ s with regs := s.regs.filter (fun e => !gone.contains e.1) } : State).resetRange (base + 0xFC) (base + 0x100)
  let s2 := s1.dropShadow base
  if p then s2.raise (R.CFG_COMMIT.DROPPED base) else s2

/-- Several windows reset. -/
def State.resetWindows (s : State) (keep : Fld → Bool) (l : List Nat) : State :=
  l.foldl (fun a b => a.resetWindow keep b) s

/-- The shadows of several windows lost (R171). -/
def State.loseShadows (s : State) (l : List Nat) : State := l.foldl State.loseShadow s

/-- The SLOT fields of the key slots that are kept through every reset except POR (Table CMAC-1). -/
def keySlotFields : List Fld :=
  (List.range 7).flatMap (fun i =>
    [R.CMACE.SLOT.VALID (i + 1), R.CMACE.SLOT.SIZE (i + 1), R.CMACE.SLOT.ATTR (i + 1), R.CMACE.SLOT.ROMONLY (i + 1),
      R.CMACE.SLOT.HALF (i + 1)])

/-- The fields of APP windows, beside those held in AON and read through a mirror, that an APP-scope reset keeps (R134,
R261, Table REG-4, Table CAT-12, R67). -/
def appKept : List Fld :=
  [R.SYSCTL.VOTE_FIX.COUNT, R.SYSCTL.EVLOG_SEL.POS, R.FLASHC.PROT_STATUS.ATTEMPTS, R.FLASHC.PROT_STATUS.LOCKOUT,
    R.FLASHC.PROT_STATUS.MAP_LOST, R.FLASHC.ARB_STATUS.BURN, R.BRIDGE.CLKSTAT.HFXO_RUN .app, R.BRIDGE.CLKSTAT.LFXO_RUN .app,
    R.BRIDGE.CLKSTAT.TOSC_OK .app, R.BRIDGE.CLKSTAT.TOSC_FAIL .app] ++ keySlotFields

/-- UPDATE's registers are held on the AON supply but for CMD and the DEC registers (ch. 26). -/
def updateKept (f : Fld) : Bool :=
  windowBase f.addr == 0x40015000 &&
    !([R.UPDATE.DEC_OFS.VALUE.addr, R.UPDATE.DEC_LEN.VALUE.addr, R.UPDATE.DEC_DST.VALUE.addr].contains f.addr)

/-- Whether an APP-scope reset keeps a field: AON registers read through a mirror, and those named. -/
def keptAtApp (f : Fld) : Bool := f.kind == .mirror || appKept.contains f || updateKept f

/-- Whether MET Off or a MET-scope reset keeps a field (R727, R378, R189, R299): all of MPWR but WDT and ECHK, EVQ_STATUS,
the MLOFTC BELL and STATS of the Loft. -/
def keptAtMet (f : Fld) : Bool :=
  (windowBase f.addr == 0x48001000 && f.addr != R.MPWR.WDT.PERIOD.addr && f.addr != R.MPWR.ECHK.START.addr) ||
    f.addr == R.MSYSCTL.EVQ_STATUS.COUNT.addr || f.addr == (R.LOFTC.BELL.BELL .met).addr ||
    f.addr == (R.LOFTC.STATS.FREE_MIN .met).addr

/-! ### MET -/

/-- What METVIEW shows of the MET registers while MET is On (Table MET-6), FRESH aside. -/
def State.metviewLive (s : State) : List (Fld × Nat) :=
  [(R.METVIEW.MSTATE.MSTATE, b2n (s.power.met.st == .on) + 2 * b2n (s.power.met.st == .retained) +
      4 * s.rd R.MPWR.MCTL.RUN + 8 * s.rd R.MPWR.MCTL.KEEP + 16 * s.rd R.MPWR.MCTL.SERVICE),
    (R.METVIEW.MRST.MRST, s.regWord 0x48001020 % 0x10000),
    (R.METVIEW.IMAGE.ACTIVE, s.rd R.MLOFTC.IMG_META.ACTIVE), (R.METVIEW.IMAGE.NONE, s.rd R.MLOFTC.IMG_META.NONE),
    (R.METVIEW.IMAGE.ROLLBACK, s.rd R.MLOFTC.IMG_META.ROLLBACK), (R.METVIEW.IMAGE.ARB2, s.arb 2),
    (R.METVIEW.VERSION.VERSION, s.rd R.MLOFTC.IMG_VER.VALUE), (R.METVIEW.GEN.GEN, s.rd R.MLOFTC.IMG_GEN.VALUE),
    (R.METVIEW.TAG4.TAG4, s.rd R.MLOFTC.IMG_TAG.VALUE), (R.METVIEW.PUB.PUB 0, s.rd (R.MLOFTC.PUB.PUB 0)),
    (R.METVIEW.PUB.PUB 1, s.rd (R.MLOFTC.PUB.PUB 1))]

/-- METVIEW keeps its last values when MET leaves On (R289). -/
def State.freezeMetview (s : State) : State :=
  if s.power.met.st == .on then s.metviewLive.foldl (fun a p => a.wr p.1 p.2) s else s

/-- The MET blocks at their reset values, whatever ran in them ended (R321, R337, R363, R384, R727); `dark` where power
goes with the reset. -/
def State.resetMetBlocks (s : State) (dark : Bool) : State :=
  let s1 := (((s.cutFlash .met dark).loseSequences .met).orphanBurns .met).resetWindows keptAtMet metWindows
  let s2 : State :=
    { s1 with
      madcRun := none, madcQueue := [], flow := State.reset.flow, seqr := State.reset.seqr, mxoFrozen := []
      activeWritten := false
      supply := { s1.supply with due := none }
      bridges := { s1.bridges with waiting := s1.bridges.waiting.filter (fun a => a.id < 0x10) }
      fabric := { s1.fabric with held := s1.fabric.held.filter (fun h => h.sd == .app) }
      mrom := { s1.mrom with cursor := none, journal := false, noImage := false, wdtSet := false, imgSet := [] } }
  s2.rebuildCache .met

/-- MET goes Off: its blocks and MSRAM lose their content (R727). -/
def State.metOff (s : State) : State := ((s.freezeMetview.resetMetBlocks true).clear (R.PWR.PACE_STATUS.UNDER .met)).loseMsram

/-! ### LOFT -/

/-- The LOFT domain goes Off: every slot FREE, content undefined, STATS and both BELL registers reset (R105, R299). -/
def State.loftOff (s : State) : State :=
  let s1 : State := { s with slots := State.reset.slots }
  let s2 := forEach 32 (fun n a => a.loseSlot n) s1
  ((s2.resetReg (R.LOFTC.BELL.BELL .app).addr).resetReg (R.LOFTC.BELL.BELL .met).addr).resetReg
    (R.LOFTC.STATS.FREE_MIN .app).addr |>.resetReg (R.LOFTC.STATS.FREE_MIN .met).addr

/-! ### RF -/

/-- RF leaves On (R397, R64): HFXO stops, and a pulse that is pending is delivered. -/
def State.rfLeaves (s : State) : State :=
  let s1 := s.hfxoStops
  { s1 with bridges := { s1.bridges with pulses := s1.bridges.pulses.filter (fun n => !isRfBridge n) } }

/-- RF goes Off: the RX FIFO is lost with it. -/
def State.rfOff (s : State) : State := s.setLink { s.link with rx := [] }

/-! ### APP -/

/-- RING_WORDS in force (Table DMA-4). -/
def State.ringWords (s : State) : Nat := max 64 (min 8192 (s.rd R.DMA.RING_WORDS.WORDS))

/-- Whether a word of the committed ring lies in a bank that is not retained (R626). -/
def State.ringUnretained (s : State) : Bool :=
  let a := s.rd R.DMA.RING_BASE.ADDR
  let n := s.ringWords
  (List.range 4).any (fun b =>
    !s.rdBit R.PWR.REST.RET_BANKS b && decide (a < 0x20000000 + 0x8000 * (b + 1)) && decide (0x20000000 + 0x8000 * b < a + 4 * n))

/-- Session slots 8 and 9 emptied (Table CMAC-1). -/
def State.loseSessions (s : State) : State := (s.emptyKey 8).emptyKey 9

/-- The wait counters of ARB cleared, with the forced requesters. -/
def State.clearWaits (s : State) : State :=
  let s1 := forEach 16 (fun n a => a.clear (R.ARB.WAITCNT.C n)) s
  { s1 with fabric := { s1.fabric with forced := [], raised := [], passed := [] } }

/-- APP leaves On: shadows, unretained banks, session keys, command sequences and wait counters are lost (R104, R171, R224,
R591), and the ring is checked (R626). -/
def State.appLeaves (s : State) : State :=
  let lost := s.ringUnretained
  let s1 := ((s.loseShadows appWindows).loseSequences .app).loseSessions.clearWaits
  let s2 := forEach 4 (fun n a => if a.rdBit R.PWR.REST.RET_BANKS n then a else a.loseBank n) s1
  { s2 with dma := { s2.dma with ringLost := s2.dma.ringLost || lost } }

/-- A ring whose content was lost is shown when APP is next On (R626). -/
def State.showRingLost (s : State) : State :=
  if s.dma.ringLost then
    ((((({ s with dma := { s.dma with ringLost := false } } : State).clear R.DMA.RING_WR.WR).clear R.DMA.RING_RD.RD).raise
      R.DMA.IRQ.RING_LOST)).log 0x040A []
  else s

/-! ### Entries (R112) -/

/-- Whether a fire in progress names a window of a list (R188). -/
def State.fireNames (s : State) (l : List Nat) : Bool :=
  match s.fabric.fires with
  | [] => false
  | j :: _ =>
    match j.groups with
    | [] => false
    | g :: _ =>
      l.any (fun b => bit (if j.applied then j.mask else s.rd (R.SYSCTL.COMMIT_GROUP.MASK g)) ((b - 0x40000000) / 0x1000))

/-- Whether a FIO pulse is in progress. -/
def State.pulsing (s : State) : Bool := s.ports.fio.any (fun p => p.pulse)

/-- Whether the data of a UART still waits to be sent (R635). -/
def State.uartSends (s : State) : Bool := s.ports.uarts.any (fun u => !u.tx.isEmpty || u.shifter.isSome)

/-- Whether the Loft would go Off with the side that leaves On: its other side is not On, and KEEP holds it no longer. -/
def State.loftFalls (s : State) (other : Dom) : Bool :=
  (s.dom other).st != .on && !(s.flag R.MPWR.MCTL.KEEP && !s.power.frozen)

/-- Whether LINK holds a slot, which keeps the Loft from going Off (R26). -/
def State.linkHolds (s : State) : Bool := s.slots.any (fun x => x.owner == ownLink)

/-- Whether a handshake of the domain's own blocks is open, as far as the state tells (R112, R64, R26, R188, R239, R321,
R337, R591, R630, R635). -/
def State.blocksBusy (s : State) (d : Dom) : Bool :=
  match d with
  | .app =>
    (List.range 8).any (fun n => s.rd (R.DMA.STAT.STATE n) == 2) || !s.cmac.background.isEmpty || !s.cmac.urgent.isEmpty ||
      s.appFlash.isSome || s.fireNames appWindows || s.copy.isSome || s.pulsing || s.uartSends ||
      s.bridges.waiting.any (fun a => decide (a.id < 0x10)) || s.fabric.held.any (fun h => h.sd == .app) ||
      !s.fabric.units.isEmpty || s.fabric.writes.any (fun w => w.sd == .app) ||
      s.burns.any (fun b => b.sd == .app && b.req != 15) || s.protEntry.isSome || !s.update.due.isEmpty ||
      (s.linkHolds && s.loftFalls .met)
  | .met =>
    s.madcRun.isSome || !s.madcQueue.isEmpty || s.flow.cfg.isSome || s.metFlash.isSome ||
      s.bridges.waiting.any (fun a => decide (a.id ≥ 0x10)) || s.fabric.held.any (fun h => h.sd == .met) ||
      s.burns.any (fun b => b.sd == .met && b.req != 15) || (s.linkHolds && s.loftFalls .app)
  | .rf =>
    s.bridges.waiting.any (fun a => isRfBridge a.id) || s.bridges.pulses.contains 0x0D || s.fireNames rfWindows
  | .loft => s.linkHolds || s.copy.isSome

/-- An entry that is held (R112). -/
def State.holdEntry (s : State) (d : Dom) : State := (s.setDom d { s.dom d with held := true }).updateMode

/-- What a domain loses as it enters Retained or Off; a rail that is not powered holds nothing (R61). -/
def State.leaveOn (s : State) (d : Dom) (t : DomState) : State :=
  match d with
  | .app => s.appLeaves.clear (R.PWR.PACE_STATUS.UNDER .app)
  | .met => if t == .off then s.metOff else ((s.freezeMetview.loseShadows metWindows).loseSequences .met).clear (R.PWR.PACE_STATUS.UNDER .met)
  | .rf => (if t == .off then s.rfOff else s).rfLeaves.loseShadows rfWindows
  | .loft => if t == .off then s.loftOff else s

/-- What a Retained domain loses as it goes Off. -/
def State.leaveRetained (s : State) (d : Dom) : State :=
  match d with
  | .app => s
  | .met => s.metOff
  | .rf => s.rfOff
  | .loft => s.loftOff

/-- An entry begins: the domain leaves its state, the hold of the entry is over, and out of another mode than HIBERNATE
and WATCH the limits of R44 are. -/
def State.beginEntry (s : State) (d : Dom) (t : DomState) : State :=
  let s1 := if (s.dom d).st == .on then s.leaveOn d t else s.leaveRetained d
  let s2 := if s.restMode then s1 else (s1.freeBias .app).freeBias .met
  (s2.setDom d { s2.dom d with st := t, entering := some t, latched := [], held := false, heldLogged := false }).updateMode

/-- Whether MET holds off SHIP (R14, R125): it is On, on its way there, or asked to run. -/
def State.metHolds (s : State) : Bool :=
  s.variant != .c && (s.power.met.st == .on || s.power.met.exiting || s.flag R.MPWR.MCTL.RUN)

/-- SHIP may be entered (R112, R125, R26, R130): MET holds it off no longer, no slot is LINK's, no frame waits, nothing is
busy. -/
def State.shipReady (s : State) (idle : Bool) : Bool :=
  idle && !s.metHolds && !s.blocksBusy .app && !s.blocksBusy .met && !s.blocksBusy .rf && !s.blocksBusy .loft &&
    !s.power.frameWait && !s.power.exchange && !s.power.app.exiting && s.power.app.entering.isNone

/-! ### What POR and SHIP leave -/

/-- The burn that power loss cuts leaves its pair in one of three states, which the spec leaves open (R253). -/
def State.cutBurns (s : State) : State :=
  if s.burns.isEmpty then s
  else
    let x := s.fresh
    let s1 := if x.1 % 3 = 0 then x.2 else x.2.burnDone (x.1 % 3 = 1)
    { s1 with burns := [] }

/-- Every memory that power loss empties, lost (R114, R197). -/
def State.loseMemories (s : State) : State :=
  let s1 := (forEach 4 (fun n a => a.loseBank n) s).loseRetention.loseMsram
  forEach 32 (fun n a => a.loseSlot n) s1

/-- The domains without power. -/
def unpowered : Power :=
  { State.reset.power with
    app := { State.reset.power.app with st := .off }, met := { State.reset.power.met with exiting := false }
    loft := { State.reset.power.loft with st := .off }, acoreRuns := false }

/-- The whole part without power, or held by POR: only fuses, flash and ROM keep what they hold (Table START-1); an apply
that runs stops (R675). -/
def State.powerLost (s : State) : State :=
  let s1 := ((s.stopApply.cutFlash .app true).cutFlash .met true).cutBurns.loseMemories
  { State.reset with
    variant := s1.variant, mem := s1.mem, epochs := s1.epochs, freeCtr := s1.freeCtr, otp := s1.otp
    flashMarks := s1.flashMarks, flashHeaders := s1.flashHeaders
    update := { State.reset.update with staged := s1.update.staged }
    power := unpowered, pending := s1.pending }

/-- SHIP entered (R114): every domain loses power, AON included. -/
def State.enterShip (s : State) : State :=
  let s1 := s.powerLost
  ({ s1 with power := { s1.power with ship := true } } : State).wr R.PWR.MODE_STATUS.EFFECTIVE 0

/-- The entry to SHIP begins, with APP (R100, R125). -/
def State.beginShip (s : State) : State :=
  ({ s with power := { s.power with shipAccepted := false, shipping := true } } : State).beginEntry .app .off

/-- The entry to SHIP ends: a wake latched in it is replayed as an exit, which runs the POR sequence (R114, R125). -/
def State.endShipEntry (s : State) : State :=
  if s.power.app.latched.isEmpty then s.enterShip
  else
    let s1 := s.powerLost
    { s1 with power := { s1.power with shipExit := true }, resetHold := 1 }

/-- An accepted request whose conditions no longer hold is refused (R125). -/
def State.shipWithdrawn (s : State) : Bool :=
  s.power.shipAccepted && !s.flag R.MPWR.MCTL.SHIP_OK && s.variant != .c

/-- DOMAIN_ENTRY (R112): `idle` says whether every requester of the domain has its handshakes idle, beside what the state
tells.  An accepted SHIP request is entered with APP. -/
def execDomainEntry (d : Dom) (idle : Bool) (s : State) : Host.Outcome State Fault Refusal :=
  if s.awake = false then .next s
  else if d = .app ∧ s.shipWithdrawn = true then .next s.refuseShip
  else if d = .app ∧ s.power.shipAccepted = true then .next (if s.shipReady idle then s.beginShip else s.holdEntry .app)
  else
    let p := s.dom d
    let t := s.demanded d
    if p.entering.isSome || p.exiting || t == .on || p.st == .off || p.st == t then .next s
    else if p.st == .on && (!idle || s.blocksBusy d) then .next (s.holdEntry d)
    else if d = .loft ∧ s.blocksBusy .loft = true then .next (s.holdEntry .loft)
    else .next (s.beginEntry d t)

/-- ENTRY_HELD (R112): one entry has been held for more than 1 s. -/
def execEntryHeld (d : Dom) (s : State) : Host.Outcome State Fault Refusal :=
  if (s.dom d).held && !(s.dom d).heldLogged then
    .next ((s.setDom d { s.dom d with heldLogged := true }).log 0x0123 [])
  else .next s

/-- The side of a domain with a wake list. -/
def domSide (d : Dom) : Option Side :=
  match d with
  | .app => some .app
  | .met => some .met
  | .rf => none
  | .loft => none

/-- The bias at the end of an entry to Retained, where the mode it leads to has the loop act (R42, R62, R724). -/
def State.entryBias (s : State) (d : Dom) (t : DomState) (asked : Nat) : State :=
  match domSide d with
  | none => s
  | some sd => if t == .retained && (s.effectiveMode == 1 || s.effectiveMode == 2) then s.enterBias sd asked else s

/-- The replay shown on the side of a domain (R116). -/
def State.showReplay (s : State) (d : Dom) (latched : List Nat) : State :=
  match domSide d with
  | none => s
  | some sd => if latched.isEmpty then s else s.raise (R.PWR.WAKE_CAUSE.REPLAY sd)

/-- ENTRY_COMPLETE (R113, R116, R124, R724): the bias stands at the level asked for, EFFECTIVE is recomputed, and events
latched meanwhile are replayed as an immediate exit. -/
def execEntryComplete (d : Dom) (asked : Nat) (s : State) : Host.Outcome State Fault Refusal :=
  let p := s.dom d
  match p.entering with
  | none => .next s
  | some t =>
    if s.power.shipping ∧ d = .app then .next s.endShipEntry
    else
      let s1 := (s.setDom d { p with entering := none, latched := [] }).entryBias d t asked
      let s2 := (s1.showReplay d p.latched).modeComplete
      .next (if s2.demanded d == DomState.on then (s2.startExit d).showDomains else s2)

/-! ### Exits (R113) -/

/-- The Loft is powered with APP and with MET. -/
def State.loftOn (s : State) : State :=
  s.setDom .loft { s.dom .loft with st := .on, entering := none, exiting := false }

/-- The ROM loader that slept repeats the choice of R147 at a wake (R149). -/
def State.wakeLoader (s : State) : State :=
  if s.boot.sleeping && s.acoreExecuting then s.chooseTwin else s

/-- The low byte of a reset-cause record. -/
def State.recordByte (s : State) (sd : Side) : Nat := s.regWord (sd.pick 0x40002000 0x48001020) % 256

/-- RESET_START of a side (R132). -/
def State.logStart (s : State) (sd : Side) : State := s.logSide sd 0x0130 [s.recordByte sd]

/-- ACORE released into the boot ROM (steps 11, 12 and 14; R106). -/
def State.startAcore (s : State) : State :=
  let s1 : State := { s with power := { s.power with acoreRuns := true, acoreWfi := false } }
  (s1.logStart .app).chooseTwin

/-- APP is On again: bias removed, ports and ring resumed, ACORE at the instruction after its WFI with its watchdog
reloaded (R136), or in the boot ROM after L5 (R106). -/
def State.appResumes (s : State) : State :=
  let s1 := ((s.removeBias .app).loftOn.rebuildCache .app).showRingLost.portsResume
  let s2 : State := { s1 with power := { s1.power with acoreWfi := s1.power.acoreWfi && !s1.power.acoreRuns } }
  if s2.boot.restart && s2.acoreExecuting then s2.startAcore
  else (if s2.acoreExecuting then s2.feedApp else s2).wakeLoader

/-- MET is On again with its headers read (R218): from Off MCORE starts in MROM (R151), which is logged (R132), from
Retained it resumes. -/
def State.metResumes (s : State) (wasOff : Bool) (ops : List Nat) : State :=
  let s1 := ((s.removeBias .met).loftOn).rebuildCache .met
  let s2 : State := { s1 with power := { s1.power with mcoreWfi := false } }
  if wasOff then (s2.logStart .met).mromStart ops else if s2.mcoreExecuting then s2.feedMet else s2

/-- RF is On with HFXO stable, and what waited for it goes on (R394). -/
def State.rfResumes (s : State) : State :=
  ((s.raise R.PWR.MODE_STATUS.RF_READY).raise (R.BRIDGE.CLKSTAT.HFXO_RUN .app)).radioReady.syncLink

/-- EXIT_COMPLETE (R113): `ops` says how the flash operations of an MROM start end. -/
def execExitComplete (d : Dom) (ops : List Nat) (s : State) : Host.Outcome State Fault Refusal :=
  let p := s.dom d
  if !p.exiting || !s.awake || (d == .met && s.variant == .c) then .next s
  else
    let s1 := s.setDom d { p with st := .on, exiting := false }
    match d with
    | .app => .next s1.appResumes.modeComplete
    | .met => .next (s1.metResumes (p.st == .off) ops).modeComplete
    | .rf => .next s1.rfResumes.modeComplete
    | .loft => .next s1.modeComplete

/-! ### Wake events -/

/-- The causes that arrive in one tick, towards one side; a cause whose source cannot raise it does not arrive. -/
def State.wakes (s : State) (sd : Side) (causes : List Nat) : State :=
  ((causesInOrder causes).filter s.causeArises).foldl (fun a c => a.wake sd c) s

/-- WAKE_EVENT; under a reset the wake latch is in reset (R133, Table START-1). -/
def execWakeEvent (sd : Side) (causes : List Nat) (s : State) : Host.Outcome State Fault Refusal :=
  if s.resetHold ≠ 0 then .next s else .next (s.wakes sd causes).wakeLoader

end Sys2Proof.Machine
end

