-- ==== Sys2Proof/Machine/Supply.lean ====
section
/-! DEFINITION. Supply, reservoir charger and the shedding ladder (ch. 03), and the voters (ch. 06) that each supply sample
checks. -/

namespace Sys2Proof.Machine

open Sys2Proof

/-! ### The charger (R71 to R73) -/

/-- Whether an attempt waits for admission. -/
def State.awaitsEnergy (s : State) : Bool :=
  (s.link.att.toList ++ s.link.yielded.toList).any (fun a => a.phase.waits)

/-- Whether the charger may start: HOLD 50 mV below V_TOP, DEMAND while a frame waits (R72). -/
def State.mayCharge (s : State) (vres vbat : Nat) : Bool :=
  s.variant != .c && s.flag R.PWR.RES_CTRL.CHG_EN && !s.flag R.PWR.RES_STATUS.CHARGING &&
    (if s.flag R.PWR.RES_CTRL.CHG_MODE then s.awaitsEnergy && decide (vres < s.vTop vbat)
     else decide (vres + 50 ≤ s.vTop vbat))

/-- CHARGER_RESTART (R72). -/
def execChargerRestart (vres vbat : Nat) (s : State) : Host.Outcome State Fault Refusal :=
  if s.awake && s.mayCharge vres vbat then .next ((s.measureReservoir vres vbat).raise R.PWR.RES_STATUS.CHARGING) else .next s

/-- CHARGER_STOP (R71): VRES has reached V_TOP. -/
def execChargerStop (vres vbat : Nat) (s : State) : Host.Outcome State Fault Refusal :=
  if s.awake && s.flag R.PWR.RES_STATUS.CHARGING && decide (s.vTop vbat ≤ vres) then
    .next ((s.measureReservoir vres vbat).clear R.PWR.RES_STATUS.CHARGING)
  else .next s

/-- VRES_MEASUREMENT (R77, Table SUP-8). -/
def execVresMeasurement (vres vbat : Nat) (temp : Int) (s : State) : Host.Outcome State Fault Refusal :=
  if s.awake then .next ((s.measureReservoir vres vbat).retryEnergy vres vbat temp) else .next s

/-- A commit of RES_CTRL or RES_CAP (R72, R73, R90): the charger stops where it may no longer run, and a waiting attempt is
judged again. -/
def State.reserveCommitted (s : State) : State :=
  let vres := s.rd R.PWR.RES_STATUS.VRES_MV
  let stop := !s.flag R.PWR.RES_CTRL.CHG_EN || decide (s.vTop s.supply.vbat ≤ vres)
  let s1 := if stop then s.clear R.PWR.RES_STATUS.CHARGING else s
  (s1.measureReservoir vres s1.supply.vbat).reservoirCommitted vres s1.supply.vbat

/-! ### V_comp (R80) -/

/-- I_est in steps of 0.25 mA: charger, receiver chain, core rails, flash. -/
def State.loadCurrent (s : State) : Nat :=
  (if s.flag R.PWR.RES_STATUS.CHARGING then s.rd R.PWR.RES_CTRL.ICHG + 1 else 0) +
    (if s.power.rf.st == .on || s.power.rf.exiting then 20 else 0) +
    (if s.power.app.st == .on || s.power.met.st == .on then 4 else 0) +
    (if s.appFlash.isSome || s.metFlash.isSome then 6 else 0)

/-- V_comp in mV; the spec does not state the rounding of a part of a millivolt. -/
def State.vComp (s : State) (vmeas : Nat) : Nat := vmeas + (openDiv 12 (s.loadCurrent * s.cellRsrc : Nat) 16).toNat

/-! ### The ladder (R81 to R85) -/

/-- Causes 0xC towards both sides. -/
def State.wakeLadder (s : State) : State := s.wakeBoth 0xC

/-- A slot that DICT owns FREE. -/
def State.dictFrees (s : State) (n : Nat) : State := if (s.slot n).owner = ownDict then s.freeSlot n else s

/-- The request DICT serves discarded without a response, with the watch list and its locks (R93, R551): a slot given out
is not awaited any more, and the slot of a local request is FREE. -/
def State.dropDict (s : State) : State :=
  let slotOfReq (a : State) (r : List Nat) : State :=
    match r with
    | [x] => a.dictFrees (x - 0x100)
    | _ => a
  let s1 := s.requests.foldl slotOfReq s
  let s2 : State := match s1.dict.job with
    | none => s1
    | some j =>
      let a := match j.slot with
        | none => s1
        | some n => s1.dictFrees n
      { a with dict := { a.dict with stale := a.dict.stale ++ j.call.toList } }
  let s3 := s2.dict.locks.foldl (fun a b => a.clear (R.CFG_COMMIT.LOCKED b)) s2
  let s4 : State := { s3 with requests := [], dict := { s3.dict with job := none, watch := [], locks := [], fired := none, rfHold := false } }
  ((s4.clear R.DICT.STATUS.STATE).clear R.DICT.STATUS.WATCHED).clear R.SYSCTL.COMMIT_STATUS.DICT_LOCK |>.showFill

/-- The actions of L5 (R83, R93, R101, R106, R128, R675). -/
def State.enterL5 (s : State) : State :=
  let s1 := if s.inService then s.endService 2 else s
  let s2 : State := { s1 with power := { s1.power with acoreRuns := false, acoreHeld := true, acoreWfi := false } }
  (s2.clear R.PWR.DOMAIN_REQ.RF_HOLD).dropDict.stopApply.loseSheaf

/-- RF loses power at once. -/
def State.dropRf (s : State) : State :=
  let s1 := if s.power.rf.st == .off then s else s.rfLeaves.rfOff
  s1.setDom .rf { s1.dom .rf with st := .off, entering := none, exiting := false, latched := [] }

/-- The wake line of L7 to MET, which a BST420C does not have (R3). -/
def State.wakeFreeze (s : State) : State := if s.variant == .c then s else (s.wake .met 0xF).startExit .met

/-- A SHIP request that was accepted before L7 and is still held: the spec does not say whether it proceeds from the locked
HIBERNATE, in which R126 refuses every request; the model refuses it (DESIGN CHOICE, log entry 138). -/
def State.dropShip (s : State) : State := if s.power.shipAccepted then s.refuseShip else s

/-- L7 (R85, Table SUP-5): LOCK7, the transmission aborted, RF without power, the wake line to MET. -/
def State.enterL7 (s : State) (onAir : Nat) : State :=
  let s1 := ((s.raise R.PWR.LADDER.LOCK7).log 0x0102 []).linkLadder onAir
  let s2 := s1.dropRf.dropShip
  ({ s2 with power := { s2.power with freezeWait := true } } : State).wakeFreeze.updateMode

/-- The level set, with the deepest level since POR. -/
def State.setLevel (s : State) (n : Nat) : State :=
  (s.wr R.PWR.LADDER.LEVEL n).wr R.PWR.LADDER.LEVEL_MAX (max (s.rd R.PWR.LADDER.LEVEL_MAX) n)

/-- The DATA of a ladder event (Table CAT-13). -/
def ladderData (n vcomp : Nat) : List Nat := [n, 0] ++ leBytes 2 vcomp

/-- One level entered on the way down. -/
def State.enterLevel (s : State) (vcomp n : Nat) : State :=
  let s1 := (s.setLevel n).log 0x0100 (ladderData n vcomp)
  if n = 5 then s1.enterL5
  else if n = 6 then ({ s1 with power := { s1.power with stretch := 0 } } : State).lcdFollow
  else s1

/-- The levels from the present one down to `n` entered in order, and what follows from the new level (R81, R83); the
wake on the level change is from the mode that was effective when the level changed (Table MODE-13, FROM). -/
def State.ladderDown (s : State) (n vcomp onAir : Nat) : State :=
  let s1 := ((List.range n).filter (fun i => decide (s.level ≤ i))).foldl (fun a i => a.enterLevel vcomp (i + 1)) s
  let s2 := ((s1.linkLadder onAir).wr R.PWR.MODE_STATUS.EFFECTIVE (s.rd R.PWR.MODE_STATUS.EFFECTIVE)).wakeLadder
  (if n = 7 then s2.enterL7 onAir else s2).updateMode

/-- L5 left (R106): ACORE starts from the boot ROM, as soon as APP is On. -/
def State.leaveL5 (s : State) : State :=
  let s1 : State :=
    { s with
      power := { s.power with acoreHeld := false, acoreRuns := true, acoreWfi := false }
      boot := { s.boot with restart := true } }
  let s2 := s1.raise R.PWR.MODE_STATUS.L5_RESTART
  if s2.acoreExecuting then s2.startAcore else s2.startExit .app

/-- The level rises by one (R82). -/
def State.ladderUp (s : State) (vcomp onAir : Nat) : State :=
  let n := s.level - 1
  let s1 := (s.setLevel n).log 0x0101 (ladderData n vcomp)
  let s2 := if n = 4 then s1.leaveL5 else if n = 5 then s1.lcdFollow else s1
  let s3 := (s2.linkLadder onAir).wakeLadder.updateMode
  if n = 1 then s3.autoApply else s3

/-- The runs after a sample: consecutive samples below each threshold, and 60 mV above that of the present level. -/
def State.countRuns (s : State) (vcomp : Nat) : State :=
  let below := (List.range 7).map (fun i =>
    if vcomp < s.threshold (i + 1) then min 3 (s.supply.below.getD i 0 + 1) else 0)
  let above := decide (1 ≤ s.level) && decide (s.level ≤ 6) && decide (s.threshold s.level + 60 ≤ vcomp)
  { s with supply := { s.supply with below := below, up := if above then s.supply.up + 1 else 0 } }

/-- The deepest level whose threshold three consecutive samples lie below; 0 for none. -/
def State.deepest (s : State) : Nat :=
  (List.range 7).foldl (fun d i => if s.supply.below.getD i 0 ≥ 3 then i + 1 else d) 0

/-- The level after a sample (R81, R82): L7 is not left. -/
def State.moveLadder (s : State) (vcomp onAir : Nat) : State :=
  let s1 := s.countRuns vcomp
  let fresh (a : State) : State := { a with supply := { a.supply with up := 0 } }
  if s1.level = 7 then s1
  else if s1.level < s1.deepest then fresh (s1.ladderDown s1.deepest vcomp onAir)
  else if s1.supply.up ≥ 60 then fresh (s1.ladderUp vcomp onAir)
  else s1

/-- Whether the supply monitor samples: in every mode but SHIP, on TOSC or on LFXO; with neither the level holds (R92). -/
def State.samples (s : State) : Bool :=
  s.awake && !s.power.shipping && (!s.bridges.fallback || s.flag (R.BRIDGE.CLKSTAT.LFXO_RUN .app))

/-- A sample of the supply monitor (R80 to R84, R182): the voted fields, of which `upsets` have met copies, are checked, and
VBAT is measured.  A V_comp above what the 12 bits of VBAT_COMP hold reads as 4,095 (DESIGN CHOICE, log entry 139); the
ladder takes V_comp as it is. -/
def State.supplySample (s : State) (vmeas : Nat) (upsets : List Upset) (onAir : Nat) : State :=
  let s1 := (s.strikes upsets).checkVoted
  let v := s1.vComp vmeas
  (s1.wr R.PWR.LADDER.VBAT_COMP (min 4095 v)).moveLadder v onAir

/-- A sample falls due: an energy check in progress makes it wait for the check's end (R367). -/
def State.sampleDue (s : State) (m : MonitorSample) : State :=
  if s.flag R.MPWR.ECHK.BUSY then { s with supply := { s.supply with due := some m } }
  else s.supplySample m.vmeas m.upsets m.onAir

/-- The sample that waited for the end of the energy check is taken (R367). -/
def State.waitingSample (s : State) : State :=
  match s.supply.due with
  | none => s
  | some m =>
    let s1 : State := { s with supply := { s.supply with due := none } }
    if s1.samples then s1.supplySample m.vmeas m.upsets m.onAir else s1

/-- MET power removed and HIBERNATE locked (Table SUP-5 steps 5 and 6). -/
def State.freezeMet (s : State) : State :=
  let s1 := if s.power.met.st == .off then s else s.metOff
  let s2 := s1.setDom .met { s1.dom .met with st := .off, entering := none, exiting := false, latched := [] }
  ({ s2 with power := { s2.power with freezeWait := false, frozen := true } } : State).modeComplete

/-- FREEZE_DONE (R85): legal firmware writes MCTL.FREEZE_DONE. -/
def execFreezeDone (s : State) : Host.Outcome State Fault Refusal :=
  if s.metRuns = false then .next s
  else
    let s1 := s.raise R.MPWR.MCTL.FREEZE_DONE
    .next (if s1.power.freezeWait then s1.freezeMet else s1)

/-- FREEZE_TIMEOUT (R85): 200 ms after the L7 wake. -/
def execFreezeTimeout (s : State) : Host.Outcome State Fault Refusal :=
  if s.power.freezeWait then .next s.freezeMet else .next s

end Sys2Proof.Machine
end

