-- ==== Sys2Proof/Machine/Start.lean ====
section
/-! DEFINITION. Start-up and reset (ch. 05): the option area, the start sequence after POR and NRESET, resets of APP and MET
scope, the watchdogs, and the loss and return of the oscillators. -/

namespace Sys2Proof.Machine

open Sys2Proof

/-! ### The option area (R141 to R145) -/

/-- The option area. -/
def optBase : Nat := 0x1FF000

/-- What a pass reads at a double word: the flash content, or what the command gives for a read that is disturbed; none
where the read is uncorrectable (R141). -/
def State.passReads (s : State) (l : List PassRead) (pass i : Nat) : Option Nat :=
  match l.find? (fun r => r.pass == pass && r.dword == i) with
  | some r => r.value.map (fun v => v % 2 ^ 64)
  | none => if s.eccOf (optBase + 8 * i) = 2 then none else some (leNat (s.bytes (optBase + 8 * i) 8))

/-- The value on which two of three reads agree. -/
def agreed : Option Nat → Option Nat → Option Nat → Option Nat
  | some a, some b, c => if a = b ∨ some a = c then some a else if some b = c then some b else none
  | some a, none, some c => if a = c then some a else none
  | none, some b, some c => if b = c then some b else none
  | _, _, _ => none

/-- A double word of the area as voted, and whether a pass disagrees with its majority (R141). -/
def State.votedDword (s : State) (l : List PassRead) (i : Nat) : Option Nat × Bool :=
  let r := [s.passReads l 0 i, s.passReads l 1 i, s.passReads l 2 i]
  let v := agreed (s.passReads l 0 i) (s.passReads l 1 i) (s.passReads l 2 i)
  (v, v.isSome && r.any (fun x => x != v))

/-- The double words of the area as voted. -/
def State.votedArea (s : State) (l : List PassRead) : List (Option Nat × Bool) := (List.range 512).map (s.votedDword l)

/-- The bytes of the voted area: those of a double word without a majority are free (DESIGN CHOICE, log entry 140). -/
def State.areaBytes (s : State) : List (Option Nat × Bool) → List Nat × State
  | [] => ([], s)
  | (some v, _) :: r => (leBytes 8 v ++ (s.areaBytes r).1, (s.areaBytes r).2)
  | (none, _) :: r =>
    (leBytes 8 s.fresh.1 ++ (s.fresh.2.areaBytes r).1, (s.fresh.2.areaBytes r).2)

/-- The CRC-32 of bytes 0x000 to 0x0FF7 (R144). -/
def optCrc (b : List Nat) : Nat := crcRight 0xEDB88320 0xFFFFFFFF (b.take 0xFF8) ^^^ 0xFFFFFFFF

/-- A field of the area with its bounds: offset, size and whether a value is within them (Table START-5). -/
def optBounds : List (Nat × Nat × (Nat → Bool)) :=
  (List.range 6).map (fun i =>
    (0x10 + i, 1, fun v => decide ((ladderBounds.getD i (0, 0)).1 ≤ v) && decide (v ≤ (ladderBounds.getD i (0, 0)).2))) ++
  [(0x10, 6, fun v => ladderSpaced (leBytes 6 v)), (0x1A, 2, fun v => decide (v ≤ 1439)), (0x1C, 1, fun v => decide (2 ≤ v) && decide (v ≤ 8)),
    (0x1D, 1, fun v => decide (5 ≤ v) && decide (v ≤ 240)), (0x1E, 1, fun v => decide (v ≤ 2)),
    (0x1F, 1, fun v => v == 0 || decide (4 ≤ v)),
    (0x20, 2, fun v => decide (-2000 ≤ sInt 16 v) && decide (sInt 16 v ≤ 2000)),
    (0x22, 1, fun v => decide (v ≤ 50)), (0x23, 1, fun v => decide (20 ≤ v) && decide (v ≤ 50)),
    (0x24, 1, fun v => decide (v ≤ 1)), (0x25, 1, fun v => decide (v ≤ 63)),
    (0x48, 2, fun v => decide (16 ≤ v) && decide (v ≤ 4095)), (0x60, 2, fun v => decide (v ≤ 0x1FF))] ++
  (List.range 4).map (fun i =>
    (0x80 + 8 * i, 8, fun v => v == 2 ^ 64 - 1 || axoValid (v % 2 ^ 32, v / 2 ^ 32)))

/-- The offset of the first field of the shadows that is out of bounds. -/
def State.optFieldBad (s : State) : Option Nat :=
  (optBounds.find? (fun f => !f.2.2 (s.optRaw f.1 f.2.1))).map (fun f => f.1)

/-- The area failed: the defaults are in force (Table START-4). -/
def State.optInvalid (s : State) (bad : Nat) : State :=
  ((s.raise R.AON.OPT_STATUS.INVALID).wr R.AON.OPT_STATUS.FIRST_BAD bad).log 0x0A21 (leBytes 2 bad)

/-- The outcome of Table START-4 for the area's bytes; `lost` is the first double word without a majority. -/
def State.judgeOption (s : State) (lost : Option Nat) (b : List Nat) : State :=
  match lost with
  | some i => s.optInvalid i
  | none =>
    if allOnes b then (s.raise R.AON.OPT_STATUS.BLANK).log 0x0A22 []
    else if leNat (b.take 2) ≠ 1 ∨ leNat (b.drop 0xFF8 |>.take 4) ≠ optCrc b then s.optInvalid 0x3FF
    else
      let s1 := s.raise R.AON.OPT_STATUS.VALID
      match s1.optFieldBad with
      | none => s1
      | some off =>
        ((s1.raise R.AON.OPT_STATUS.FIELD_BAD).wr R.AON.OPT_STATUS.FIRST_BAD (off / 8)).log 0x0A23 (leBytes 2 (off / 8))

/-- The ladder thresholds judged (R84). -/
def State.judgeLadder (s : State) : State :=
  let s1 := s.wrBool R.PWR.LADDER.CFG_DEFAULT (!s.ladderMoved)
  if s.flag R.AON.OPT_STATUS.VALID && !s.ladderMoved then s1.log 0x0106 [] else s1

/-- OPTION_AREA_READ (R141, R142): three passes, of which `l` gives the reads that are disturbed. -/
def State.readOption (s : State) (l : List PassRead) : State :=
  let area := s.votedArea l
  let fixed := (area.filter (fun d => d.2)).length
  let x := s.areaBytes area
  let s1 := (([R.AON.OPT_STATUS.VALID, R.AON.OPT_STATUS.BLANK, R.AON.OPT_STATUS.INVALID, R.AON.OPT_STATUS.FIELD_BAD].foldl
    State.clear x.2).wr R.AON.OPT_STATUS.FIRST_BAD 0x3FF).wr R.AON.OPT_STATUS.FIXED (min 255 fixed)
  let s2 := ({ s1 with opt := x.1.take 160 } : State).judgeOption (area.findIdx? (fun d => d.1.isNone)) x.1
  let s3 := if fixed = 0 then s2 else s2.log 0x0A20 []
  s3.judgeLadder.wrBool R.AON.WDT.EN (s3.awdtPeriod != 0)

/-! ### OTP and seal fuses (R147, R150, R248, R267, R271) -/

/-- The split pairs of the counters, each logged at the start that reads it. -/
def State.logSplits (s : State) : State :=
  s.otp.splits.foldl (fun a p => (a.raise R.FLASHC.ARB_STATUS.SPLIT).logArb p.1 0x0750 [p.1, p.2]) s

/-- The split seal pairs. -/
def State.logSealSplits (s : State) : State :=
  forEach 8 (fun k a =>
    let b := if a.otp.sealS.getD k 0 = 1 then a.logMet 0x0750 [3, 2 * k] else a
    if b.otp.sealB.getD k 0 = 1 then b.logMet 0x0750 [3, 2 * k + 1] else b) s

/-- The seal fuses read (step 3); a burn that goes on through NRESET leaves the state it has changed at once (R269). -/
def State.readSeal (s : State) : State :=
  (if s.burns.any (fun b => b.item == 3) then s else s.sealFromFuses).logSealSplits

/-- SEAL_EXHAUSTED, once at each start (R271). -/
def State.sealExhausted (s : State) : State :=
  if s.rd R.MPWR.SEAL_STATUS.STATE = 2 ∧ s.sealRemain = 0 then s.logMet 0x0724 [] else s

/-- Step 9: OTP read: the root key into slot 0, the counters; a bad word leaves slot 0 empty (R150). -/
def State.readOtp (s : State) : State :=
  let s1 := (s.syncArb.wr R.AON.BOOT_STATUS.ARB0 (s.arb 0)).logSplits
  if s1.otp.bad then ((s1.emptyKey 0).raise R.AON.BOOT_STATUS.OTP_BAD).log 0x0713 []
  else (s1.putKey 0 1 (2 ^ attrPrf) false s1.otp.rootKey).clear R.AON.BOOT_STATUS.OTP_BAD

/-! ### The start sequence (R137, R138) -/

/-- The initial level: the deepest whose threshold all start samples lie below. -/
def State.startLevel (s : State) (comps : List Nat) : Nat :=
  (List.range 7).foldl (fun d i => if comps.all (fun v => decide (v < s.threshold (i + 1))) then i + 1 else d) 0

/-- The levels entered at the start, each logged in order. -/
def State.startLadder (s : State) (comps : List Nat) : State :=
  let v := comps.getLastD 0
  let n := s.startLevel comps
  let s1 := s.wr R.PWR.LADDER.VBAT_COMP (min 4095 v)
  (List.range n).foldl (fun a i => (a.setLevel (i + 1)).log 0x0100 (ladderData (i + 1) v)) s1

/-- The start at L7: the domains that the sequence has powered lose it, and HIBERNATE is locked (R138, R197). -/
def State.startLocked (s : State) : State :=
  let s1 := ((s.raise R.PWR.LADDER.LOCK7).log 0x0102 []).appLeaves.metOff.loftOff
  { s1 with
    power :=
      { s1.power with
        app := { s1.power.app with st := .retained }, met := { s1.power.met with st := .off, exiting := false }
        loft := { s1.power.loft with st := .off }, acoreRuns := false, acoreHeld := true, frozen := true } }

/-- Step 11 by the initial level (R138): neither core starts at L7; ACORE stays in reset at L5 and L6. -/
def State.release (s : State) : State :=
  if s.level = 7 then s.startLocked
  else if s.level ≥ 5 then { s with power := { s.power with acoreRuns := false, acoreHeld := true } }
  else s.startAcore

/-- DUTY_CAP takes its reset value, the option value, which a value above the regulatory one replaces (Table LINK-8,
Table START-5). -/
def State.loadDutyCaps (s : State) : State :=
  forEach 8 (fun n a => (a.wr (R.LINK.DUTY_CAP.CAP n) (min (regulatory n) (a.dutyLimitRaw n))).ownCopies 4 n) s

/-- The duty window as POR loads it: USED starts at LIMIT (R449). -/
def State.fillDuty (s : State) : State :=
  s.setLink { s.link with duty := (List.range 8).map (fun n => (List.range 60).map (fun i =>
    (i + 1) * s.limitUs n / 60 - i * s.limitUs n / 60)) }

/-- The mirrors as an edge of the slow clock leaves them. -/
def State.refreshMirror (s : State) : State := { s with mirror := s.regs, metMirror := s.regs }

/-- The mirror of one side, as a READ_SYNC leaves it (R191). -/
def State.refreshSide (s : State) (sd : Side) : State :=
  match sd with
  | .app => { s with mirror := s.regs }
  | .met => { s with metMirror := s.regs }

/-- DUTY_USED of the sub-band that DUTY_SEL names: USED in ms rounded up, and LIMIT in 0.1 s (ch. 16). -/
def State.showDuty (s : State) : State :=
  let n := s.rd R.LINK.DUTY_SEL.SUB
  (s.wr R.LINK.DUTY_USED.USED ((s.usedUs n + 999) / 1000)).wr R.LINK.DUTY_USED.LIMIT (s.limitUs n / 100000)

/-- RF_M takes the fields of the RF windows. -/
def State.copyRf (s : State) : State := { s with rfMirror := s.regs }

/-- RSSI.NOW is live while the receiver is on, in a reception or in test mode 3: the level, which the environment sets, is
free, and reads at least 40 (R392). -/
def State.liveRssi (s : State) : State :=
  if s.rd R.RADIO.STATUS.STATE = 2 ∨ s.radio.test = 3 then s.fresh.2.wr R.RADIO.RSSI.NOW (max 40 (s.fresh.1 % 256)) else s

/-- A tick of the link engine (R50): the turn of the radio is over, an acknowledgement that was on air too, and RF_M takes
its values; no tick comes without HFXO. -/
def State.refreshRf (s : State) : State :=
  if s.rfReady && s.farClock 0x0B then
    (s.radioTurned.setLink { s.link with ackAir := none }).liveRssi.showDuty.copyRf
  else s

/-- Table START-3 from step 2 on, after POR where `por` says so: `vmeas` are the three start samples, `l` the disturbed
reads of the option area, and `early` the causes that arrive before step 11 and stay latched (R156). -/
def State.startSequence (s : State) (por : Bool) (vmeas : List Nat) (l : List PassRead) (early : List (Side × Nat)) : State :=
  let met := { State.reset.power.met with exiting := s.variant != .c }
  let s1 : State := { s with resetHold := 0, power := { State.reset.power with met := met } }
  let s2 := s1.readSeal.sealExhausted
  let s3 := ((s2.readOption l).readOtp).deriveClassKeys.loadDutyCaps
  let s4 := if por then s3.fillDuty else s3
  let s5 := s4.startLadder (vmeas.map s4.vComp)
  let s6 := (s5.rebuildCache .app).rebuildCache .met
  let s7 := early.foldl (fun a e => a.wakes e.1 [e.2]) s6
  let s8 := (s7.release.linkLadder 0).modeComplete.showDuty.refreshMirror.copyRf
  if s.power.shipExit then (s8.raise R.PWR.MODE_STATUS.FROM_SHIP).refreshMirror else s8

/-! ### POR, NRESET, SHIP and clock loss -/

/-- The pin NRESET is low, as the record then shows (R131). -/
def State.pinLow (s : State) : State := (s.raise R.AON.RST_CAUSE.NRESET).raise R.MPWR.RST_CAUSE.NRESET

/-- The part held in reset by POR; with NRESET low it stays in reset after POR has released (R154; DEDUCED, log entry
141). -/
def State.porState (s : State) : State :=
  if s.resetHold = 2 ∨ s.resetHold = 3 ∨ s.resetHold = 4 then ({ s.powerLost with resetHold := 3 } : State).pinLow
  else { s.powerLost with resetHold := 1 }

/-- POR_ASSERT (R86): VBAT has stayed below 2.05 V. -/
def execPorAssert (s : State) : Host.Outcome State Fault Refusal := .next s.porState

/-- POR releases: start-up from step 2, or from the release of NRESET where that is low. -/
def State.porReleased (s : State) (vmeas : List Nat) (l : List PassRead) (early : List (Side × Nat)) : State :=
  if s.resetHold = 1 then s.startSequence true vmeas l early
  else { s with resetHold := 4, power := { s.power with clockLoss := false } }

/-- POR_RELEASE (R86, R137). -/
def execPorRelease (vmeas : List Nat) (met : StartEnv) (s : State) : Host.Outcome State Fault Refusal :=
  if (s.resetHold = 1 ∨ s.resetHold = 3) ∧ s.power.clockLoss = false then .next (s.porReleased vmeas met.passes met.early) else .next s

/-- SHIP_WAKE (R111, R114): leaving SHIP runs the POR sequence. -/
def execShipWake (vmeas : List Nat) (met : StartEnv) (s : State) : Host.Outcome State Fault Refusal :=
  if s.power.ship then
    .next (({ s with power := { s.power with shipExit := true } } : State).startSequence true vmeas met.passes met.early)
  else .next s

/-- CLOCK_LOSS (R121): every domain held in reset as POR does. -/
def execClockLoss (s : State) : Host.Outcome State Fault Refusal :=
  if s.power.ship || s.resetHold == 1 || s.resetHold == 3 then .next s
  else
    let s1 := s.porState
    .next { s1 with power := { s1.power with clockLoss := true } }

/-- CLOCK_LOSS_RELEASE (R121, R132): start-up with cause POR and the clock-loss mark. -/
def execClockLossRelease (vmeas : List Nat) (met : StartEnv) (s : State) : Host.Outcome State Fault Refusal :=
  if s.power.clockLoss then
    .next (((s.raise R.AON.RST_CAUSE.CLKLOSS).raise R.MPWR.RST_CAUSE.CLKLOSS).porReleased vmeas met.passes met.early)
  else .next s

/-- The fields NRESET keeps (R133, R134, R727): RTC and TIME_UNSET, both reset-cause records, LEVEL_MAX, key slots and
frame counters, replay floors, password attempts, the system event log's registers, the voting registers, FIO counters and
flags, the clock state, and MPWR but for MCTL, WAKE_EN, WAKE_CAUSE, WDT, ECHK, and SW and SW_VALID of SEAL_STATUS (R268). -/
def keptAtNreset (f : Fld) : Bool :=
  let w := windowBase f.addr
  [R.AON.RST_CAUSE.POR.addr, R.AON.RTC_SEC.SEC.addr, R.AON.RTC_SUB.SUB.addr, R.DICT.FLOOR_STAT.UNSET.addr,
    R.SYSCTL.VOTE_FIX.COUNT.addr, R.SYSCTL.VOTE_STATUS.LOST.addr, R.SYSCTL.EVLOG_STAT.COUNT.addr,
    R.SYSCTL.EVLOG_HEAD.SEQ.addr, R.SYSCTL.EVLOG_SEL.POS.addr, R.CMACE.FCNT2.FC.addr, R.CMACE.FCNT5.FC.addr,
    R.GPIO.WAKE_EDGE.EDGE.addr, R.MSYSCTL.EVQ_STATUS.COUNT.addr, R.FIO.STATUS.LATCHED.addr].contains f.addr ||
  (List.range 5).any (fun n => f.addr == (R.DICT.FLOOR.FC n).addr) ||
  (List.range 6).any (fun n => f.addr == (R.SYSCTL.EVLOG_W.WORD n).addr) ||
  (List.range 4).any (fun n => f.addr == (R.FIO.CNT.CNT n).addr || f.addr == (R.FIO.THR.THR n).addr) ||
  [R.PWR.LADDER.LEVEL_MAX, R.FLASHC.PROT_STATUS.ATTEMPTS, R.FLASHC.PROT_STATUS.LOCKOUT, R.FLASHC.ARB_STATUS.BURN,
    R.BRIDGE.CLKSTAT.LFXO_RUN .app, R.BRIDGE.CLKSTAT.TOSC_OK .app, R.BRIDGE.CLKSTAT.TOSC_FAIL .app].contains f ||
  keySlotFields.contains f ||
  (w == 0x48001000 && !([R.MPWR.SEAL_STATUS.SW, R.MPWR.SEAL_STATUS.SW_VALID].contains f) &&
    !([R.MPWR.MCTL.RUN.addr, (R.PWR.WAKE_EN.EN .met).addr, (R.PWR.WAKE_CAUSE.C0 .met).addr, R.MPWR.WDT.PERIOD.addr,
      R.MPWR.ECHK.START.addr].contains f.addr))

/-- The keys of the fields NRESET keeps. -/
def nresetKeys : List Nat :=
  (([0x40000000, 0x40001000, 0x40002000, 0x40003000, 0x40006000, 0x40007000, 0x40010000, 0x40011000, 0x40012000, 0x48000000,
    0x48001000].flatMap windowFields).filter keptAtNreset).map Fld.key

/-- A transmission that NRESET cuts is charged for its carrier time, since the duty window is kept (R448, R449). -/
def State.chargeCut (s : State) (onAir : Nat) : State :=
  if s.radio.test = 1 ∨ s.radio.test = 2 then s.charge s.ownCarrier (onAir + 100)
  else
    match s.link.att with
    | some a => if a.phase == .tx || a.phase == .tune then s.charge a.freq (onAir + 100) else s
    | none => s

/-- The part held in reset by NRESET (R133, R134, Table START-1). -/
def State.nresetState (s : State) (onAir : Nat) : State :=
  let s0 := (((s.cutAck onAir).chargeCut onAir).stopApply.cutFlash .app false).cutFlash .met false
  let s1 := (s0.orphanBurns .app).orphanBurns .met
  let keys := (List.range 10).map (fun n => if 1 ≤ n ∧ n ≤ 7 then s1.keyBytes n else [])
  { State.reset with
    variant := s1.variant, mem := s1.mem, epochs := s1.epochs, freeCtr := s1.freeCtr, logs := s1.logs
    regs := s1.regs.filter (fun e => nresetKeys.contains e.1), otp := s1.otp, burns := s1.burns, opt := s1.opt
    supply := { State.reset.supply with vbat := s1.supply.vbat }, lfxoArmed := s1.lfxoArmed, rtcOnTosc := s1.rtcOnTosc
    rtcMoves := s1.rtcMoves
    flashMarks := s1.flashMarks, flashHeaders := s1.flashHeaders, votes := s1.votes
    bridges := { State.reset.bridges with fallback := s1.bridges.fallback }
    link := { State.reset.link with duty := s1.link.duty }
    cmac := { State.reset.cmac with keys := keys, warned := s1.cmac.warned, exhausted := s1.cmac.exhausted }
    update := { State.reset.update with staged := s1.update.staged }
    power := unpowered, resetHold := 2, pending := s1.pending }

/-- DROPPED set in every window whose shadow was pending when the reset came (R171). -/
def State.showDropped (s : State) (before : State) : State :=
  ((appWindows ++ rfWindows ++ metWindows).filter (fun b => before.flag (R.CFG_COMMIT.PENDING b))).foldl
    (fun a b => a.raise (R.CFG_COMMIT.DROPPED b)) s

/-- NRESET_ASSERT (R131 to R134): the pin has been low for 10 µs; `onAir` is the carrier time of a transmission it cuts.
Under POR it is recorded and holds the part once POR has released (R154).  It is not sensed in SHIP (Table MODE-4). -/
def execNresetAssert (onAir : Nat) (s : State) : Host.Outcome State Fault Refusal :=
  if s.power.ship then .next s
  else if s.resetHold = 0 then .next ((s.nresetState onAir).pinLow.showDropped s)
  else if s.resetHold = 1 then .next ({ s with resetHold := 3 } : State).pinLow
  else .next s

/-- NRESET_RELEASE (R133, R137). -/
def execNresetRelease (vmeas : List Nat) (met : StartEnv) (s : State) : Host.Outcome State Fault Refusal :=
  if s.resetHold = 2 then .next (s.startSequence false vmeas met.passes met.early)
  else if s.resetHold = 4 then .next (s.startSequence true vmeas met.passes met.early)
  else if s.resetHold = 3 then .next { s with resetHold := 1 }
  else .next s

/-! ### Resets of APP scope (R15, R25, R131) -/

/-- The slots of APP, DMA and DICT FREE (R25). -/
def State.freeAppSlots (s : State) : State :=
  forEach 32 (fun n a => if [ownApp, ownDma, ownDict].contains (a.slot n).owner then a.freeSlot n else a) s

/-- The BELL bits of slots that APP does not own (R299). -/
def State.bellKept (s : State) : Nat :=
  (List.range 32).foldl (fun v n =>
    v + 2 ^ n * b2n (s.rdBit (R.LOFTC.BELL.BELL .app) n && (s.slot n).owner != ownApp)) 0

/-- The windows whose far side is clocked: a fire in the apply phase still completes there (R189). -/
def isClocked (n : Nat) : Bool := [2, 8, 9, 10].contains n

/-- The APP domain's blocks at their reset values, with all that ran in them ended (R15, R25, R135, R189, R212, R299, R550,
R591, R630, R650, R675). -/
def State.resetAppBlocks (s : State) : State :=
  let bell := s.bellKept
  let s1 := (((s.stopApply.loseSheaf.cutFlash .app false).loseSequences .app).orphanBurns .app).dropDict
  let s2 := (s1.resetWindows keptAtApp appWindows).resetPorts.loseSessions
  let s3 : State :=
    { s2 with
      copy := none, dma := State.reset.dma, appRail := State.reset.appRail
      cmac := { s2.cmac with background := [], urgent := [], suspended := false, halfParent := State.reset.cmac.halfParent }
      update := { s2.update with activeSet := false, due := [] }, protEntry := none
      bridges := { s2.bridges with waiting := s2.bridges.waiting.filter (fun a => decide (0x10 ≤ a.id)) }
      fabric :=
        { State.reset.fabric with
          held := s2.fabric.held.filter (fun h => h.sd == .met), late := s2.fabric.late.filter isClocked } }
  (s3.freeAppSlots.wr (R.LOFTC.BELL.BELL .app) bell).deriveClassKeys.rebuildCache .app

/-- A reset of APP scope with its record bit (R131, R132, R137): RF_HOLD ends, and with it a test. -/
def State.resetApp (s : State) (cause : Fld) (onAir : Nat) : State :=
  let s1 := (s.clear R.PWR.DOMAIN_REQ.RF_HOLD).holdChecked onAir
  let s2 := ((s1.resetAppBlocks.raise cause).count R.AON.RST_CAUSE.APP_RESETS 1).readOtp
  let s3 :=
    if s2.power.acoreHeld then s2
    else
      let app : DomainPower := { State.reset.power.app with st := .on }
      (({ s2 with power := { s2.power with app := app } } : State).loftOn).startAcore.portsResume
  (s3.autoApply.syncLink).updateMode

/-- ACORE_WATCHDOG (R136, R131): the count has reached zero; it is paused in WFI and while APP is not On. -/
def execAcoreWatchdog (onAir : Nat) (s : State) : Host.Outcome State Fault Refusal :=
  if s.acoreExecuting && s.awdtPeriod != 0 && s.rd R.AON.WDT.REMAIN == 0 && s.awake then .next (s.resetApp R.AON.RST_CAUSE.AWDT onAir) else .next s

/-- SOFTWARE_RESET (Table START-10). -/
def execSoftwareReset (key onAir : Nat) (s : State) : Host.Outcome State Fault Refusal :=
  if key % 256 = 0xA5 ∧ s.power.app.st = .on then .next (s.resetApp R.AON.RST_CAUSE.SOFT onAir) else .next s

/-! ### Resets of MET scope (R24, R129, R131) -/

/-- A reset of MET scope with its record bit: RUN stays 1 and MCORE restarts from MROM. -/
def State.resetMet (s : State) (cause : Fld) (ops : List Nat) : State :=
  let s1 := (((s.resetMetBlocks false).raise cause).count R.MPWR.RST_CAUSE.MET_RESETS 1).raise R.MPWR.MCTL.RUN
  let s2 := ({ s1 with power := { s1.power with mcoreWfi := false } } : State).logStart .met
  (if s2.power.met.st == .on then s2.mromStart ops else s2.startExit .met).updateMode

/-- MCORE_WATCHDOG (R131). -/
def execMcoreWatchdog (ops : List Nat) (s : State) : Host.Outcome State Fault Refusal :=
  if s.mcoreExecuting && s.rd R.MPWR.WDT.REMAIN == 0 && s.variant != .c && s.awake then .next (s.resetMet R.MPWR.RST_CAUSE.MWDT ops) else .next s

/-- BRIDGE_LOCKUP (R56, R67): LOCKUP_N consecutive timeouts of a bridge, or a near side stalled for four times its limit;
the event comes before the reset. -/
def execBridgeLockup (id : Nat) (stall : Bool) (onAir : Nat) (ops : List Nat) (s : State) :
    Host.Outcome State Fault Refusal :=
  let sd := bridgeSide id
  let n := s.rd (R.BRIDGE.LOCKUP.LOCKUP_N sd)
  if (!isWordBridge id && !isPulseBridge id) || !s.awake || (sd == .met && s.variant == .c) then .next s
  else if (stall && (s.bridges.waiting.any (fun a => a.id == id) || s.bridges.pulses.contains id)) || (n != 0 && decide (n ≤ s.bridges.runs.count id)) then
    let s1 := s.logSide sd 0x0A12 []
    let s2 : State := { s1 with bridges := { s1.bridges with runs := s1.bridges.runs.filter (fun e => bridgeSide e.1 != sd) } }
    .next (sd.pick (s2.resetApp R.AON.RST_CAUSE.LOCKUP onAir) (s2.resetMet R.MPWR.RST_CAUSE.LOCKUP ops))
  else .next s

/-! ### Watchdogs (Table START-2) -/

/-- WATCHDOG_FEED (R136): any other value is ignored. -/
def execWatchdogFeed (sd : Side) (key : Nat) (s : State) : Host.Outcome State Fault Refusal :=
  if key % 256 ≠ 0x3C ∨ s.railPowered sd = false ∨ (sd = .met ∧ s.variant = .c) then .next s
  else .next (sd.pick s.feedApp s.feedMet)

/-- WDT_PERIOD_WRITE (Table START-13): only the first write after a MET reset takes effect. -/
def execWdtPeriodWrite (period : Nat) (s : State) : Host.Outcome State Fault Refusal :=
  if s.metRuns then .next (s.metPeriod (period % 256)) else .next s

/-! ### Oscillators (R57, R119, R139) -/

/-- LFXO runs: the RTC goes over to it at the next second boundary where it counts on TOSC (R119, R137). -/
def State.lfxoRuns (s : State) : State :=
  let s1 := s.raise (R.BRIDGE.CLKSTAT.LFXO_RUN .app)
  { s1 with rtcMoves := s1.rtcOnTosc }

/-- LFXO_FIRST_RUN (R137, R139): loss detection is armed. -/
def execLfxoFirstRun (s : State) : Host.Outcome State Fault Refusal :=
  if !s.awake || s.lfxoArmed then .next s else .next { s.lfxoRuns with lfxoArmed := true }

/-- The node acts on a lost LFXO (R119): reported, and cause 0xE towards both sides. -/
def State.lfxoReported (s : State) : State :=
  ((s.raise R.PWR.MODE_STATUS.LFXO_LOST).log 0x0A14 []).wakeBoth 0xE

/-- LFXO_START_TIMEOUT (R139): LFXO has not run within 2 s of POR release. -/
def execLfxoStartTimeout (s : State) : Host.Outcome State Fault Refusal :=
  if !s.awake || s.lfxoArmed then .next s else .next s.lfxoReported

/-- A loss of LFXO detected (R119, R341): the RTC takes up the ticks TOSC has timed, unless it counts on TOSC already, and
goes on on TOSC; a flow sequence ends with CAL_FAIL. -/
def State.lfxoGone (s : State) (ticks : Nat) : State :=
  let s1 := if s.rtcOnTosc then s else s.stepRtc ticks
  let s2 : State := { s1 with rtcOnTosc := true, rtcMoves := false }
  (if s2.flow.cfg.isSome then s2.failFlow R.FLOW.STATUS.CAL_FAIL 0x0336 else s2).lfxoReported

/-- Whether a loss of LFXO is not detected yet: it runs, or the RTC is still on it or about to be. -/
def State.lfxoWatched (s : State) : Bool := s.flag (R.BRIDGE.CLKSTAT.LFXO_RUN .app) || !s.rtcOnTosc || s.rtcMoves

/-- LFXO_LOST (R119, Table CLK-18): 64 TOSC ticks have passed without an edge, and LFXO_RUN reads 0; `ticks` is the catch-up
where it has read 0 for 1 ms while TOSC runs. -/
def execLfxoLost (ticks : Option Nat) (s : State) : Host.Outcome State Fault Refusal :=
  if !s.awake || !s.lfxoArmed || !s.lfxoWatched || s.bridges.fallback then .next s
  else
    let s1 := s.clear (R.BRIDGE.CLKSTAT.LFXO_RUN .app)
    .next (match ticks with
      | none => s1
      | some n => s1.lfxoGone n)

/-- LFXO_RESUME (R119): LFXO runs again; LFXO_LOST stays set. -/
def execLfxoResume (s : State) : Host.Outcome State Fault Refusal :=
  if !s.awake || !s.lfxoArmed then .next s else .next s.lfxoRuns

/-- TOSC has failed (R57, R92): the bridge timeouts count LFXO periods from now on, accesses that wait start theirs afresh,
and the supply monitor samples at once: TOSC_FAIL carries no reading of VBAT and no carrier time, which are free (log entry 3). -/
def State.toscFails (s : State) : State :=
  let w := s.bridges.waiting.map (fun a => { a with limit := (a.limit + 29) / 30 })
  let s1 : State := { s with bridges := { s.bridges with fallback := true, waiting := w } }
  let s2 := ((s1.clear (R.BRIDGE.CLKSTAT.TOSC_OK .app)).raise (R.BRIDGE.CLKSTAT.TOSC_FAIL .app)).log 0x0A13 []
  let v := s2.fresh
  let air := v.2.fresh
  if s2.samples then air.2.sampleDue { vmeas := v.1, upsets := [], onAir := air.1 } else s2

end Sys2Proof.Machine
end

