-- ==== Sys2Proof/Machine/View.lean ====
section
/-! DEFINITION. What a read of a register gives (ch. 06): the fields that are not stored but follow other state, the mirrors,
the undefined offsets, and the reads that take something. -/

namespace Sys2Proof.Machine

open Sys2Proof

/-! ### Words that follow other state -/

/-- The address a register of MSYSCTL shares with SYSCTL: the voting counters and status are the same on both sides
(ch. 06). -/
def sharedReg (a : Nat) : Nat := if a = 0x48000040 ∨ a = 0x48000044 then a - 0x8000000 else a

/-- The side whose view an address belongs to. -/
def sideOfAddr (a : Nat) : Side := if a < 0x48000000 then .app else .met

/-- The mirror a field is read through by a side: RF_M for the fields of RADIO, LINK and TUNER, else AON_M or MAON_M
(R46, R50). -/
def State.mirrorOf (s : State) (sd : Side) (f : Fld) : RegFile :=
  if rfWindows.contains (windowBase f.addr) then s.rfMirror else sd.pick s.mirror s.metMirror

/-- The value of a field as its mirror holds it. -/
def State.mirrored (s : State) (sd : Side) (f : Fld) : Nat := ((s.mirrorOf sd f).find f.key).getD f.rst

/-- SLOT_STATEn (Table MET-10). -/
def State.slotWord (s : State) (n : Nat) : Nat :=
  let x := s.slot n
  x.owner + 8 * b2n x.publish + 16 * b2n x.frozen + 32 * x.giver + 256 * min 255 x.hands + 65536 * x.len

/-- ECNT of the block that ECNT_IDX names (Tables FLASH-13, FLASH-14). -/
def State.ecntWord (s : State) (sd : Side) : Nat :=
  let k := s.rd (R.FLASHC.ECNT_IDX.ARRAY sd)
  let b := s.rd (R.FLASHC.ECNT_IDX.BLOCK sd)
  let arr := sd.pick k (if k = 0 then 3 else 4)
  if sd.pick (k == 3) (k != 0) || decide (b ≥ blocksOf arr) then 0
  else
    let h := s.cached arr b
    h % 2 ^ 27 + 2 ^ 27 * b2n (decide (endurance arr < h % 2 ^ 24))

/-- The oldest entry of the MET event queue. -/
def State.evqHead (s : State) : Event := s.logs.met.headD { seq := 0, utime := 0, code := 0, flags := 0, data := [] }

/-- The seal bits of MPWR.SEAL_STATUS, live (R289). -/
def State.sealWord (s : State) : Nat := s.regWord 0x48001080

/-- The fields whose value follows other state, with that value; the rest are stored. -/
def State.liveFields (s : State) (a : Nat) : List (Fld × Nat) :=
  if a = 0x40000000 then [(R.SYSCTL.ID.TYPE, typeId s.variant)]
  else if a = 0x40000004 then [(R.SYSCTL.UNIT_ID_LO.UNIT_ID, s.otp.unitId % 2 ^ 32)]
  else if a = 0x40000008 then [(R.SYSCTL.UNIT_ID_HI.UNIT_ID, s.otp.unitId / 2 ^ 32 % 2 ^ 32)]
  else if a = 0x40001000 then [(R.PWR.MODE_REQ.KEY, 0)]
  else if a = 0x40001060 then (if s.variant == .c then [(R.PWR.RES_CTRL.CHG_EN, 0)] else [])
  else if a = 0x40001010 then [(R.PWR.WAKE_EN.EN .app, s.wakeEnRead .app)]
  else if a = 0x48001010 then [(R.PWR.WAKE_EN.EN .met, s.wakeEnRead .met)]
  else if a = 0x40005000 then (if s.flag R.ARB.RESERVE.CH0 then [(R.ARB.PRIO.P 2, 7)] else [])
  else if a = 0x40003040 then
    [(R.FLASHC.PROT_STATUS.MAP, s.protMask), (R.FLASHC.PROT_STATUS.TAG_BLANK, b2n s.tagBlank)]
  else if a = 0x48004040 then [(R.MFLASHC.MPROT.HWPROT, s.hwProt)]
  else if a = 0x4000B08C then [(R.LOFTC.STATS.FREE_NOW .app, s.freeNow)]
  else if a = 0x4800C08C then [(R.LOFTC.STATS.FREE_NOW .met, s.freeNow)]
  else if a = 0x48002014 then
    [(R.BRIDGE.CLKSTAT.HFXO_RUN .met, 0), (R.BRIDGE.CLKSTAT.LFXO_RUN .met, s.rd (R.BRIDGE.CLKSTAT.LFXO_RUN .app)),
      (R.BRIDGE.CLKSTAT.TOSC_OK .met, s.rd (R.BRIDGE.CLKSTAT.TOSC_OK .app)),
      (R.BRIDGE.CLKSTAT.TOSC_FAIL .met, s.rd (R.BRIDGE.CLKSTAT.TOSC_FAIL .app))]
  else if a = 0x4800D000 then [(R.MAON.RTC_SEC.SEC, s.mirrored .met R.AON.RTC_SEC.SEC)]
  else if a = 0x4800D004 then [(R.MAON.RTC_SUB.SUB, s.mirrored .met R.AON.RTC_SUB.SUB)]
  else if a = 0x4800D010 then
    [(R.MAON.STATUS.LEVEL, s.mirrored .met R.PWR.LADDER.LEVEL), (R.MAON.STATUS.LOCK7, s.mirrored .met R.PWR.LADDER.LOCK7),
      (R.MAON.STATUS.TIME_UNSET, s.mirrored .met R.AON.RST_CAUSE.TIME_UNSET),
      (R.MAON.STATUS.LFXO_RUN, s.mirrored .met (R.BRIDGE.CLKSTAT.LFXO_RUN .app)),
      (R.MAON.STATUS.TOSC_FAIL, s.mirrored .met (R.BRIDGE.CLKSTAT.TOSC_FAIL .app))]
  else if a = 0x48000080 then
    [(R.MSYSCTL.EVQ_HEAD.CODE, s.evqHead.code), (R.MSYSCTL.EVQ_HEAD.LEN, s.evqHead.data.length)]
  else if a = 0x48000084 then [(R.MSYSCTL.EVQ_TIME.UTIME, s.evqHead.utime)]
  else if a = 0x40014000 then
    [(R.METVIEW.SEAL.SEAL, s.sealWord % 2 ^ 14), (R.METVIEW.SEAL.SEAL_EV, bitsOf s.sealWord 16 2)]
  else if windowBase a = 0x40014000 then
    (R.METVIEW.MSTATE.FRESH, b2n (s.power.met.st == .on)) :: (if s.power.met.st == .on then s.metviewLive else [])
  else []

/-- The value a field has in its block: what other state makes it, else what is stored. -/
def State.hwValue (s : State) (f : Fld) : Nat :=
  match (s.liveFields f.addr).find? (fun p => p.1 == f) with
  | some p => p.2
  | none => s.rd f

/-- The value a field reads as for a side: zero for a WO field (Table SCOPE-3), the copy of its mirror for a Mirror field
that is not itself computed from one. -/
def State.view (s : State) (sd : Side) (f : Fld) : Nat :=
  if f.acc == .wo then 0
  else if f.kind == .mirror && ((s.liveFields f.addr).find? (fun p => p.1 == f)).isNone then s.mirrored sd f
  else s.hwValue f

/-- A word of the log entry that a ring position holds, zeros where it holds none (R563). -/
def State.logBytes (s : State) (k : Nat) : List Nat :=
  match s.logs.sys.find? (fun e => e.seq % 64 == k) with
  | none => List.replicate 24 0
  | some e =>
    leBytes 4 e.seq ++ leBytes 4 e.utime ++ leBytes 2 e.code ++ [e.flags, e.data.length] ++
      (e.data ++ List.replicate 12 0).take 12

/-- CFG_COMMIT of a window (Table REG-1): zero in a block without buffered configuration. -/
def State.commitWord (s : State) (base : Nat) : Nat :=
  if hasCommit base then
    256 * s.rd (R.CFG_COMMIT.PENDING base) + 512 * s.rd (R.CFG_COMMIT.DROPPED base) + 1024 * s.rd (R.CFG_COMMIT.LOCKED base)
  else 0

/-- Whether a window reads zero and ignores writes: FLOW on a BST420A and METVIEW on a BST420C (R2, R3). -/
def State.readsZero (s : State) (a : Nat) : Bool :=
  (s.variant == .a && windowBase a == 0x48008000) || (s.variant == .c && windowBase a == 0x40014000)

/-- Four bytes of the option shadows, as AON shows them (R143). -/
def State.optionShadow (s : State) (n : Nat) : Nat := leNat ((List.range 4).map (fun i => s.opt.getD (4 * n + i) 0xFF))

/-- The option bytes that MAON mirrors (R282): those of the offsets 0x060 to 0x09F read as zero. -/
def State.maonShadow (s : State) (n : Nat) : Nat := if decide (0x60 ≤ 4 * n) && decide (4 * n ≤ 0x9F) then 0 else s.optionShadow n

/-- The word of a named register, without what a read of it takes; the voting registers follow the mirror of the side that
reads them (R191). -/
def State.word (s : State) (addr : Nat) : Nat :=
  let a := sharedReg (regAddr addr)
  let o := a % 0x100
  if s.readsZero a then 0
  else if o = 0xFC then s.commitWord (windowBase a)
  else if (windowBase a = 0x4000B000 ∨ windowBase a = 0x4800C000) ∧ o < 0x80 then s.slotWord (o / 4)
  else if a = 0x4000301C then s.ecntWord .app
  else if a = 0x4800401C then s.ecntWord .met
  else if windowBase a = 0x48000000 ∧ 0x90 ≤ o ∧ o < 0x9C then
    leNat (((s.evqHead.data ++ List.replicate 12 0).drop (o - 0x90)).take 4)
  else if windowBase a = 0x40002000 ∧ 0x40 ≤ o ∧ o < 0xE0 then s.optionShadow ((o - 0x40) / 4)
  else if windowBase a = 0x4800D000 ∧ 0x40 ≤ o ∧ o < 0xE0 then s.maonShadow ((o - 0x40) / 4)
  else wordOf (s.view (sideOfAddr addr)) (regFields a)

/-! ### Reads -/

/-- What follows a completed read or write in `last` is dropped when a read is made for its data alone. -/
def State.dataOf (f : State → State) (s : State) : Nat × State := ((f s).last.data, f s)

/-- The next state of a meaning, or the state it was given. -/
def State.via (s : State) (f : State → Host.Outcome State Fault Refusal) : State :=
  match f s with
  | .next t => t
  | .fault _ => s
  | .refused _ => s

/-- GPIO.IN: the level of each pin, which the environment sets, is a free value; a lead that the island holds reads 0
(R709). -/
def State.readPins (s : State) : Nat × State :=
  (maskOf 12 (fun n => bit s.fresh.1 n && !s.leadHeld n), s.fresh.2)

/-- A 32-bit read of a register: its word and the state after what it takes (R161, R162).  An offset without a name gives
a free value; DATA registers and RXDATA give up their oldest entry.  A voted field is read through its voter (R182). -/
def State.readReg (s0 : State) (addr : Nat) : Nat × State :=
  let a := sharedReg (regAddr addr)
  let s := s0.readVoted a
  if s.readsZero a then (0, s)
  else if a = 0x40009080 then State.dataOf (fun x => x.via execRxdataRead) s
  else if a = 0x4000C004 then State.dataOf (fun x => x.uartPop 0) s
  else if a = 0x4000D004 then State.dataOf (fun x => x.uartPop 1) s
  else if a = 0x4000E008 then State.dataOf State.spiPop s
  else if a = 0x4000F008 then State.dataOf State.i2cPop s
  else if a = 0x4001100C then s.readPins
  else if isNamed a then (s.word addr, s)
  else (s.fresh.1 % 2 ^ 32, s.fresh.2)

/-- The lanes of a register word that a narrow read returns (R163). -/
def lanes (addr size w : Nat) : Nat := w / 2 ^ (8 * (addr % 4)) % 2 ^ (8 * size)

end Sys2Proof.Machine
end

