-- ==== Sys2Proof/Machine/Catalogue.lean ====
section
/-! DEFINITION. The entries of the object dictionary (ch. 20, 21): the descriptor, the boot ROM table of Tables CAT-2 to
CAT-10, and the application table in memory with its check. -/

namespace Sys2Proof.Machine

open Sys2Proof

/-! ### Types (Table DICT-1) -/

def tBool : Nat := 0
def tU8 : Nat := 1
def tU16 : Nat := 2
def tU32 : Nat := 3
def tI16 : Nat := 4
def tI32 : Nat := 5
def tTime : Nat := 6
def tOctets : Nat := 7
def tVersion : Nat := 8

/-- The size of a type in bytes; none fixed for OCTETS. -/
def typeSize (ty : Nat) : Nat := [1, 1, 2, 4, 2, 4, 4, 0, 4].getD ty 0

/-- Whether a type is signed. -/
def signedType (ty : Nat) : Bool := ty == tI16 || ty == tI32

/-- The backing kinds (Table DICT-2). -/
def backReg : Nat := 0
def backRam : Nat := 1
def backParam : Nat := 2
def backLoft : Nat := 3
def backCall : Nat := 4

/-- The access classes (R531); `noClass` is above every class a request can have. -/
def clsOpen : Nat := 0
def clsInst : Nat := 1
def clsOper : Nat := 2
def clsLegal : Nat := 3
def noClass : Nat := 4

/-! ### The boot ROM table -/

/-- A read-only REG entry of a run of bits. -/
def roBits (index sub ty addr lsb width : Nat) : Desc :=
  { index := index, sub := sub, ty := ty, size := typeSize ty, writable := false, service := false, pair := false
    rc := clsOpen, wc := clsOpen, kind := backReg, win := addr / 0x1000 % 0x1000, addr := addr, lsb := lsb, width := width
    eff := 0xFF, lo := 0, hi := 0 }

/-- A read-only REG entry of one field. -/
def roReg (index sub ty : Nat) (f : Fld) : Desc := roBits index sub ty f.addr f.lsb f.width

/-- A writable REG entry of one field, with its bounds. -/
def rwReg (index sub ty wc : Nat) (f : Fld) (lo hi : Int) : Desc :=
  { roReg index sub ty f with writable := true, wc := wc, lo := uInt 32 lo, hi := uInt 32 hi }

/-- A writable REG entry bounded by its field alone (log entry 20). -/
def rwAll (index sub ty wc : Nat) (f : Fld) : Desc :=
  if signedType ty then rwReg index sub ty wc f (-(2 ^ (f.width - 1) : Nat)) ((2 ^ (f.width - 1) : Nat) - 1)
  else rwReg index sub ty wc f 0 ((2 ^ f.width : Nat) - 1)

/-- The same entry marked ·S. -/
def inService (d : Desc) : Desc := { d with service := true }

/-- The same entry with another read class. -/
def readBy (rc : Nat) (d : Desc) : Desc := { d with rc := rc }

/-- A PARAM entry of the boot ROM table. -/
def paramEntry (index sub ty size wc addr lo hi : Nat) : Desc :=
  { roBits index sub ty addr 0 0 with
    size := size, writable := true, wc := wc, kind := backParam, win := 0, lo := lo, hi := hi }

/-- A CALLBACK entry with its tag. -/
def callEntry (index sub ty size rc wc : Nat) (writable service : Bool) : Desc :=
  { roBits index sub ty (index * 0x10000 + sub) 0 0 with
    size := size, writable := writable, service := service, rc := rc, wc := wc, kind := backCall, win := 0, hi := 0xFFFFFFFF }

/-- An OCTETS entry that DICT serves by a rule of its own: the time writes and the log reads. -/
def octetsEntry (index sub size rc wc addr : Nat) (writable : Bool) : Desc :=
  { roBits index sub tOctets addr 0 32 with size := size, rc := rc, wc := wc, writable := writable }

/-- Table CAT-2. -/
def catIdentity : List Desc :=
  [roReg 0x1000 0 tU16 R.SYSCTL.ID.TYPE, roReg 0x1000 1 tU8 R.SYSCTL.ID.REV,
   roReg 0x1001 1 tU32 R.SYSCTL.UNIT_ID_LO.UNIT_ID, roReg 0x1001 2 tU32 R.SYSCTL.UNIT_ID_HI.UNIT_ID,
   roReg 0x1002 0 tU8 R.AON.BOOT_STATUS.TWIN, roReg 0x1002 1 tU8 R.AON.BOOT_STATUS.ROLLBACK,
   callEntry 0x1003 0 tVersion 4 clsOpen clsOpen false false, roReg 0x1003 1 tU16 R.LINK.MESH_ROLE.COMPAT,
   roBits 0x1004 0 tU8 R.AON.RST_CAUSE.POR.addr 0 8, roReg 0x1004 1 tU8 R.AON.RST_CAUSE.APP_RESETS,
   roBits 0x1005 0 tU8 R.AON.OPT_STATUS.VALID.addr 0 4]

/-- Table CAT-3, with the PARAM entries at the places of Table CAT-4. -/
def catPower : List Desc :=
  [roReg 0x1100 0 tU8 R.PWR.MODE_STATUS.EFFECTIVE, roReg 0x1100 1 tU8 R.PWR.MODE_STATUS.BASE,
   roReg 0x1101 0 tU8 R.PWR.LADDER.LEVEL, roReg 0x1101 1 tU8 R.PWR.LADDER.LEVEL_MAX,
   roReg 0x1101 2 tU16 R.PWR.LADDER.VBAT_COMP, roReg 0x1101 3 tBool R.PWR.LADDER.LOCK7,
   roReg 0x1102 0 tU16 R.PWR.RES_STATUS.VRES_MV, rwAll 0x1102 1 tU8 clsInst R.PWR.RES_CTRL.ICHG,
   rwAll 0x1102 2 tBool clsInst R.PWR.RES_CTRL.CHG_MODE, rwReg 0x1102 3 tU16 clsInst R.PWR.RES_CAP.CAP 22 10000,
   paramEntry 0x1103 0 tU16 2 clsOper 0x220007C4 200 60000, paramEntry 0x1103 1 tOctets 32 clsInst 0x220007C8 0 0,
   paramEntry 0x1103 2 tTime 4 clsInst 0x220007E8 0 0xFFFFFFFF,
   { roBits 0x1104 0 tU16 R.PWR.MODE_REQ.SHIP.addr 0 16 with writable := true, wc := clsOper, lo := 0xC701, hi := 0xC701 },
   roBits 0x1105 0 tU32 (R.PWR.WAKE_CAUSE.C0 .app).addr 0 24,
   rwReg 0x1106 0 tU8 clsOper (R.PWR.PACE_CTRL.TARGET .app) 0 96, roReg 0x1106 1 tU8 (R.PWR.PACE_STATUS.VCORE_CODE .app)]

/-- Table CAT-5. -/
def catTime : List Desc :=
  [roReg 0x1200 0 tTime R.AON.RTC_SEC.SEC, roReg 0x1200 1 tU16 R.AON.RTC_SUB.SUB,
   roReg 0x1200 2 tBool R.AON.RST_CAUSE.TIME_UNSET, roReg 0x1200 3 tBool (R.BRIDGE.CLKSTAT.LFXO_RUN .app),
   roReg 0x1200 4 tBool R.PWR.MODE_STATUS.LFXO_LOST,
   octetsEntry 0x1201 0 20 clsOpen clsOper R.AON.RTC_SEC.SEC.addr true,
   octetsEntry 0x1201 1 20 clsOpen clsOper R.AON.RTC_SEC.SEC.addr true,
   roReg 0x1202 0 tU16 R.LINK.TIME_BUDGET.USED_MS, roReg 0x1202 1 tI32 R.LINK.TIME_LAST.STEP]

/-- Table CAT-7. -/
def catMet : List Desc :=
  [roBits 0x2000 0 tU8 R.METVIEW.SEAL.SEAL.addr 0 2, roBits 0x2000 1 tBool R.METVIEW.SEAL.SEAL.addr 2 1,
   roBits 0x2000 2 tU8 R.METVIEW.SEAL.SEAL.addr 4 3, roBits 0x2000 3 tU8 R.METVIEW.SEAL.SEAL.addr 8 4,
   roReg 0x2001 0 tU8 R.METVIEW.MSTATE.MSTATE, roReg 0x2001 1 tBool R.METVIEW.MSTATE.FRESH,
   roReg 0x2002 0 tVersion R.METVIEW.VERSION.VERSION, roReg 0x2002 1 tU32 R.METVIEW.GEN.GEN,
   roReg 0x2002 2 tU32 R.METVIEW.TAG4.TAG4, roReg 0x2002 3 tU8 R.METVIEW.IMAGE.ACTIVE,
   roReg 0x2002 4 tU8 R.METVIEW.IMAGE.ARB2, roReg 0x2003 0 tU32 (R.METVIEW.PUB.PUB 0),
   roReg 0x2003 1 tU32 (R.METVIEW.PUB.PUB 1), roReg 0x2004 0 tU16 R.METVIEW.MRST.MRST] ++
  (List.range 16).map (fun n => callEntry 0x2100 n tOctets 64 clsLegal clsLegal true true)

/-- Table CAT-8: radio. -/
def catRadio : List Desc :=
  [inService (rwAll 0x3000 0 tU32 clsInst R.RADIO.FREQ_BASE.WORD), inService (rwAll 0x3000 1 tU8 clsInst R.RADIO.CHAN.CHAN),
   inService (rwAll 0x3000 2 tU16 clsInst R.RADIO.CHAN.SPACE), rwAll 0x3000 3 tI16 clsInst R.RADIO.FOFS.OFS,
   inService (rwReg 0x3001 0 tU8 clsInst R.RADIO.MOD.TYPE 0 2),
   inService (rwReg 0x3001 1 tU32 clsInst R.RADIO.MOD.RATE 2400 300000),
   inService (rwAll 0x3001 2 tU16 clsInst R.RADIO.MOD2.DEV), inService (rwAll 0x3001 3 tU8 clsInst R.RADIO.MOD2.RXBW),
   rwReg 0x3002 0 tI16 clsOper R.RADIO.TXPWR.DBM (-10) 16, inService (rwAll 0x3002 1 tBool clsInst R.RADIO.EXTPA_CFG.EN),
   roReg 0x3003 0 tU8 R.RADIO.RSSI.LAST, roReg 0x3003 1 tI16 R.RADIO.STATUS.TEMP, roReg 0x3003 2 tU16 R.RADIO.COUNTS.CALS,
   rwAll 0x3004 0 tBool clsInst R.TUNER.CFG.EN, rwAll 0x3004 1 tBool clsInst R.TUNER.CFG.AUTO,
   rwAll 0x3004 2 tBool clsOper R.TUNER.CMD.RETUNE, roReg 0x3004 3 tU8 R.TUNER.STATUS.LAST_RL,
   roReg 0x3004 4 tU8 R.TUNER.STATUS.CS, roReg 0x3004 5 tU8 R.TUNER.STATUS.CP, roReg 0x3004 6 tU16 R.TUNER.COUNTS.RETUNES]

/-- Table CAT-8: link and duty. -/
def catLink : List Desc :=
  [rwAll 0x3100 0 tU8 clsOper R.LINK.TXCFG.RETRY_MAX, rwAll 0x3100 1 tU8 clsOper R.LINK.TXCFG.BO_MIN,
   rwAll 0x3100 2 tU8 clsOper R.LINK.TXCFG.BO_MAX, rwAll 0x3100 3 tU8 clsOper R.LINK.TXCFG.DUTY_WAIT_MAX] ++
  (List.range 8).map (fun n => rwReg 0x3101 n tU16 clsOper (R.LINK.DUTY_CAP.CAP n) 0 3600) ++
  [roReg 0x3102 0 tU16 R.LINK.STATUS.WAIT_S,
   inService (rwAll 0x3103 0 tBool clsInst R.LINK.GLEAN.EN), inService (rwAll 0x3103 1 tU16 clsInst R.LINK.GLEAN_INT.INT),
   inService (rwAll 0x3103 2 tU16 clsInst R.LINK.GLEAN_INT.PHASE), inService (rwAll 0x3103 3 tU8 clsInst R.LINK.GLEAN.WIN),
   roReg 0x3104 0 tU16 R.LINK.COUNT0.TX_ATTEMPTS, roReg 0x3104 1 tU16 R.LINK.COUNT0.RETRIES,
   roReg 0x3104 2 tU16 R.LINK.COUNT1.RX_OK, roReg 0x3104 3 tU16 R.LINK.COUNT1.RX_FCS,
   roReg 0x3104 4 tU16 R.LINK.COUNT2.RX_DUP, roReg 0x3104 5 tU16 R.LINK.COUNT2.RX_DROP,
   roReg 0x3104 6 tU16 R.LINK.COUNT3.ACKS_SENT, roReg 0x3104 7 tU16 R.LINK.COUNT3.ACK_SKIP,
   rwAll 0x3105 0 tI16 clsOper R.LINK.ACKCFG.DBM, rwAll 0x3105 1 tU8 clsOper R.LINK.ACKCFG.ACK_RSV,
   roReg 0x3106 0 tU8 R.LINK.WMB_ACC.ACC, roReg 0x3106 1 tU32 R.LINK.WMB_MCNT.MCNT]

/-- Table CAT-8: mesh. -/
def catMesh : List Desc :=
  [{ rwReg 0x3200 1 tU8 clsInst R.LINK.MESH_ROLE.ROLE 0 1 with pair := true, eff := 2 },
   roReg 0x3200 2 tBool R.LINK.MESH_STATE.RELAYING, rwAll 0x3200 3 tU8 clsOper R.LINK.MESH_ROLE.MAX_HOPS,
   inService (rwAll 0x3201 0 tU16 clsInst R.LINK.MESH_ID.STEAD), inService (rwAll 0x3201 1 tU16 clsInst R.LINK.MESH_ID.ADDR),
   rwAll 0x3202 0 tU16 clsOper R.LINK.MESH_BCN.BEACON_INT, rwAll 0x3202 1 tU8 clsOper R.LINK.MESH_BCN.PARENT_TTL,
   rwAll 0x3202 2 tU8 clsOper R.LINK.MESH_BCN.PARENT_RSSI, rwAll 0x3202 3 tU8 clsOper R.LINK.MESH_BCN.RESCUE_INT,
   rwAll 0x3203 0 tU8 clsOper R.LINK.MESH_TIME.GUARD, rwAll 0x3203 1 tU8 clsOper R.LINK.MESH_TIME.DEADBAND,
   roReg 0x3204 0 tU8 R.LINK.MESH_STATE.RING, roReg 0x3204 1 tU8 R.LINK.MESH_STATE.NPAR,
   roReg 0x3204 2 tBool R.LINK.MESH_STATE.NO_PARENT, roReg 0x3204 3 tU8 R.LINK.MESH_STATE.TQ,
   roReg 0x3204 4 tBool R.LINK.MESH_STATE.CFG_BEHIND, roReg 0x3204 5 tBool R.LINK.MESH_STATE.COMPAT_OUT,
   roReg 0x3205 0 tU16 (R.LINK.PARENT.ADDR 0), roReg 0x3205 1 tU16 (R.LINK.PARENT.ADDR 1),
   roReg 0x3205 2 tU16 (R.LINK.PARENT.ADDR 2), roReg 0x3206 0 tU32 R.LINK.MESH_GEN.GEN,
   roReg 0x3206 1 tU8 R.LINK.MESH_CFG.GEN_CID, roReg 0x3206 2 tU16 R.LINK.MESH_COMPAT.MIN,
   roReg 0x3206 3 tU16 R.LINK.MESH_COMPAT.MAX, roReg 0x3207 0 tU8 R.LINK.FWD_STAT.DEPTH,
   roReg 0x3207 1 tU16 R.LINK.FWD_STAT.DROPPED, roReg 0x3207 2 tU16 R.LINK.MESH_COUNT.LOOP]

/-- Table CAT-9. -/
def catSecurity : List Desc :=
  (List.range 5).map (fun n => readBy clsOper (roReg 0x4000 n tU32 (R.DICT.FLOOR.FC n))) ++
  [readBy clsOper (roReg 0x4000 5 tU8 R.DICT.FLOOR_STAT.UNSET), readBy clsOper (roReg 0x4001 2 tU32 R.CMACE.FCNT2.FC),
   readBy clsOper (roReg 0x4001 5 tU32 R.CMACE.FCNT5.FC), readBy clsOper (roReg 0x4002 0 tU16 R.FLASHC.PROT_STATUS.MAP),
   readBy clsOper (roReg 0x4002 1 tU8 R.FLASHC.PROT_STATUS.ATTEMPTS),
   readBy clsOper (roReg 0x4002 2 tBool R.FLASHC.PROT_STATUS.LOCKOUT), roReg 0x4003 0 tU8 R.FLASHC.ARB_STATUS.ARB0,
   roReg 0x4003 1 tU8 R.FLASHC.ARB_STATUS.ARB1] ++
  (List.range 7).map (fun n => callEntry 0x4010 (n + 1) tOctets 64 noClass clsOper true false) ++
  [roReg 0x5000 0 tU8 R.UPDATE.STATUS.STATE, roReg 0x5000 1 tU32 R.UPDATE.CID.CID, roReg 0x5000 2 tU16 R.UPDATE.RX.RECEIVED,
   roReg 0x5000 3 tU16 R.UPDATE.RX.TOTAL, callEntry 0x5001 0 tU8 1 noClass clsOper true false]

/-- Table CAT-10. -/
def catLogs : List Desc :=
  [roReg 0x6000 0 tU8 R.SYSCTL.EVLOG_STAT.COUNT, roReg 0x6000 1 tU16 R.SYSCTL.EVLOG_STAT.OVERWRITTEN,
   roReg 0x6000 2 tU32 R.SYSCTL.EVLOG_HEAD.SEQ] ++
  (List.range 64).map (fun k => octetsEntry 0x6001 k 24 clsInst clsOpen (R.SYSCTL.EVLOG_W.WORD 0).addr false) ++
  [roReg 0x6002 0 tU16 R.SYSCTL.VOTE_FIX.COUNT, roReg 0x6002 1 tU8 (R.ARB.FAULT_STATUS.COUNT .app),
   roReg 0x6002 2 tU16 (R.BRIDGE.COUNTS.TO_COUNT .app), roReg 0x6002 3 tU8 (R.FLASHC.ECC_STATUS.COR_COUNT .app),
   roReg 0x6003 0 tU16 R.DICT.COUNTS.REQS, roReg 0x6003 1 tU8 R.DICT.COUNTS.AUTH_FAIL,
   roReg 0x6003 2 tU8 R.DICT.COUNTS.REPLAY, roReg 0x6003 3 tU8 R.DICT.QSTAT.BUSY_LOST,
   roReg 0x6003 4 tU16 R.DICT.QSTAT.BUSY_SENT]

/-- The part of the boot ROM table that an index lies in. -/
def romTable (index : Nat) : List Desc :=
  match index / 0x100 with
  | 0x10 => catIdentity
  | 0x11 => catPower
  | 0x12 => catTime
  | 0x20 | 0x21 => catMet
  | 0x30 => catRadio
  | 0x31 => catLink
  | 0x32 => catMesh
  | 0x40 | 0x50 => catSecurity
  | 0x60 => catLogs
  | _ => []

/-- A boot ROM entry on a BST420C (R568): the charger's two settings read 0 and take writes without effect, as the reserved
bits of their register do. -/
def entryOnC (d : Desc) : Desc := if d.index = 0x1102 ∧ (d.sub = 1 ∨ d.sub = 2) then { d with lsb := 2 } else d

/-- The descriptor of a boot ROM entry (R555); on a BST420C the entries of Table CAT-7 are absent (R554, R568). -/
def State.romEntry (s : State) (index sub : Nat) : Option Desc :=
  if s.variant == .c && index / 0x1000 == 2 then none
  else
    ((romTable index).find? (fun d => d.index == index && d.sub == sub)).map (fun d =>
      if s.variant = .c then entryOnC d else d)

/-! ### The application table -/

/-- A descriptor as its 24 bytes spell it. -/
def descOf (b : List Nat) : Desc :=
  let at' (i n : Nat) := leNat ((b.drop i).take n)
  let t := at' 3 1
  let back := at' 6 1
  { index := at' 0 2, sub := at' 2 1, ty := t % 16, size := at' 4 1, writable := bit t 4, service := bit t 5, pair := bit t 6
    rc := at' 5 1 % 4, wc := at' 5 1 / 16 % 4, kind := back % 8, win := back / 8, addr := at' 8 4, lsb := at' 0xC 1
    width := at' 0xD 1, eff := at' 0xE 1, lo := at' 0x10 4, hi := at' 0x14 4 }

/-- The reserved bits and bytes of Table DICT-3 are zero. -/
def descZeros (b : List Nat) : Bool :=
  !bit (b.getD 3 0) 7 && b.getD 5 0 &&& 0xCC == 0 && b.getD 7 0 == 0 && b.getD 0xF 0 == 0

/-- The address of the `k`-th application descriptor. -/
def State.descAddr (s : State) (k : Nat) : Nat := s.rd R.DICT.DESC_BASE.ADDR + 24 * k

/-- The bytes of the `k`-th application descriptor; none where a read of it faults (R534). -/
def State.descBytes (s : State) (k : Nat) : Option (List Nat) :=
  match s.firstFault 11 kindRead 6 (s.descAddr k) with
  | some _ => none
  | none => some (s.appBytes (s.descAddr k) 24)

/-- Whether the SRAM banks that a range meets are one bank of the committed PWR.REST.RET_BANKS, or the range lies in AON
retention SRAM below the parameter area (R564). -/
def State.keptRange (s : State) (a n : Nat) : Bool :=
  if 0x20000000 ≤ a ∧ a + n ≤ 0x20020000 then
    (a - 0x20000000) / 0x8000 == (a + n - 1 - 0x20000000) / 0x8000 &&
      bit (s.rd R.PWR.REST.RET_BANKS) ((a - 0x20000000) / 0x8000)
  else decide (0x22000000 ≤ a) && decide (a + n ≤ 0x220007C0)

/-- The windows that a writable REG entry of the application table may name (R564). -/
def writableWindows : List Nat := [0, 3, 5, 6, 7, 18, 19, 20, 21]

/-- Whether a descriptor of the application table is within its bounds (R534, R564, Table DICT-3; log entry 21). -/
def State.descOk (s : State) (b : List Nat) (eff : Nat → Nat → Option Desc) : Bool :=
  let d := descOf b
  decide (0x7000 ≤ d.index) && decide (d.index ≤ 0x7FFF) && descZeros b &&
    decide (d.sub ≤ 0xFE) && d.wc != clsLegal && decide (d.ty ≤ 8) && decide (d.kind ≤ backCall) &&
    (if d.ty = tOctets then decide (1 ≤ d.size) && decide (d.size ≤ 64) else d.size == typeSize d.ty) &&
    (if d.kind = backReg then
        decide (d.win ≤ 21) && windowBase d.addr == 0x40000000 + 0x1000 * d.win && d.addr % 4 == 0 &&
          decide (1 ≤ d.width) && decide (d.lsb + d.width ≤ 32) && decide (d.width ≤ 8 * d.size) &&
          (!d.writable || writableWindows.contains d.win)
      else if d.kind = backRam ∨ d.kind = backParam then s.keptRange d.addr d.size
      else if d.kind = backLoft then decide (bitsOf d.addr 16 9 + d.size ≤ 512)
      else true) &&
    (!d.pair ||
      (match eff d.index d.eff with
        | none => false
        | some e => e.ty == d.ty && e.size == d.size && !e.writable && !e.pair))

/-- A place in a table by INDEX and SUB. -/
def Desc.key (d : Desc) : Nat := d.index * 0x100 + d.sub

/-- Bisection over the descriptors from `lo` up to `hi` (R533). -/
def State.bisect (s : State) (key : Nat) : Nat → Nat → Nat → Option (Nat × List Nat)
  | 0, _, _ => none
  | fuel + 1, lo, hi =>
    if lo ≥ hi then none
    else
      let mid := (lo + hi) / 2
      match s.descBytes mid with
      | none => none
      | some b =>
        let k := (descOf b).key
        if k = key then some (mid, b)
        else if k < key then State.bisect s key fuel (mid + 1) hi
        else State.bisect s key fuel lo mid

/-- The descriptors that a bisection reads, in their order. -/
def State.bisectReads (s : State) (key : Nat) : Nat → Nat → Nat → List Nat
  | 0, _, _ => []
  | fuel + 1, lo, hi =>
    if lo ≥ hi then []
    else
      let mid := (lo + hi) / 2
      mid :: (match s.descBytes mid with
        | none => []
        | some b =>
          if (descOf b).key = key then []
          else if (descOf b).key < key then State.bisectReads s key fuel (mid + 1) hi
          else State.bisectReads s key fuel lo mid)

/-- Descriptors read by DICT, with the record of what their double words meet (R220). -/
def State.readDescs (s : State) (l : List Nat) : State := l.foldl (fun a k => a.readSpan .app 11 (s.descAddr k) 24) s

/-- The descriptor of an entry looked up by a request: its reads. -/
def State.searchEntry (s : State) (index sub : Nat) : State :=
  if index < 0x7000 || s.flag R.DICT.STATUS.DESC_BAD then s
  else s.readDescs (s.bisectReads (index * 0x100 + sub) 12 0 (s.rd R.DICT.DESC_COUNT.COUNT))

/-- The descriptor of an application entry, with its number in the table. -/
def State.appEntry (s : State) (index sub : Nat) : Option (Nat × Desc) :=
  if s.flag R.DICT.STATUS.DESC_BAD then none
  else (s.bisect (index * 0x100 + sub) 12 0 (s.rd R.DICT.DESC_COUNT.COUNT)).map (fun p => (p.1, descOf p.2))

/-- The descriptor of an entry (R533). -/
def State.entry (s : State) (index sub : Nat) : Option Desc :=
  if 0x7000 ≤ index ∧ index ≤ 0x7FFF then (s.appEntry index sub).map Prod.snd
  else if 0x1000 ≤ index ∧ index < 0x7000 then s.romEntry index sub
  else none

/-- The bit of DICT.PDIRTY that a written PARAM entry sets (Table DICT-10): 31 for the boot ROM table; for the application
table the number among its PARAM descriptors, at most 30. -/
def State.pdirtyBit (s : State) (index sub : Nat) : Nat :=
  if index < 0x7000 then 31
  else
    match s.appEntry index sub with
    | none => 30
    | some (k, _) =>
      min 30 ((List.range k).filter (fun i => match s.descBytes i with
        | none => false
        | some b => (descOf b).kind == backParam)).length

/-- Whether the application table from its `k`-th descriptor on is in order and within bounds. -/
def State.tableOk (s : State) (prev : Nat) : List Nat → Bool
  | [] => true
  | k :: r =>
    match s.descBytes k with
    | none => false
    | some b =>
      let key := (descOf b).key
      decide (prev < key) &&
        s.descOk b (fun i e => (s.bisect (i * 0x100 + e) 12 0 (s.rd R.DICT.DESC_COUNT.COUNT)).map (fun p => descOf p.2)) &&
        State.tableOk s key r

/-- The check of the application table (R534). -/
def State.checkTable (s : State) : State :=
  let n := s.rd R.DICT.DESC_COUNT.COUNT
  let placed := decide (n ≤ 1024) && s.rd R.DICT.DESC_BASE.ADDR % 8 == 0
  let s1 := if placed then s.readDescs (List.range n) else s
  if placed && s.tableOk 0 (List.range n) then s1.clear R.DICT.STATUS.DESC_BAD
  else (s1.raise R.DICT.STATUS.DESC_BAD).log 0x0604 []

end Sys2Proof.Machine
end

