-- ==== Sys2Proof/Machine/Dma.lean ====
section
/-! DEFINITION. The DMA channels (ch. 24) apart from the units they move: descriptors and their loads, triggers, the end of a
descriptor, pause and stop, the receive ring of channel 0. -/

namespace Sys2Proof.Machine

open Sys2Proof

/-! ### The CTL word (Table DMA-1) -/

def State.dmaCtl (s : State) (ch : Nat) : Nat := s.rd (R.DMA.CTL.CTL ch)
def State.dmaCount (s : State) (ch : Nat) : Nat := s.dmaCtl ch % 0x10000
def State.dmaSize (s : State) (ch : Nat) : Nat := 2 ^ bitsOf (s.dmaCtl ch) 16 2
def State.dmaEnd (s : State) (ch : Nat) : Nat := bitsOf (s.dmaCtl ch) 21 3
def State.dmaSlot (s : State) (ch : Nat) : Nat := bitsOf (s.dmaCtl ch) 24 5

/-- Whether a descriptor is refused (R615). -/
def State.descRefused (s : State) (ch : Nat) : Bool :=
  let ctl := s.dmaCtl ch
  bitsOf ctl 16 2 == 3 || bitsOf ctl 29 3 != 0 || s.rd (R.DMA.SRC.ADDR ch) % s.dmaSize ch != 0 ||
    s.rd (R.DMA.DST.ADDR ch) % s.dmaSize ch != 0 || s.rd (R.DMA.NEXT.NEXT ch) % 4 != 0

/-! ### Channels -/

/-- Whether channel 0 is in ring mode (R625). -/
def State.ringMode (s : State) (ch : Nat) : Bool := ch == 0 && s.flag R.DMA.CTRL.CH0_RING

/-- STAT.STATE of a channel. -/
def State.dmaState (s : State) (ch n : Nat) : State := s.wr (R.DMA.STAT.STATE ch) n
def dmaIdle : Nat := 0
def dmaWait : Nat := 1
def dmaRun : Nat := 2
def dmaPaused : Nat := 3
def dmaFlash : Nat := 4

/-- Whether a channel is idle or paused, so that firmware may rewrite its registers (Table DMA-4). -/
def State.dmaWritable (s : State) (ch : Nat) : Bool :=
  !s.ringMode ch && (s.rd (R.DMA.STAT.STATE ch) == dmaIdle || s.rd (R.DMA.STAT.STATE ch) == dmaPaused)

/-- A channel without a descriptor: none loaded, none started. -/
def State.dmaDrop (s : State) (ch : Nat) : State :=
  { s with dma := { s.dma with
      loaded := s.dma.loaded.filter (fun c => c != ch), started := s.dma.started.filter (fun c => c != ch) } }

/-- The chain of a channel ends: EN cleared, IDLE. -/
def State.dmaHalt (s : State) (ch : Nat) : State := ((s.dmaDrop ch).clear (R.DMA.CFG.EN ch)).dmaState ch dmaIdle

/-- The chain of a channel ends with a cause and IRQ.ERR (R615, R620). -/
def State.dmaError (s : State) (ch cause : Nat) : State :=
  ((s.dmaHalt ch).wr (R.DMA.STAT.CAUSE ch) cause).wrBit R.DMA.IRQ.ERR ch true

/-- A descriptor whose trigger has come. -/
def State.dmaBegin (s : State) (ch : Nat) : State :=
  ({ s with dma := { s.dma with started := s.dma.started ++ [ch] } } : State).dmaState ch dmaRun

/-! ### Triggers (Table DMA-2) -/

/-- TRIG of a channel; 11 to 15 act as 0. -/
def State.dmaTrig (s : State) (ch : Nat) : Nat :=
  let t := s.rd (R.DMA.CFG.TRIG ch)
  if t ≥ 11 then 0 else t

/-- Whether a request line is raised: a byte waits in a receive FIFO, or a transmit FIFO has room. -/
def State.unitLine (s : State) (t : Nat) : Bool :=
  match t with
  | 1 => !(s.uart 0).rx.isEmpty
  | 2 => decide ((s.uart 0).tx.length < 16)
  | 3 => !(s.uart 1).rx.isEmpty
  | 4 => decide ((s.uart 1).tx.length < 16)
  | 5 => !s.ports.spiRx.isEmpty
  | 6 => decide (s.ports.spiTx.length < 8)
  | 7 => !s.ports.i2cRx.isEmpty
  | 8 => decide (s.ports.i2cTx.length < 4)
  | _ => false

/-- Whether a trigger lets one unit move per request. -/
def isUnitTrig (t : Nat) : Bool := decide (1 ≤ t) && decide (t ≤ 8)

/-- A slot that a channel takes is no longer offered to others (R617). -/
def State.takeGiven (s : State) (n : Nat) : State :=
  { s with dma := { s.dma with given := s.dma.given.filter (fun m => m != n) } }

/-- Whether a channel waits for a slot with the LOFT trigger. -/
def State.waitsSlot (s : State) (n ch : Nat) : Bool :=
  s.flag (R.DMA.CFG.EN ch) && s.rd (R.DMA.STAT.STATE ch) == dmaWait && s.dma.loaded.contains ch && s.dmaTrig ch == 9 &&
    s.dmaSlot ch == n && !s.ringMode ch

/-- A descriptor loaded: refused, or started as its trigger lets it, or left waiting (R615 to R617).  A descriptor of no
unit needs no request of a unit trigger. -/
def State.dmaArm (s : State) (ch : Nat) : State :=
  let t := s.dmaTrig ch
  if s.descRefused ch then s.dmaError ch 7
  else if s.dma.started.contains ch then s.dmaState ch dmaRun
  else if t = 0 then s.dmaBegin ch
  else if t = 9 then
    if (s.slot (s.dmaSlot ch)).owner = ownDma then (s.takeGiven (s.dmaSlot ch)).dmaBegin ch else s.dmaState ch dmaWait
  else if t = 10 then (if s.flag (R.FLASHC.STATUS.BUSY .app) then s.dmaState ch dmaWait else s.dmaBegin ch)
  else if s.dmaCount ch = 0 then s.dmaBegin ch
  else s.dmaState ch dmaWait

/-! ### Loads -/

/-- Whether a channel with BUSY_WAIT has to wait before it reads an address (R624). -/
def State.waitsFlash (s : State) (ch a : Nat) : Bool :=
  s.flag (R.DMA.CFG.BUSY_WAIT ch) &&
    (match flashArray .app ((s.unwindow a).getD a) with
      | none => false
      | some arr => s.arrayBusy arr)

/-- `n` words read by a channel, in order, until one faults: the words and the state; `last` holds the fault. -/
def State.dmaReadWords (s : State) (ch a : Nat) : Nat → List Nat × State
  | 0 => ([], s)
  | n + 1 =>
    let s1 := s.memAccess .app (2 + ch) kindRead 4 a 0 false
    if s1.last.cause ≠ 0 then ([], s1)
    else
      let r := s1.dmaReadWords ch (a + 4) n
      (s1.last.data :: r.1, r.2)

/-- The descriptor at NEXT loaded into SRC, DST, CTL and NEXT (R614); a read that faults ends the chain (R623), one that
UNDER holds is made when the channel next goes on (R61). -/
def State.dmaLoad (s : State) (ch : Nat) : State :=
  let a := s.rd (R.DMA.NEXT.NEXT ch)
  if s.waitsFlash ch a then s.dmaState ch dmaFlash
  else if s.underHolds .app a then s.dmaState ch dmaRun
  else
    let r := s.dmaReadWords ch a 4
    match r.1 with
    | [src, dst, ctl, next] =>
      let s1 := (((r.2.wr (R.DMA.SRC.ADDR ch) src).wr (R.DMA.DST.ADDR ch) dst).wr (R.DMA.CTL.CTL ch) ctl).wr
        (R.DMA.NEXT.NEXT ch) next
      ({ s1 with dma := { s1.dma with loaded := s1.dma.loaded ++ [ch] } } : State).dmaArm ch
    | _ => r.2

/-- A channel goes on from its registers as they stand (R614, R621, R622; DEDUCED: with no unit left and a following
descriptor it loads that). -/
def State.dmaGo (s : State) (ch : Nat) : State :=
  if s.flag (R.DMA.CFG.PAUSE ch) then s.dmaState ch dmaPaused
  else if s.ringMode ch then s.dmaState ch dmaWait
  else if s.dma.loaded.contains ch then s.dmaArm ch
  else if s.dmaCount ch = 0 ∧ s.rd (R.DMA.NEXT.NEXT ch) ≠ 0 then
    if s.rd (R.DMA.NEXT.NEXT ch) % 4 ≠ 0 then s.dmaError ch 7 else s.dmaLoad ch
  else ({ s with dma := { s.dma with loaded := s.dma.loaded ++ [ch] } } : State).dmaArm ch

/-! ### The end of a descriptor (R619, R620) -/

/-- The end action: the state and the result of the Loft command. -/
def State.dmaAction (s : State) (ch : Nat) (lastAddr : Option Nat) : State × Nat :=
  let n := s.dmaSlot ch
  let len := match lastAddr with
    | some a => if slotAddr n ≤ a ∧ a < slotAddr (n + 1) then a + s.dmaSize ch - slotAddr n else 0x3FF
    | none => 0x3FF
  let e := s.dmaEnd ch
  if e = 7 then (s.meets ownDma n).free ownDma n
  else if e = 0 ∨ e = 3 ∨ e = 6 then (s, loftOk)
  else (s.meets ownDma n).give ownDma n e len

/-- What follows the read-back: the end action, IRQ.DONE, and the next descriptor or the end of the chain. -/
def State.dmaFinish (s : State) (ch : Nat) (lastAddr : Option Nat) : State :=
  let r := s.dmaAction ch lastAddr
  if r.2 ≠ loftOk then r.1.dmaError ch 4
  else
    let last := s.rd (R.DMA.NEXT.NEXT ch) == 0
    let s1 := r.1.count (R.DMA.STAT.DESCS ch) 1
    let s2 := if bit (s.dmaCtl ch) 20 || last then s1.wrBit R.DMA.IRQ.DONE ch true else s1
    if last then s2.dmaHalt ch
    else if s2.flag (R.DMA.CFG.PAUSE ch) then (s2.dmaDrop ch).dmaState ch dmaPaused
    else (s2.dmaDrop ch).dmaLoad ch

/-- Whether the last write of a descriptor is read back as memory: a register is read back at its set alias, which returns
zero, and a flash range is not read back. -/
def readsBack (a : Nat) : Bool :=
  match appArea a with
  | .sram => true
  | .loft => true
  | .retention => true
  | _ => false

/-- The end of a descriptor whose last unit was written at `lastAddr`; none for a descriptor of no unit. -/
def State.dmaEndDesc (s : State) (ch : Nat) (lastAddr : Option Nat) : State :=
  match lastAddr with
  | none => s.dmaFinish ch none
  | some a =>
    if readsBack a then
      let s1 := s.memAccess .app (2 + ch) kindRead (s.dmaSize ch) a 0 false
      if s1.last.cause ≠ 0 then s1 else s1.dmaFinish ch lastAddr
    else s.dmaFinish ch lastAddr

/-! ### Commands on a channel (R621, R622) -/

/-- Whether a channel number is one of the eight. -/
def isChannel (ch : Nat) : Bool := decide (ch < 8)

/-- Whether a channel has a unit outstanding, which completes whatever is written to the channel meanwhile (R213). -/
def State.unitOut (s : State) (ch : Nat) : Bool := s.fabric.units.any (fun u => u.ch == ch)

/-- DMA_ENABLE (R622): a channel that is enabled already goes on. -/
def execDmaEnable (ch : Nat) (s : State) : Host.Outcome State Fault Refusal :=
  if isChannel ch && s.appOn && !s.flag (R.DMA.CFG.EN ch) then
    .next (if s.unitOut ch then s.raise (R.DMA.CFG.EN ch) else (s.raise (R.DMA.CFG.EN ch)).dmaGo ch)
  else .next s

/-- DMA_DISABLE (R622): stopped at a unit boundary with its registers exact, IDLE, no DONE; a unit that is outstanding
completes first (R213). -/
def execDmaDisable (ch : Nat) (s : State) : Host.Outcome State Fault Refusal :=
  if isChannel ch && s.appOn then .next (if s.unitOut ch then s.clear (R.DMA.CFG.EN ch) else s.dmaHalt ch) else .next s

/-- DMA_PAUSE (R621): PAUSED from the next unit boundary on; a raised request is not withdrawn (R213). -/
def execDmaPause (ch : Nat) (s : State) : Host.Outcome State Fault Refusal :=
  if isChannel ch && s.appOn then
    let s1 := s.raise (R.DMA.CFG.PAUSE ch)
    .next (if s1.flag (R.DMA.CFG.EN ch) && !s1.unitOut ch then s1.dmaState ch dmaPaused else s1)
  else .next s

/-- DMA_RESUME (R621). -/
def execDmaResume (ch : Nat) (s : State) : Host.Outcome State Fault Refusal :=
  if isChannel ch && s.appOn && s.flag (R.DMA.CFG.PAUSE ch) then
    let s1 := s.clear (R.DMA.CFG.PAUSE ch)
    .next (if s1.flag (R.DMA.CFG.EN ch) && !s1.unitOut ch then s1.dmaGo ch else s1)
  else .next s

/-- DMA_TRIGGER (R616, R617): the trigger of a waiting channel has come; while APP is not On or the channel is paused it is
held, since the level it stands for stays. -/
def execDmaTrigger (ch : Nat) (s : State) : Host.Outcome State Fault Refusal :=
  let t := s.dmaTrig ch
  let n := s.dmaSlot ch
  if isChannel ch && s.appOn && s.flag (R.DMA.CFG.EN ch) && s.rd (R.DMA.STAT.STATE ch) == dmaWait &&
      s.dma.loaded.contains ch && !s.ringMode ch then
    if t = 9 then
      if s.dma.given.contains n && (s.slot n).owner == ownDma && !(List.range ch).any (s.waitsSlot n) then
        .next ((s.takeGiven n).dmaBegin ch)
      else .next s
    else if t = 10 then (if s.flag (R.FLASHC.STATUS.BUSY .app) then .next s else .next (s.dmaBegin ch))
    else if s.unitLine t then .next (s.dmaBegin ch)
    else .next s
  else .next s

/-- A write of TRIG, PAUSE, BUSY_WAIT and EN in CFG (Table DMA-4): TRIG of channel 0 ignores writes in ring mode. -/
def State.writeDmaCfg (s : State) (ch data : Nat) : State :=
  let s1 := if s.ringMode ch then s else s.wr (R.DMA.CFG.TRIG ch) (bitsOf data 4 4)
  let s2 := s1.wr (R.DMA.CFG.BUSY_WAIT ch) (bitsOf data 8 1)
  let s3 :=
    if bit data 1 = s2.flag (R.DMA.CFG.PAUSE ch) then s2
    else if bit data 1 then s2.via (execDmaPause ch) else s2.via (execDmaResume ch)
  if bit data 0 = s3.flag (R.DMA.CFG.EN ch) then s3
  else if bit data 0 then s3.via (execDmaEnable ch) else s3.via (execDmaDisable ch)

/-! ### The receive ring (R516, R625, R626) -/

/-- FREE of the ring. -/
def State.ringFree (s : State) : Nat :=
  let n := s.ringWords
  n - 1 - (s.rd R.DMA.RING_WR.WR + n - s.rd R.DMA.RING_RD.RD % n) % n

/-- Word `i` of a record written at its place in the ring. -/
def State.ringPut (s : State) (i w : Nat) : State :=
  s.memAccess .app 2 kindWrite 4 (s.rd R.DMA.RING_BASE.ADDR + 4 * ((s.rd R.DMA.RING_WR.WR + i) % s.ringWords)) w false

/-- The words of a record from `i` on read from the RX FIFO and written, until one write faults. -/
def State.ringMove (s : State) (i : Nat) : Nat → State
  | 0 => s.done 0
  | n + 1 =>
    let s0 := s.via execRxdataRead
    let s1 := s0.ringPut i s0.last.data
    if s1.last.cause ≠ 0 then s1 else State.ringMove s1 (i + 1) n

/-- Words read from the RX FIFO and discarded. -/
def State.skipWords (s : State) : Nat → State
  | 0 => s
  | n + 1 => State.skipWords (s.via execRxdataRead) n

/-- Whether channel 0 can drain a record now. -/
def State.ringReady (s : State) : Bool :=
  s.appOn && !s.flag (R.PWR.PACE_STATUS.UNDER .app) && s.ringDrains && s.rfReady && !s.link.rx.isEmpty

/-- DMA_RING_RECORD (R516, R625): one record moves into the ring, or is read and discarded; a fault ends the channel and
leaves RING_WR. -/
def execDmaRingRecord (s : State) : Host.Outcome State Fault Refusal :=
  if !s.ringReady then .next s
  else
    let s1 := s.via execRxdataRead
    let w := s1.last.data
    let n := 3 + (w % 1024 + 3) / 4
    if n ≤ s1.ringFree then
      let s0 := s1.ringPut 0 w
      let s2 := if s0.last.cause ≠ 0 then s0 else s0.ringMove 1 (n - 1)
      if s2.last.cause ≠ 0 then .next s2
      else .next ((s2.wr R.DMA.RING_WR.WR ((s1.rd R.DMA.RING_WR.WR + n) % s1.ringWords)).raise R.DMA.IRQ.RING).updateMode
    else .next ((s1.skipWords (n - 1)).count R.DMA.RING_STAT.DROPPED 1).updateMode

/-- RING_RD_WRITE (R626): a value of RING_WORDS or more is ignored. -/
def execRingRdWrite (v : Nat) (s : State) : Host.Outcome State Fault Refusal :=
  if s.appOn && decide (v < s.ringWords) then .next (s.wr R.DMA.RING_RD.RD v) else .next s

/-- A commit of RING_BASE or RING_WORDS empties the ring (R626); a change of CH0_RING shows in the channel's state. -/
def State.ringCommitted (s : State) (moved : Bool) : State :=
  let s1 := if moved then (s.clear R.DMA.RING_WR.WR).clear R.DMA.RING_RD.RD else s
  if s1.flag (R.DMA.CFG.EN 0) && s1.rd (R.DMA.STAT.STATE 0) != dmaPaused then (s1.dmaDrop 0).dmaGo 0 else s1

end Sys2Proof.Machine
end

