-- ==== Sys2Proof/Machine/Commit.lean ====
section
/-! DEFINITION. What a commit of a block brings about beside its new values (ch. 06), and the write of CFG_COMMIT. -/

namespace Sys2Proof.Machine

open Sys2Proof

/-- Whether a shadow holds a value for a field. -/
def touches (sh : RegFile) (f : Fld) : Bool := (sh.find f.key).isSome

/-- Whether a shadow holds a value for any field of a register. -/
def touchesReg (sh : RegFile) (addr : Nat) : Bool := (regFields addr).any (touches sh)

/-- The shadow of the regions whose LOCK has been committed follows the committed copy: they ignore commits (R265). -/
def State.freezeMxo (s : State) : State :=
  let keys := (s.mxoFrozen.flatMap mxoFields).map Fld.key
  { s with shadow := s.shadow.filter (fun e => !keys.contains e.1) }

/-- The regions whose LOCK is committed. -/
def State.noteMxo (s : State) : State :=
  { s with mxoFrozen := (List.range 4).filter (fun i => s.mxoFrozen.contains i || s.flag (R.MFLASHC.MXO.LOCK i)) }

/-- What a commit of a window brings about, by what its shadow held. -/
def State.afterCommit (s : State) (base : Nat) (sh : RegFile) : State :=
  match base with
  | 0x40001000 =>
    let s1 := s.via execShipRequest
    if touchesReg sh R.PWR.RES_CTRL.CHG_EN.addr || touchesReg sh R.PWR.RES_CAP.CAP.addr then s1.reserveCommitted else s1
  | 0x40004000 =>
    if touches sh R.DMA.CTRL.CH0_RING || touches sh R.DMA.RING_BASE.ADDR || touches sh R.DMA.RING_WORDS.WORDS then
      s.ringCommitted (touches sh R.DMA.RING_BASE.ADDR || touches sh R.DMA.RING_WORDS.WORDS)
    else s
  | 0x40007000 =>
    if (touches sh R.DICT.CTRL.EN && s.flag R.DICT.CTRL.EN) || touches sh R.DICT.DESC_BASE.ADDR ||
        touches sh R.DICT.DESC_COUNT.COUNT then s.checkTable
    else s
  | 0x40009000 => s.updateMesh.meshCommitted.gleanCommitted
  | 0x4000C000 => s.followPosc
  | 0x4000D000 =>
    let s1 := s.followPosc
    if touches sh R.UART1.SVC.FORM || touches sh (R.UART.CFG.BAUD 1) then s1.svcCommitted else s1
  | 0x4000E000 => s.followPosc
  | 0x4000F000 => s.followPosc
  | 0x40010000 => forEach 4 (fun n a => if touches sh (R.FIO.CFG.MODE n) then a.fioCommitted n else a) s
  | 0x40015000 => if touches sh R.UPDATE.CTRL.RX_EN then s.updateCommitted else s
  | 0x48001000 => if s.power.shipAccepted && !s.flag R.MPWR.MCTL.SHIP_OK then s.refuseShip else s
  | 0x48004000 => s.noteMxo
  | 0x4800A000 =>
    let s1 := if touches sh R.TAMPER.CFG.MODE0 then s.tamperCommitted 0 else s
    if touches sh R.TAMPER.CFG.MODE1 then s1.tamperCommitted 1 else s1
  | 0x4800B000 => s.lcdFollow
  | _ => s

/-- The three copies of each voted field that a commit writes (R190): no copy differs any more, and nothing is scrubbed. -/
def State.commitCopies (s : State) (base : Nat) (sh : RegFile) : State :=
  if base = 0x40009000 then forEach 8 (fun n a => if touches sh (R.LINK.DUTY_CAP.CAP n) then a.ownCopies 4 n else a) s
  else if base = 0x48004000 then
    forEach 4 (fun i a => if (mxoFields i).any (touches sh) then a.ownCopies 3 (6 + i) else a) s
  else s

/-- The commit of a block (R169). -/
def State.commit (s : State) (base : Nat) : State :=
  let s0 := if base = 0x48004000 then s.freezeMxo else s
  ((s0.commitWindow base).commitCopies base s0.shadow).afterCommit base s0.shadow

/-- A write of CFG_COMMIT (Table REG-1): DISCARD wins over COMMIT; DROPPED is W1C; without buffered configuration it has no
effect. -/
def State.writeCommit (s : State) (base data : Nat) : State :=
  if !hasCommit base then s
  else
    let s1 := if bit data 9 then s.clear (R.CFG_COMMIT.DROPPED base) else s
    if bit data 1 then s1.discardWindow base else if bit data 0 then s1.commit base else s1

end Sys2Proof.Machine
end

