-- ==== Sys2Proof/Machine/Access.lean ====
section
/-! DEFINITION. The write of a register (ch. 06): fields with a behaviour of their own, command fields, the set, clear and
toggle aliases, and offsets without a name. -/

namespace Sys2Proof.Machine

open Sys2Proof

/-- A field that a slow mirror shows set at once in the mirror too: the write completes once it can be read. -/
def State.wrSeen (s : State) (f : Fld) (v : Nat) : State :=
  let s1 := s.wr f v
  { s1 with mirror := s1.mirror.put f.key (v % 2 ^ f.width) }

/-! ### SYSCTL -/

/-- EVLOG_SEL written (R563): W0 to W5 hold a copy of the position. -/
def State.selectLog (s : State) (k : Nat) : State :=
  let b := s.logBytes (k % 64)
  forEach 6 (fun n a => a.wrSeen (R.SYSCTL.EVLOG_W.WORD n) (leNat ((b.drop (4 * n)).take 4)))
    (s.wr R.SYSCTL.EVLOG_SEL.POS k)

/-- EVLOG_SELECT (R563, R565): APP selects a position of the system event log. -/
def execEvlogSelect (k : Nat) (s : State) : Host.Outcome State Fault Refusal :=
  if s.appOn then .next (s.selectLog k) else .next s

/-- The windows with buffered configuration, as bits of a group mask (Table REG-8). -/
def groupBits : Nat :=
  ((List.range 22).filter (fun n => hasCommit (0x40000000 + 0x1000 * n))).foldl (fun a n => a + 2 ^ n) 0

/-- A write of COMMIT_GROUPn: bits of windows without RWC fields read 0; group 3 is DICT's (R177). -/
def State.setGroup (s : State) (f : Fld) (d : Nat) : State :=
  if f == R.SYSCTL.COMMIT_GROUP.MASK 3 then s else s.wr f (d &&& groupBits)

/-- RW fields of SYSCTL. -/
def State.setSysctl (s : State) (f : Fld) (d : Nat) : State :=
  if f == R.SYSCTL.EVLOG_SEL.POS then s.selectLog d
  else if 0x40000010 ≤ f.addr ∧ f.addr < 0x40000020 then s.setGroup f d
  else s.wr f d

/-! ### ARB (R209) -/

/-- Every stored priority 7 but that of channel 0 rewritten as 6. -/
def State.lowerPrio (s : State) : State :=
  forEach 15 (fun n a => if n ≠ 2 ∧ a.rd (R.ARB.PRIO.P n) = 7 then a.wr (R.ARB.PRIO.P n) 6 else a) s

/-- RW fields of ARB. -/
def State.setArb (s : State) (f : Fld) (d : Nat) : State :=
  if f == R.ARB.RESERVE.CH0 then
    let s1 := s.wr f d
    if d % 2 = 1 ∧ s.flag f = false then s1.lowerPrio else s1
  else if s.flag R.ARB.RESERVE.CH0 && (f.addr == 0x40005000 || f.addr == 0x40005004) then
    if f == R.ARB.PRIO.P 2 then s else s.wr f (min 6 (d % 8))
  else s.wr f d

/-! ### Other windows -/

/-- RW fields of DICT: a floor below its present value is ignored, any other write clears UNSET (R538). -/
def State.setFloor (s : State) (n v : Nat) : State :=
  if v % 2 ^ 32 < s.rd (R.DICT.FLOOR.FC n) then s
  else (s.wr (R.DICT.FLOOR.FC n) v).wrBit R.DICT.FLOOR_STAT.UNSET n false

/-- FLOOR_WRITE (R538). -/
def execFloorWrite (n v : Nat) (s : State) : Host.Outcome State Fault Refusal :=
  if s.appOn && decide (n < 5) then .next (s.setFloor n v) else .next s

/-- RW fields of DICT. -/
def State.setDict (s : State) (f : Fld) (d : Nat) : State :=
  if f.addr ≥ 0x40007020 ∧ f.addr < 0x40007034 then s.setFloor ((f.addr - 0x40007020) / 4) d else s.wr f d

/-- RW fields of DMA apart from CFG: SRC, DST, CTL and NEXT take effect only while idle or paused (Table DMA-4). -/
def State.setDma (s : State) (f : Fld) (d : Nat) : State :=
  if f == R.DMA.RING_RD.RD then s.via (execRingRdWrite d)
  else if f.addr < 0x400040C0 ∧ (f.addr - 0x40004000) % 24 < 16 then
    if s.dmaWritable ((f.addr - 0x40004000) / 24) then s.wr f d else s
  else s.wr f d

/-- Alarm M judged after a write of AT or EN (Table MET-3): armed with AT not later than SEC it fires at once. -/
def State.judgeAlarm (s : State) : State :=
  if s.flag R.MAON.ALARM_M_CTL.EN && decide (s.rd R.MAON.ALARM_M.AT ≤ s.utime) then
    (s.raise R.MAON.ALARM_M_CTL.MISSED).fireAlarmM
  else s

/-- RW fields of MPWR. -/
def State.setMpwr (s : State) (f : Fld) (d : Nat) : State :=
  if f == R.MPWR.MCTL.RUN then s.via (execMctlRun (d != 0))
  else if f == R.MPWR.MCTL.KEEP then s.via (execMctlKeep (d != 0))
  else if f == R.MPWR.MCTL.SERVICE then s.via (execServiceGrant (d != 0))
  else if f == R.MPWR.WDT.PERIOD then s.metPeriod d
  else s.wr f d

/-- RW fields of LINK. -/
def State.setLinkField (s : State) (f : Fld) (d : Nat) : State :=
  if f == R.LINK.WMB_MCNT.MCNT then s.via (execWmbMcntWrite d)
  else if f == R.LINK.MESH_GEN.GEN then s.via (execMeshGenWrite d)
  else if f == R.LINK.FWD_STAT.PEAK then s.via (execFwdPeakWrite 0)
  else if f == R.LINK.RX_STAT.PEAK then s.via (execFwdPeakWrite 1)
  else s.wr f d

/-- RW fields of CMACE. -/
def State.setCmace (s : State) (f : Fld) (d : Nat) : State :=
  if f == R.CMACE.FCNT2.FC then s.via (execFcntWrite 2 d)
  else if f == R.CMACE.FCNT5.FC then s.via (execFcntWrite 5 d)
  else s.wr f d

/-- RW fields of the ports. -/
def State.setPortField (s : State) (f : Fld) (d : Nat) : State :=
  if f == R.UART.DATA.DATA 0 then s.uartPush 0 d
  else if f == R.UART.DATA.DATA 1 then s.uartPush 1 d
  else if f == R.SPI.DATA.DATA then s.spiPush d
  else if f == R.I2C.DATA.DATA then s.i2cPush d
  else if f.addr ≥ 0x40010020 ∧ f.addr < 0x40010030 then (s.wr f d).fioHit ((f.addr - 0x40010020) / 4)
  else s.wr f d

/-- An RW field set to a value, with what its table says a write does. -/
def State.setField (s : State) (env : List Nat) (f : Fld) (d : Nat) : State :=
  match windowBase f.addr with
  | 0x40000000 => s.setSysctl f d
  | 0x40001000 => if f == R.PWR.DOMAIN_REQ.RF_HOLD then s.via (execRfHold (d != 0) (env.headD 0)) else s.wr f d
  | 0x40004000 => s.setDma f d
  | 0x40005000 => s.setArb f d
  | 0x40006000 => s.setCmace f d
  | 0x40007000 => s.setDict f d
  | 0x40009000 => s.setLinkField f d
  | 0x4000B000 => if f == R.LOFTC.STATS.FREE_MIN .app then s.wr f s.freeNow else s.wr f d
  | 0x4000C000 => s.setPortField f d
  | 0x4000D000 => s.setPortField f d
  | 0x4000E000 => s.setPortField f d
  | 0x4000F000 => s.setPortField f d
  | 0x40010000 => s.setPortField f d
  | 0x40015000 => if f == R.UPDATE.ACTIVE.BANK then s.via (execUpdActiveWrite d env) else s.wr f d
  | 0x48001000 => s.setMpwr f d
  | 0x48004000 => if f == R.MFLASHC.MPROT.ACTIVE then s.writeActive d else s.wr f d
  | 0x4800C000 => if f == R.LOFTC.STATS.FREE_MIN .met then s.wr f s.freeNow else s.wr f d
  | _ => s.wr f d

/-! ### Registers written as one -/

/-- CFG of a DMA channel. -/
def dmaCfgOf (a : Nat) : Option Nat :=
  if 0x40004000 ≤ a ∧ a < 0x400040C0 ∧ (a - 0x40004000) % 24 = 16 then some ((a - 0x40004000) / 24) else none

/-- The IMG registers of MLOFTC (R291). -/
def isImgReg (a : Nat) : Bool := decide (0x4800C0B0 ≤ a) && decide (a ≤ 0x4800C0BC)

/-- ALARM_M and its control after a plain write or an alias. -/
def isAlarmReg (a : Nat) : Bool := a == 0x4800D008 || a == 0x4800D00C

/-- A plain write to RADIO.TEST (R417, R418): nothing without the key; MODE 0 stops a test. -/
def State.writeTest (s : State) (data : Nat) (env : List Nat) : State :=
  if bitsOf data 8 8 ≠ 0xB4 then s
  else if data % 4 = 0 then s.via (execTestStop (env.headD 0))
  else s.startTest (data % 4) 0xB4 (sInt 8 (s.rd R.RADIO.STATUS.TEMP))

/-! ### Command fields -/

/-- Readings of the MADC that a write brings along (R305): sensor and reference of the first conversion, then of the second,
for each. -/
def envReadings : List Nat → List Reading
  | a :: b :: c :: d :: r => { first := { sensor := sInt 32 a, ref := b }, second := { sensor := sInt 32 c, ref := d } } :: envReadings r
  | _ => []

/-- A command given where a bit is written as 1. -/
def State.onBit (s : State) (data n : Nat) (f : State → Host.Outcome State Fault Refusal) : State :=
  if bit data n then s.via f else s

/-- A write of LOFTC.CMD or MLOFTC.CMD (Table MET-10). -/
def State.writeLoftCmd (s : State) (sd : Side) (data : Nat) : State :=
  let slot := data % 32
  let party := bitsOf data 16 3
  let len := bitsOf data 20 10
  match bitsOf data 8 3 with
  | 1 => s.via (execClaim sd party slot)
  | 2 => s.via (execClaimAny sd party)
  | 3 => s.via (execGive sd party slot (bitsOf data 12 3) len)
  | 4 => s.via (execPublish sd party slot len)
  | 5 => s.via (execUnpublish sd party slot)
  | 6 => s.via (execFree sd party slot)
  | _ => s.cmdResult sd slot loftBadTarget

/-- The LOAD of a write of KEY_CTL (R570, R571). -/
def State.keyCtlLoad (s : State) (data : Nat) : State :=
  s.onBit data 31 (if bit data 12 then execKeyWrappedLoad data else execKeyLoad data)

/-- The ERASE of a write of KEY_CTL (R570). -/
def State.keyCtlErase (s : State) (data : Nat) : State := s.onBit data 30 (execKeyErase data)

/-- A write of KEY_CTL (R570 to R572): which of LOAD and ERASE set together comes first is free. -/
def State.writeKeyCtl (s : State) (data : Nat) : State :=
  if bit data 30 && bit data 31 then
    (if s.fresh.1 % 2 = 0 then (s.fresh.2.keyCtlErase data).keyCtlLoad data else (s.fresh.2.keyCtlLoad data).keyCtlErase data)
  else (s.keyCtlErase data).keyCtlLoad data

/-- A write of SEAL_CMD: 0x5 SEAL, 0x6 RESEAL. -/
def State.writeSealCmd (s : State) (data : Nat) : State :=
  if data % 16 = 5 then s.via (execSealSet (bitsOf data 8 8))
  else if data % 16 = 6 then s.via (execSealReseal (bitsOf data 8 8))
  else s

/-- The groups a write of COMMIT_FIRE names, in ascending order; bit 3 is ignored (R176, R177). -/
def fireGroups (data : Nat) : List Nat := (List.range 3).filter (bit data)

/-- A fire queued behind those in progress (R176). -/
def State.queueFire (s : State) (j : FireJob) : State :=
  { s with fabric := { s.fabric with fires := s.fabric.fires ++ [j] } }

/-- What the command bits of a plain write do. -/
def State.commandWrite (s : State) (req a data : Nat) (env : List Nat) : State :=
  match a with
  | 0x40000020 =>
    if (fireGroups data).isEmpty then s
    else s.queueFire { req := req, dict := false, groups := fireGroups data, stopped := env, applied := false }
  | 0x40001018 => s.onBit data 0 (execWakeClr .app)
  | 0x48001018 => s.onBit data 0 (execWakeClr .met)
  | 0x4000200C => s.via (execSoftwareReset (data % 256) (env.headD 0))
  | 0x40002010 => s.via (execWatchdogFeed .app (data % 256))
  | 0x48001000 => s.onBit data 4 execFreezeDone
  | 0x48001024 => s.via (execWatchdogFeed .met (data % 256))
  | 0x48001084 => s.writeSealCmd data
  | 0x48001088 => s.advanceArb .met req (bitsOf data 24 8) 2 (bitsOf data 8 7)
  | 0x48001090 => s.onBit data 0 execEchkStart
  | 0x40003044 => s.wr (R.FLASHC.PW.PW 0) data
  | 0x40003048 => s.wr (R.FLASHC.PW.PW 1) data
  | 0x4000304C => s.wr (R.FLASHC.PW.PW 2) data
  | 0x40003050 => s.wr (R.FLASHC.PW.PW 3) data
  | 0x40003054 => s.via (execProtRelock (data % 512) (bitsOf data 24 8))
  | 0x4000305C => s.advanceArb .app req (bitsOf data 24 8) (data % 4) (bitsOf data 8 7)
  | 0x48004040 => s.via (execMprotLock (bitsOf data 8 5))
  | 0x4000B080 => s.writeLoftCmd .app data
  | 0x4800C080 => s.writeLoftCmd .met data
  | 0x4000B098 => s.onBit data 31 execLoftCopy
  | 0x48006008 => ((s.onBit data 0 execStripStart).onBit data 1 execStripCont).onBit data 2 (execStripAbort (envReadings env))
  | 0x4800700C => (s.onBit data 0 execPtStart).onBit data 2 (execPtAbort (envReadings env))
  | 0x48008014 => (s.onBit data 0 execFlowStart).onBit data 1 execFlowAbort
  | 0x48009040 => s.via (execTouchCmdRecal (data % 16))
  | 0x4800B004 => s.onBit data 0 execSwap
  | 0x48000088 => s.onBit data 0 execEvqPop
  | 0x4000A008 => (s.onBit data 0 execTunerRetuneCmd).onBit data 1 execTunerForget
  | 0x40009038 => s.onBit data 0 execDonePop
  | 0x40006020 => s.writeKeyCtl data
  | 0x40006060 => if bit data 31 then s.startJob 1 (data % 8) else s
  | 0x400060A8 => s.onBit data 1 (execCmacAbort (env.headD 0))
  | 0x4000D044 => s.onBit data 0 execSvcClaim
  | 0x4000F004 => s.via (execI2cTransfer (data % 0x20000))
  | 0x40015008 =>
    let s1 := ((s.onBit data 0 execUpdApply).onBit data 1 (execUpdAbandon env)).onBit data 2 (execUpdConfirm env)
    if bit data 3 then s1.startDecrypt req else s1
  | _ =>
    if 0x40006000 ≤ a ∧ a < 0x40006020 then s.wr (R.CMACE.KEY_DATA.DATA ((a - 0x40006000) / 4)) data
    else if 0x40010040 ≤ a ∧ a < 0x40010050 then s.via (execFioAdd ((a - 0x40010040) / 4) (data % 0x10000))
    else s

/-! ### Plain and alias writes -/

/-- The flags of a plain write: W1C bits clear, buffered fields enter the shadow (R168). -/
def State.writeFlags (s : State) (data : Nat) (f : Fld) : State :=
  match f.acc with
  | .w1c => s.wr f (clearBits (s.rd f) (dataFor f data))
  | .rwc => s.shadowWr f (dataFor f data)
  | .rw | .w1s | .ro | .wo | .rc => s

/-- The word a plain write stores where hardware updates the register in the same window (R185). -/
def State.contested (s : State) (ct : Contest) (a data : Nat) : Nat :=
  if ct = Contest.none then data
  else
    (regFields a).foldl
      (fun w f => w - bitsOf w f.lsb f.width * 2 ^ f.lsb + resolve f ct (s.hwValue f) (dataFor f data) % 2 ^ f.width * 2 ^ f.lsb)
      data

/-- A plain 32-bit write to a named register. -/
def State.writePlain (s : State) (req a word : Nat) (env : List Nat) (ct : Contest) : State :=
  let data := s.contested ct a word
  let s1 := (regFields a).foldl (fun x f => x.writeFlags data f) s
  let rw := (regFields a).filter (fun f => f.acc == .rw)
  let s2 :=
    match dmaCfgOf a with
    | some ch => s1.writeDmaCfg ch data
    | none =>
      if isImgReg a then s1.imgWrite a data
      else if a = 0x40008020 then s1.writeTest data env
      else rw.foldl (fun x f => x.setField env f (dataFor f data)) s1
  let s3 := if isAlarmReg a then s2.judgeAlarm else s2
  s3.commandWrite req a data env

/-- What an alias write makes of an RW field, on its live value (R165), with what hardware does to it in the same window:
the increments of a counter come on top of the result (R185). -/
def State.aliasValue (s : State) (mode d : Nat) (ct : Contest) (f : Fld) : Nat :=
  let now := s.hwValue f
  let old := if colOf f = .merge then now - dataFor f ct.adds else now
  resolve f ct now (aliasOp mode old d)

/-- One field of an alias write (R165): RW on the live value, RWC on the shadow, and only where a data bit is 1. -/
def State.aliasOne (s : State) (mode data : Nat) (env : List Nat) (ct : Contest) (f : Fld) : State :=
  let d := dataFor f data
  if d = 0 then s
  else
    match f.acc with
    | .rw => s.setField env f (s.aliasValue mode d ct f)
    | .rwc => s.shadowWr f (aliasOp mode (s.shadowRd f) d)
    | .ro | .wo | .w1c | .w1s | .rc => s

/-- The word of the RW fields of a register after an alias operation. -/
def State.aliasWord (s : State) (mode a data : Nat) (ct : Contest) : Nat :=
  wordOf (fun f => if dataFor f data = 0 then s.hwValue f else s.aliasValue mode (dataFor f data) ct f)
    ((regFields a).filter (fun f => f.acc == .rw))

/-- An alias write to a named register. -/
def State.writeAlias (s : State) (mode a data : Nat) (env : List Nat) (ct : Contest) : State :=
  let rw := (regFields a).filter (fun f => f.acc == .rw && dataFor f data != 0)
  if rw.isEmpty then (regFields a).foldl (fun x f => x.aliasOne mode data env ct f) s
  else
    match dmaCfgOf a with
    | some ch => s.writeDmaCfg ch (s.aliasWord mode a data ct)
    | none =>
      if isImgReg a then s.imgWrite a (s.aliasWord mode a data ct)
      else if a = 0x40008020 then s
      else
        let s1 := (regFields a).foldl (fun x f => x.aliasOne mode data env ct f) s
        if isAlarmReg a then s1.judgeAlarm else s1

/-- A write at the named register `a`: `mode` 0 plain, 1 to 3 set, clear, toggle. -/
def State.writeNamed (s : State) (req mode a data : Nat) (env : List Nat) (ct : Contest) : State :=
  if a % 0x100 = 0xFC then (if mode = 0 then s.writeCommit (windowBase a) data else s)
  else if mode = 0 then (if a = 0x48002014 then s else s.writePlain req a data env ct)
  else s.writeAlias mode a data env ct

/-- The register that an offset without a name reaches (R162): some register of the block, which one is free. -/
def State.reached (s : State) (a : Nat) : Nat × State :=
  let base := windowBase a
  let regs := ((windowFields base).map (fun f => f.addr)).eraseDups ++ [base + 0xFC]
  (regs.getD (s.fresh.1 % regs.length) (base + 0xFC), s.fresh.2)

/-- A write performed at a register: `env` is what the environment adds to a register's own command (log entry 3), `ct` what
hardware updates in the same window.  An offset without a name reaches some register of the block, with all that a write
of it does (R162). -/
def State.performWrite (s : State) (req mode addr data : Nat) (env : List Nat) (ct : Contest) : State :=
  let a := sharedReg (regAddr addr)
  if s.readsZero a || windowBase a == 0x40014000 then s
  else if isNamed a then s.writeNamed req mode a data env ct
  else (s.reached a).2.writeNamed req mode (s.reached a).1 data env ct

end Sys2Proof.Machine
end

