-- ==== Sys2Proof/Machine/Accesses.lean ====
section
/-! DEFINITION. Accesses as a requester makes them (ch. 06, 07): what faults, what waits for a fire or for DICT's lock, what
travels through a word bridge, and what is performed at once; memory accesses; the arbiter's decisions. -/

namespace Sys2Proof.Machine

open Sys2Proof

/-- Whether the domain of a side is On, so that it makes accesses. -/
def State.sideOn (s : State) (sd : Side) : Bool := sd.pick (s.power.app.st == .on) s.metRuns

/-! ### What holds an access -/

/-- Whether a fire in its apply phase holds the handshakes of a clockless window (R172): one that its group named at the
prepare phase. -/
def State.fireHolds (s : State) (base : Nat) : Bool :=
  match s.fabric.fires with
  | [] => false
  | j :: _ =>
    j.applied && decide (0x40000000 ≤ base) && decide (base < 0x40016000) && !rfWindows.contains base &&
      bit j.mask ((base - 0x40000000) / 0x1000)

/-- Whether a write waits for DICT's lock of its window (R177, R192): a write to its buffered fields or its CFG_COMMIT, by
anyone but DICT. -/
def State.lockWaits (s : State) (req mode addr data : Nat) : Bool :=
  s.locked (windowBase addr) && req != 11 &&
    (writesRwc mode addr data || (mode == 0 && regAddr addr % 0x100 == 0xFC))

/-- A write put aside until what holds it ends. -/
def State.putAside (s : State) (w : HeldWrite) : State :=
  { s with fabric := { s.fabric with writes := s.fabric.writes ++ [w] } }

/-! ### Writes of registers -/

/-- The word bridge of a write: that of its register, and AON_W or MAON_W for READ_SYNC, VOTE_FIX and EVLOG_SEL (R178,
R179, R189, R563). -/
def writeBridge (a : Nat) : Option Nat :=
  if a = 0x40000030 ∨ a = 0x40000040 ∨ a = 0x40000054 then some 0x01
  else if a = 0x48000030 then some 0x11
  else bridgeOf a

/-- The same for a side: the voting registers are reached through each side's own bridge. -/
def sideBridge (sd : Side) (a : Nat) : Option Nat :=
  (writeBridge a).map (fun id => if sd == .met && id == 0x01 then 0x11 else id)

/-- Whether a write is a READ_SYNC (R179). -/
def isReadSync (mode a data : Nat) : Bool :=
  mode == 0 && (a == 0x40000030 || a == 0x48000030) && bit data 0

/-- A write performed; a START of CMACE stored by an instruction from the boot ROM is ROM-marked (R581). -/
def State.performStore (s : State) (w : HeldWrite) (ct : Contest) : State :=
  if w.rom && w.mode == 0 && regAddr w.addr == R.CMACE.JOB_CTL.START.addr && bit w.data 31 then
    (s.performWrite w.req 0 w.addr (w.data % 2 ^ 31) w.env ct).startJob 6 (w.data % 8)
  else s.performWrite w.req w.mode w.addr w.data w.env ct

/-- A 32-bit write to an implemented window, after its checks: held by a fire or a lock, sent through its bridge, where a
lock of its window is met on the far side, or performed at once. -/
def State.writeChecked (s : State) (w : HeldWrite) (ct : Contest) : State :=
  let a := sharedReg (regAddr w.addr)
  if s.fireHolds (windowBase a) then s.putAside w
  else
    match if w.arrived then none else sideBridge w.sd a with
    | some id => s.enterBridge id w.req true (isReadSync w.mode a w.data) w.mode w.addr w.data
    | none => if s.lockWaits w.req w.mode a w.data then s.putAside w else (s.performStore w ct).done 0

/-- Whether a window ignores writes of any form without a bus fault (R2, R3, R17, R163). -/
def State.ignoresWrites (s : State) (a : Nat) : Bool := s.readsZero a || windowBase a == 0x40014000

/-- A write to a register window (R163): other than a 32-bit aligned write, a bus fault of cause DECODE. -/
def State.regWrite (s : State) (w : HeldWrite) (size : Nat) (ct : Contest) : State :=
  if areaOf w.sd w.addr ≠ .register then s.busFault w.sd w.req kindWrite causeDecode (issuedAddr w.mode w.addr)
  else if s.ignoresWrites w.addr then s.done 0
  else if size ≠ 4 ∨ w.addr % 4 ≠ 0 then s.busFault w.sd w.req kindWrite causeDecode (issuedAddr w.mode w.addr)
  else s.writeChecked w ct

/-- A write at an address of the peripheral region, normal or alias (R164). -/
def State.windowWrite (s : State) (w : HeldWrite) (size : Nat) (ct : Contest) : State :=
  if areaOf w.sd w.addr = .aliased then
    State.regWrite s { w with mode := aliasMode w.addr, addr := aliasTarget w.addr } size ct
  else s.regWrite w size ct

/-! ### Reads of registers -/

/-- The word bridge of a read: RF_RXD for RXDATA, RF_REG for the registers of RADIO, LINK and TUNER that are no mirror; a
mirror and the AON registers are read at once (R46, R50). -/
def readBridge (a : Nat) : Option Nat :=
  if a = 0x40009080 then some 0x0A
  else if rfWindows.contains (windowBase a) &&
      !(!(regFields a).isEmpty && (regFields a).all (fun f => f.kind == .mirror)) then some 0x08
  else none

/-- A read performed at its register. -/
def State.performRead (s : State) (size addr : Nat) : State :=
  let r := s.readReg addr
  r.2.done (lanes addr size r.1)

/-- A read of a register window (R163): a read at an alias address gives zero (R166). -/
def State.windowRead (s : State) (h : HeldAccess) : State :=
  if h.addr % h.size ≠ 0 then s.busFault h.sd h.req kindRead causeDecode h.addr
  else if areaOf h.sd h.addr = .aliased then s.done 0
  else
    let a := sharedReg (regAddr h.addr)
    if s.fireHolds (windowBase a) then { s with fabric := { s.fabric with held := s.fabric.held ++ [h] } }
    else
      match readBridge a with
      | some id => s.enterBridge id h.req false false 0 h.addr h.size
      | none => s.performRead h.size h.addr

/-! ### Any access -/

/-- The arbitrated target of an application address: SRAM bank 0 to 3, or the flash controller, 4 (R204). -/
def targetOf (a : Nat) : Option Nat :=
  match appArea a with
  | .sram => some ((a - 0x20000000) / 0x8000)
  | .flash => some 4
  | .nothing | .rom | .loft | .retention | .register | .aliased => none

/-- Whether an access waits at an arbitrated target. -/
def HeldAccess.at (h : HeldAccess) (t : Nat) : Bool := h.sd == .app && h.arb && targetOf h.addr == some t

/-- Whether an access has to wait for a decision of the arbiter (R205): its target is busy, or others wait there. -/
def State.mustWait (s : State) (h : HeldAccess) (busy : Bool) : Bool :=
  h.sd == .app &&
    (match targetOf h.addr with
      | none => false
      | some t => busy || s.fabric.held.any (fun x => x.at t) || s.fabric.raised.any (fun r => r.1 == t))

/-- Whether a fetch of MCORE waits for its data access (R200). -/
def State.fetchStops (s : State) (h : HeldAccess) : Bool :=
  h.sd == .met && h.kind == kindFetch &&
    (s.fabric.held.any (fun x => x.sd == .met && x.kind != kindFetch) || s.bridges.waiting.any (fun a => bridgeSide a.id == .met))

/-- The exception a core raises for a misaligned load or store, before any access (R196): 4 load, 6 store. -/
def State.misaligned (s : State) (kind addr : Nat) : State :=
  { s with last := { data := 0, cause := 0, mcause := if kind = kindWrite then 6 else 4, mtval := addr } }

/-- An access whose handshake waits. -/
def State.holdAccess (s : State) (h : HeldAccess) : State :=
  { s with fabric := { s.fabric with held := s.fabric.held ++ [h] } }

/-- A memory access served at its target. -/
def State.serveMemory (s : State) (h : HeldAccess) : State :=
  if h.kind = kindFetch then s.fetch h.sd h.req h.size h.addr
  else s.memAccess h.sd h.req h.kind h.size h.addr h.data h.rom

/-- An access served, or put aside.  A fault that decoding finds waits for no target (R201); `busy` says that the arbitrated
target serves another access. -/
def State.serveAccess (s : State) (h : HeldAccess) (env : List Nat) (ct : Contest) (busy : Bool) : State :=
  match areaOf h.sd h.addr with
  | .register | .aliased =>
    if h.kind = kindWrite then
      s.windowWrite { sd := h.sd, req := h.req, mode := 0, addr := h.addr, data := h.data, env := env, rom := h.rom } h.size ct
    else if h.kind = kindFetch then s.busFault h.sd h.req kindFetch causeDecode h.addr
    else s.windowRead h
  | .nothing | .rom | .flash | .sram | .loft | .retention =>
    if s.memCause h.sd h.req h.kind (if h.kind = kindFetch then 2 else h.size) h.addr h.rom = some causeDecode then
      s.serveMemory h
    else if s.underHolds h.sd h.addr || s.fetchStops h then s.holdAccess h
    else if s.mustWait h busy then s.holdAccess { h with arb := true }
    else s.serveMemory h

/-- An access of a requester: the alignment that a core checks itself (R196), then the user mode of MCORE (R280). -/
def State.access (s : State) (h : HeldAccess) (env : List Nat) (ct : Contest) (busy : Bool) : State :=
  let p := portOf h.sd h.req
  if h.kind ≠ kindFetch ∧ isCore p = true ∧ h.addr % h.size ≠ 0 then s.misaligned h.kind h.addr
  else if userRefused h.sd h.req h.kind h.addr then s.busFault h.sd p h.kind causeDecode h.addr
  else s.serveAccess { h with req := p } env ct busy

/-- Whether a write of a requester waits for what it has started: a fire (R172), a burn (R249), the check of a protection
entry (R259), or a decryption of UPDATE (R672). -/
def State.engaged (s : State) (sd : Side) (req : Nat) : Bool :=
  s.awaitsBurn sd req ||
    (sd == .app &&
      (s.fabric.fires.any (fun j => j.req == req) || s.protEntry.any (fun e => e.1 == req) ||
        s.update.due.any (fun w => w == .decrypt req)))

/-- Whether a requester has an access outstanding (R204): in a word bridge, held in the fabric, as a unit of DMA, or a write
that waits for what it has started. -/
def State.outstanding (s : State) (sd : Side) (req : Nat) : Bool :=
  s.bridges.waiting.any (fun a => bridgeSide a.id == sd && a.req == req) ||
    s.fabric.held.any (fun h => h.sd == sd && h.req == req) || s.fabric.writes.any (fun w => w.sd == sd && w.req == req) ||
    s.engaged sd req || (sd == .app && s.fabric.units.any (fun u => u.ch + 2 == req))

/-- The size of an access in bytes: 1, 2 or 4. -/
def sizeOf' (n : Nat) : Nat := if n ≤ 1 then 1 else if n ≤ 3 then 2 else 4

/-! ### The arbiter (R205 to R209, R214) -/

/-- The wait limit of a requester in force: 0 acts as 1, and that of channel 0 acts as 1 while it is reserved. -/
def State.waitLimit (s : State) (r : Nat) : Nat :=
  if r = 2 ∧ s.flag R.ARB.RESERVE.CH0 = true then 1 else max 1 (s.rd (R.ARB.WAITLIM.L r))

/-- The priority of a requester in force. -/
def State.priority (s : State) (r : Nat) : Nat :=
  if r = 2 ∧ s.flag R.ARB.RESERVE.CH0 = true then 7 else s.rd (R.ARB.PRIO.P r)

/-- Whether a waiting requester is forced: it was, or its count has reached its limit (R206, R208). -/
def State.isForced (s : State) (r : Nat) : Bool :=
  s.fabric.forced.contains r || decide (s.rd (R.ARB.WAITCNT.C r) ≥ s.waitLimit r)

/-- The forced requesters of a list that none of the others has yielded to already: while a requester is forced, each other
one is granted forced ahead of it at most once (R207). -/
def State.fairForced (s : State) (l : List Nat) : List Nat :=
  l.filter (fun r => !l.any (fun w => s.fabric.passed.contains (r, w)))

/-- The forced requester that is granted: channel 0 while it is reserved, else the lowest number (R205).  DEDUCED, log entry
125: R205's order among forced requesters holds within the bound of R207. -/
def State.forcedWinner (s : State) (l : List Nat) : Option Nat :=
  let f := s.fairForced l
  if f.contains 2 && s.flag R.ARB.RESERVE.CH0 then some 2 else f.min?

/-- The requester of the highest priority, the lowest number among equals. -/
def State.prioWinner (s : State) : List Nat → Option Nat
  | [] => none
  | r :: l =>
    match s.prioWinner l with
    | none => some r
    | some b =>
      if s.priority r > s.priority b ∨ (s.priority r = s.priority b ∧ r < b) then some r else some b

/-- A loser's wait counted, up to its limit, where it is forced. -/
def State.loses (s : State) (r : Nat) : State :=
  let c := s.rd (R.ARB.WAITCNT.C r)
  let s1 := if c < s.waitLimit r then s.wr (R.ARB.WAITCNT.C r) (c + 1) else s
  if s1.isForced r && !s1.fabric.forced.contains r then
    { s1 with fabric := { s1.fabric with forced := s1.fabric.forced ++ [r] } }
  else s1

/-- A requester granted: its counter clears, it is forced no more, and its request is no longer raised (R206). -/
def State.granted (s : State) (t w : Nat) : State :=
  let s1 := s.clear (R.ARB.WAITCNT.C w)
  { s1 with fabric :=
      { s1.fabric with
        forced := s1.fabric.forced.filter (fun r => r != w), raised := s1.fabric.raised.filter (fun r => r != (t, w))
        passed := s1.fabric.passed.filter (fun p => p.2 != w) } }

/-- A forced win counted and recorded; those that are forced and wait have been passed once by its winner. -/
def State.forcedWin (s : State) (w : Nat) (l : List Nat) : State :=
  let s1 := (s.count R.ARB.FORCED.COUNT 1).wr R.ARB.FORCED.LAST w
  { s1 with fabric := { s1.fabric with passed := s1.fabric.passed ++ (l.filter (fun r => r != w)).map (fun r => (w, r)) } }

/-- The requesters that wait at a target. -/
def State.waitersAt (s : State) (t : Nat) : List Nat :=
  (List.range 15).filter (fun r => s.fabric.held.any (fun h => h.at t && h.req == r) || s.fabric.raised.contains (t, r))

/-- The access that a requester has waiting at a target, taken out. -/
def State.takeWaiting (s : State) (t w : Nat) : Option HeldAccess × State :=
  match s.fabric.held.find? (fun h => h.at t && h.req == w) with
  | none => (none, s)
  | some h => (some h, { s with fabric := { s.fabric with held := s.fabric.held.filter (fun x => !(x.at t && x.req == w)) } })

/-- One decision at a target (R205, R206): the winner's access is served, and each loser's counter is incremented. -/
def State.decideAt (s : State) (t : Nat) : State :=
  let l := s.waitersAt t
  let forced := l.filter s.isForced
  match if forced.isEmpty then s.prioWinner l else s.forcedWinner forced with
  | none => s
  | some w =>
    let s1 := s.granted t w
    let s2 := if forced.isEmpty then s1 else s1.forcedWin w forced
    let x := ((l.filter (fun r => r != w)).foldl State.loses s2).takeWaiting t w
    match x.1 with
    | none => x.2
    | some h => x.2.serveMemory h

/-- Decisions at a target, one after another. -/
def State.decideAll (s : State) (t : Nat) : Nat → State
  | 0 => s
  | n + 1 => (s.decideAt t).decideAll t n

/-- Engines that raise a request at a target, each where it has none waiting (R204). -/
def State.raiseAt (s : State) (t : Nat) (l : List Nat) : State :=
  let new := ((List.range 15).filter l.contains).filter
    (fun r => !s.fabric.raised.any (fun p => p.2 == r) && !s.fabric.held.any (fun h => h.sd == .app && h.req == r))
  { s with fabric := { s.fabric with raised := s.fabric.raised ++ new.map (fun r => (t, r)) } }

/-- ARBITER_DECISION (R205): a target is free and one decision is made among the accesses that wait there; `raised` are the
engines whose accesses wait there too.  None is made while UNDER holds the target's handshakes (R61). -/
def execArbiterDecision (target : Nat) (raised : List Nat) (s : State) : Host.Outcome State Fault Refusal :=
  if !s.appOn || decide (4 < target) || s.flag (R.PWR.PACE_STATUS.UNDER .app) then .next s
  else .next ((s.raiseAt target raised).decideAt target)

/-! ### What is replayed -/

/-- An access tried again: one that waits for the arbiter goes on waiting. -/
def State.retryAccess (s : State) (h : HeldAccess) : State :=
  if h.arb then s.holdAccess h else s.access h [] Contest.none false

/-- The accesses put aside in the order they are tried again: the data port of MCORE before its fetch port (R200). -/
def inOrder (l : List HeldAccess) : List HeldAccess :=
  l.filter (fun h => h.kind != kindFetch) ++ l.filter (fun h => h.kind == kindFetch)

/-- Whether a memory access is one that an arbitrated target serves. -/
def HeldAccess.arbitrated (h : HeldAccess) : Bool := h.sd == .app && (targetOf h.addr).isSome

/-- Every write and access put aside tried again in its order: what is still held is put aside again. -/
def State.replay (s : State) : State :=
  let ws := s.fabric.writes
  let hs := s.fabric.held
  let s0 : State := { s with fabric := { s.fabric with writes := [], held := [] } }
  let s1 := ws.foldl (fun a w => a.writeChecked w Contest.none) s0
  (inOrder hs).foldl State.retryAccess s1

/-- The accesses that UNDER held at the arbitrated targets wait for its decisions, which follow one another (R61, R205). -/
def State.releaseHeld (s : State) : State :=
  let s1 : State := { s with fabric := { s.fabric with held := s.fabric.held.map (fun h => if h.arbitrated then { h with arb := true } else h) } }
  forEach 5 (fun t a => a.decideAll t (a.waitersAt t).length) s1

/-- UNDER_RELEASE (R61): VCORE is back above 0.44 V; the held handshakes go on. -/
def State.endUnder (s : State) (sd : Side) : State :=
  let s1 := s.clear (R.PWR.PACE_STATUS.UNDER sd)
  if sd = .app then s1.releaseHeld.replay else s1.replay

end Sys2Proof.Machine
end

