-- ==== Sys2Proof/Machine/Fires.lean ====
section
/-! DEFINITION. Commit fires (R172 to R177): the phases of the fire at the head of the queue, its abort and its release, the
late commit of a block whose clock stopped. -/

namespace Sys2Proof.Machine

open Sys2Proof

/-- The windows with buffered configuration in a clocked island: RADIO, LINK and TUNER. -/
def clockedWindows : List Nat := [8, 9, 10]

/-- The base of an application window. -/
def appWindow (n : Nat) : Nat := 0x40000000 + 0x1000 * n

/-- The windows that a group names. -/
def State.groupMask (s : State) (g : Nat) : Nat := s.rd (R.SYSCTL.COMMIT_GROUP.MASK g)

/-- Whether a group names a window. -/
def State.groupNames (s : State) (g n : Nat) : Bool := bit (s.groupMask g) n

/-- The first window whose far side fails to latch its staged values in the prepare phase (R174): RF has no power, or its
clock does not run. -/
def State.fireFails (s : State) (j : FireJob) (g : Nat) : Option Nat :=
  clockedWindows.find? (fun n =>
    s.groupNames g n && (s.power.rf.st != .on || !s.flag (R.BRIDGE.CLKSTAT.HFXO_RUN .app) || j.stopped.contains n ||
      s.fabric.late.contains n))

/-- The fire at the head ends; DICT learns how its own has ended. -/
def State.endFire (s : State) (j : FireJob) (good : Bool) : State :=
  let s1 : State := { s with fabric := { s.fabric with fires := s.fabric.fires.drop 1 } }
  if j.dict then { s1 with dict := { s1.dict with fired := some good } } else s1

/-- The head fire goes on with other groups. -/
def State.setFire (s : State) (j : FireJob) : State :=
  { s with fabric := { s.fabric with fires := j :: s.fabric.fires.drop 1 } }

/-- The abort of a fire at the window `n` (R174, R176): no block commits, and the write completes with one bus fault. -/
def State.abortFire (s : State) (j : FireJob) (g n : Nat) : State :=
  let off := s.power.rf.st != .on
  let s1 := (((s.raise R.SYSCTL.COMMIT_STATUS.ABORT).wr R.SYSCTL.COMMIT_STATUS.ABORT_BLOCK n).wr
    R.SYSCTL.COMMIT_STATUS.LAST_GROUP g).log 0x0A03 []
  let s2 := (s1.recordTimeout 0x08 j.req true off (appWindow n + 0xFC)).lengthenRun 0x08
  (s2.busFault .app j.req kindWrite causeBridgeTimeout 0x40000020).endFire j false

/-- The apply phase of a group (R172, R175): the named blocks commit; one whose clock stops commits at its next edge. -/
def State.applyFire (s : State) (j : FireJob) (g : Nat) : State :=
  let s1 := forEach 22 (fun n a =>
    if !s.groupNames g n || !hasCommit (appWindow n) then a
    else if clockedWindows.contains n && j.stopped.contains (n + 0x20) then
      { a with fabric := { a.fabric with late := a.fabric.late ++ [n] } }
    else a.commit (appWindow n)) s
  s1.setFire { j with applied := true, mask := s.groupMask g }

/-- The release of a group (R172, R176): the fire goes on with the next one, and its write completes after the last.
ABORT_BLOCK keeps the window of the last aborted fire (DESIGN CHOICE, log entry 126). -/
def State.releaseFire (s : State) (j : FireJob) (g : Nat) : State :=
  let s1 := ((s.raise R.SYSCTL.COMMIT_STATUS.DONE).wr R.SYSCTL.COMMIT_STATUS.LAST_GROUP g).count
    R.SYSCTL.COMMIT_STATUS.FIRES 1
  match j.groups.drop 1 with
  | [] => (s1.done 0).endFire j true
  | r => s1.setFire { j with groups := r, applied := false }

/-- Whether a fire in its apply phase waits for the edge of a clocked block that its group named. -/
def State.fireWaits (s : State) (j : FireJob) : Bool := s.fabric.late.any (bit j.mask)

/-- One phase of the fire at the head. -/
def State.fireStep (s : State) : State :=
  match s.fabric.fires with
  | [] => s
  | j :: _ =>
    match j.groups with
    | [] => s.endFire j true
    | g :: _ =>
      if j.applied then (if s.fireWaits j then s else s.releaseFire j g)
      else
        match s.fireFails j g with
        | some n => s.abortFire j g n
        | none => s.applyFire j g

/-- Phases of fires, one after another. -/
def State.fireSteps (s : State) : Nat → State
  | 0 => s
  | n + 1 => s.fireStep.fireSteps n

/-- Every fire taken as far as it goes: two phases for each group. -/
def State.pumpFires (s : State) : State :=
  s.fireSteps (s.fabric.fires.map (fun j => 2 * j.groups.length + 1)).sum

/-- The apply phase has lasted the bridge's limit (R175): the holds are released, and the block commits later. -/
def State.fireLate (s : State) : State :=
  match s.fabric.fires with
  | [] => s
  | j :: _ =>
    match j.groups with
    | [] => s
    | g :: _ =>
      if j.applied then ((s.raise R.SYSCTL.COMMIT_STATUS.LATE_APPLY).log 0x0A05 []).releaseFire j g else s

/-- The first edge of a clock that resumes (R175): the block commits the values it latched. -/
def State.lateEdge (s : State) (n : Nat) : State :=
  if s.fabric.late.contains n then
    ({ s with fabric := { s.fabric with late := s.fabric.late.filter (fun m => m != n) } } : State).commit (appWindow n)
  else s

end Sys2Proof.Machine
end

