-- ==== Sys2Proof/Machine/Units.lean ====
section
/-! DEFINITION. The units that DMA moves (ch. 24): the read and the write of a unit, each performed at once, sent through the
word bridge of its register (ch. 02), or held; and the end of a unit. -/

namespace Sys2Proof.Machine

open Sys2Proof

/-- The normal address and the alias of a peripheral address. -/
def peripheral (a : Nat) : Nat × Nat := if appArea a = .aliased then (aliasTarget a, aliasMode a) else (a, 0)

/-- The unit of a channel outstanding in a stage. -/
def State.setUnit (s : State) (u : HeldUnit) : State :=
  let s0 := s.dropUnit u.ch
  { s0 with fabric := { s0.fabric with units := s0.fabric.units ++ [u] } }

/-- A unit moved: COUNT, SRC and DST follow (R618); after the last one the descriptor ends (R619); a channel disabled
meanwhile is IDLE, a paused one PAUSED (R213, R621, R622), and a unit trigger waits for its next request. -/
def State.unitDone (s : State) (ch : Nat) : State :=
  let ctl := s.dmaCtl ch
  let n := s.dmaSize ch
  let dst := s.rd (R.DMA.DST.ADDR ch)
  let s1 := (s.dropUnit ch).wr (R.DMA.CTL.CTL ch) (ctl - 1)
  let s2 := if bit ctl 18 then s1.wr (R.DMA.SRC.ADDR ch) (s1.rd (R.DMA.SRC.ADDR ch) + n) else s1
  let s3 := if bit ctl 19 then s2.wr (R.DMA.DST.ADDR ch) (s2.rd (R.DMA.DST.ADDR ch) + n) else s2
  if !s3.flag (R.DMA.CFG.EN ch) then s3.dmaHalt ch
  else if ctl % 0x10000 = 1 then s3.dmaEndDesc ch (some dst)
  else if s3.flag (R.DMA.CFG.PAUSE ch) then s3.dmaState ch dmaPaused
  else if isUnitTrig (s3.dmaTrig ch) then
    ({ s3 with dma := { s3.dma with started := s3.dma.started.filter (fun c => c != ch) } } : State).dmaState ch dmaWait
  else s3.dmaState ch dmaRun

/-- The write of a unit performed at its register; one that starts a fire, a burn, a check or a decryption completes with
that (R172, R249, R259, R672). -/
def State.unitStore (s : State) (ch d : Nat) (env : List Nat) : State :=
  let p := peripheral (s.rd (R.DMA.DST.ADDR ch))
  let s1 := (s.performWrite (2 + ch) p.2 p.1 d env Contest.none).done 0
  if s1.engaged .app (2 + ch) then
    s1.setUnit { ch := ch, stage := .fire, env := [] }
  else s1.unitDone ch

/-- The write of a unit to a register. -/
def State.unitRegister (s : State) (ch d : Nat) (env : List Nat) : State :=
  let a := s.rd (R.DMA.DST.ADDR ch)
  let p := peripheral a
  let r := sharedReg (regAddr p.1)
  if s.ignoresWrites p.1 then (s.done 0).unitDone ch
  else if s.dmaSize ch ≠ 4 then s.busFault .app (2 + ch) kindWrite causeDecode a
  else if s.fireHolds (windowBase r) then s.setUnit { ch := ch, stage := .write d, env := env }
  else
    match sideBridge .app r with
    | some id =>
      (s.setUnit { ch := ch, stage := .write d, env := env }).enterBridge id (2 + ch) true (isReadSync p.2 r d) p.2 p.1 d
    | none =>
      if s.lockWaits (2 + ch) p.2 r d then s.setUnit { ch := ch, stage := .write d, env := env }
      else s.unitStore ch d env

/-- The write of a unit. -/
def State.unitWrite (s : State) (ch d : Nat) (env : List Nat) : State :=
  let a := s.rd (R.DMA.DST.ADDR ch)
  match appArea a with
  | .register | .aliased => s.unitRegister ch d env
  | .nothing | .rom | .flash | .sram | .loft | .retention =>
    if s.underHolds .app a then s.setUnit { ch := ch, stage := .write d, env := env }
    else
      let w := s.memAccess .app (2 + ch) kindWrite (s.dmaSize ch) a d false
      if w.last.cause ≠ 0 then w
      else if w.engaged .app (2 + ch) then w.setUnit { ch := ch, stage := .fire, env := [] }
      else w.unitDone ch

/-- The data of a unit's read has come, or its fault. -/
def State.unitGot (s : State) (ch : Nat) (env : List Nat) : State :=
  if s.last.cause ≠ 0 then s else (s.dropUnit ch).unitWrite ch s.last.data env

/-- The read of a unit. -/
def State.unitRead (s : State) (ch : Nat) (env : List Nat) : State :=
  let a := s.rd (R.DMA.SRC.ADDR ch)
  let n := s.dmaSize ch
  match appArea a with
  | .register =>
    let r := sharedReg (regAddr a)
    if s.fireHolds (windowBase r) then s.setUnit { ch := ch, stage := .read, env := env }
    else
      (match readBridge r with
        | none => (s.performRead n a).unitGot ch env
        | some id => (s.setUnit { ch := ch, stage := .read, env := env }).enterBridge id (2 + ch) false false 0 a n)
  | .aliased => (s.done 0).unitGot ch env
  | .nothing | .rom | .flash | .sram | .loft | .retention =>
    if s.waitsFlash ch a then (s.dropUnit ch).dmaState ch dmaFlash
    else if s.underHolds .app a then s.setUnit { ch := ch, stage := .read, env := env }
    else (s.memAccess .app (2 + ch) kindRead n a 0 false).unitGot ch env

/-- Whether the access of a unit is in a word bridge. -/
def State.unitBridged (s : State) (ch : Nat) : Bool :=
  s.bridges.waiting.any (fun a => bridgeSide a.id == .app && a.req == 2 + ch)

/-- A unit that is outstanding taken as far as it goes. -/
def State.resumeUnit (s : State) (u : HeldUnit) : State :=
  if s.unitBridged u.ch || !s.unitOut u.ch then s
  else
    match u.stage with
    | .read => s.unitRead u.ch u.env
    | .write d => s.unitWrite u.ch d u.env
    | .arrived d =>
      let p := peripheral (s.rd (R.DMA.DST.ADDR u.ch))
      if s.lockWaits (2 + u.ch) p.2 (sharedReg (regAddr p.1)) d then s else s.unitStore u.ch d u.env
    | .fire => if s.engaged .app (2 + u.ch) then s else s.unitDone u.ch

/-- Every unit that is outstanding taken as far as it goes. -/
def State.resumeUnits (s : State) : State := s.fabric.units.foldl State.resumeUnit s

/-- The access of a unit taken by the far side of its bridge, and completed there. -/
def State.unitCrossed (s : State) (ch : Nat) (a : BridgeAccess) (env : List Nat) : State :=
  if !s.unitOut ch then s
  else if a.write then
    if a.sync then (s.done 0).unitDone ch
    else if s.lockWaits a.req a.mode (sharedReg (regAddr a.addr)) a.data then
      s.setUnit { ch := ch, stage := .arrived a.data, env := env }
    else s.unitStore ch a.data env
  else (s.performRead a.data a.addr).unitGot ch env

end Sys2Proof.Machine
end

