-- ==== Sys2Proof/Machine/Requests.lean ====
section
/-! DEFINITION. Requests to DICT (ch. 20): their encoding, their authentication and replay floors, the entries they name as
DICT reads them, and the check phase. -/

namespace Sys2Proof.Machine

open Sys2Proof

/-! ### Operations (Table DICT-4) -/

/-- The operation codes. -/
def opRead : Nat := 1
def opWrite : Nat := 2
def opState : Nat := 3

/-- The statuses of Table DICT-5 by their codes. -/
structure StatusCodes where
  pending : Nat := 1
  busy : Nat := 2
  noEntry : Nat := 3
  access : Nat := 4
  readOnly : Nat := 5
  type : Nat := 6
  range : Nat := 7
  service : Nat := 8
  locked : Nat := 9
  fireFail : Nat := 10
  aborted : Nat := 11
  timeout : Nat := 12
  tooBig : Nat := 13
  refused : Nat := 14
  diverged : Nat := 15

/-- The codes; 0 is OK. -/
def dictStatus : StatusCodes := {}

/-- An operation as it is read from a request. -/
def newOp (op index sub : Nat) (value : List Nat) : DictOp :=
  { op := op, index := index, sub := sub, value := value, status := 0, result := [], desc := none, effDesc := none, dirty := 0 }

/-- `n` operations read from bytes, writes alone in a CONFIG: they and the bytes left over. -/
def parseOps (config : Bool) : Nat → List Nat → Option (List DictOp × List Nat)
  | 0, b => some ([], b)
  | n + 1, op :: i0 :: i1 :: sub :: r =>
    if op = opWrite then
      match r with
      | [] => none
      | len :: r' =>
        if r'.length < len then none
        else
          (parseOps config n (r'.drop len)).map (fun p => (newOp op (i0 + 256 * i1) sub (r'.take len) :: p.1, p.2))
    else if (op = opRead ∨ op = opState) ∧ config = false then
      (parseOps config n r).map (fun p => (newOp op (i0 + 256 * i1) sub [] :: p.1, p.2))
    else none
  | _ + 1, _ => none

/-- The operations that fill a run of bytes exactly. -/
def opsIn (config : Bool) (n : Nat) (b : List Nat) : Option (List DictOp) :=
  if n = 0 ∨ n > 16 then none
  else
    match parseOps config n b with
    | some (ops, []) => some ops
    | _ => none

/-- The operations of request data with its TAG8 (Table DICT-4); none where the format is wrong. -/
def requestOps (d : List Nat) : Option (List DictOp) :=
  let hdr := d.getD 0 0
  if d.length < 12 ∨ d.length > 448 ∨ hdr / 16 ≠ 1 ∨ bitsOf hdr 2 2 ≠ 0 then none
  else opsIn false (d.getD 1 0) ((d.take (d.length - 8)).drop 4)

/-- The writes of CONFIG data without its TAG (Table MESH-6). -/
def configOps (d : List Nat) : Option (List DictOp) :=
  if d.length < 11 then none else opsIn true (d.getD 0xA 0) (d.drop 0xB)

/-! ### Authentication and replay (R536 to R538) -/

/-- What TAG8 covers of a message: unit ID, STEAD, ORIG and FC, then the data before it. -/
def State.tagInput (s : State) (orig fc : Nat) (d : List Nat) : List Nat :=
  s.unitIdBytes ++ leBytes 2 s.stead ++ leBytes 2 orig ++ leBytes 4 fc ++ d

/-- TAG8 of a message under the class key of its CLASS; none while no class key is held. -/
def State.tag8 (s : State) (cls orig fc : Nat) (d : List Nat) : Option (List Nat) :=
  (s.cmac.classKeys[cls]?).map (fun k => (cmacOf k (s.tagInput orig fc d)).take 8)

/-- The data of a downward frame after its MIC under slot 2 and its decryption (R485, R537). -/
def State.openFrame (s : State) (b : List Nat) : Option (List Nat) :=
  if hKeys b != 2 || !s.micPasses b then none
  else if !hSec b then some (stookData b)
  else if s.keyHas 2 attrPrf then some (stookCrypt (s.keyBytes 2) b (stookData b))
  else none

/-- A request that fails its authentication, or its replay floor (R537). -/
def State.failAuth (s : State) : State := (s.count R.DICT.COUNTS.AUTH_FAIL 1).logMinute 0x0600 []
def State.failReplay (s : State) : State := (s.count R.DICT.COUNTS.REPLAY 1).logMinute 0x0601 []

/-- Whether FC passes the floor of a path (R538). -/
def State.aboveFloor (s : State) (path fc : Nat) : Bool :=
  s.rdBit R.DICT.FLOOR_STAT.UNSET path || decide (fc > s.rd (R.DICT.FLOOR.FC path))

/-- The floor of a path set by a request that passes (R537, R538). -/
def State.setFloorTo (s : State) (path fc : Nat) : State :=
  let s1 :=
    if s.rdBit R.DICT.FLOOR_STAT.UNSET path then (s.log 0x0622 []).wrBit R.DICT.FLOOR_STAT.UNSET path false else s
  s1.wr (R.DICT.FLOOR.FC path) fc

/-! ### Entries as DICT reads them (R532, R556, R557) -/

/-- The fields that a REG entry lies over. -/
def Desc.fieldsOf (d : Desc) : List Fld :=
  (regFields d.addr).filter (fun f => decide (f.lsb < d.lsb + d.width) && decide (d.lsb < f.lsb + f.width))

/-- Whether a REG entry lies over buffered configuration. -/
def Desc.rwc (d : Desc) : Bool := d.kind == backReg && d.fieldsOf.any (fun f => f.acc == .rwc)

/-- Whether an entry is served through a callback record, and whether that goes to MET (R544). -/
def Desc.isCall (d : Desc) : Bool := d.kind == backCall
def Desc.legal (d : Desc) : Bool := d.index / 0x1000 == 2

/-- Whether an entry is a register of RADIO, LINK or TUNER. -/
def Desc.isRf (d : Desc) : Bool := d.kind == backReg && rfWindows.contains (windowBase d.addr)

/-- The entries of the time writes and of the log reads. -/
def Desc.isTime (d : Desc) : Bool := d.index == 0x1201
def Desc.isLog (d : Desc) : Bool := d.index == 0x6001

/-- The word bridge that an access of DICT to a REG entry passes (R45, R532): a log read writes EVLOG_SEL first (R563). -/
def Desc.bridge (d : Desc) (write : Bool) : Option Nat :=
  if d.kind ≠ backReg ∨ d.isTime = true then none
  else if d.isLog then some 0x01
  else if write then sideBridge .app (sharedReg (regAddr d.addr))
  else readBridge (sharedReg (regAddr d.addr))

/-- What an access of DICT meets before it is made: nothing, a hold of the fabric (R61, R173), a bridge, or an RF register
at L4 and deeper, which is not served (R557). -/
inductive Gate where
  | go
  | wait
  | cross (id : Nat)
  | gone
  deriving DecidableEq, Repr

/-- The address of a LOFT entry. -/
def Desc.loftAddr (d : Desc) : Nat := slotAddr (d.addr % 32) + bitsOf d.addr 16 9

/-- The gate of an access; `serving` says that it belongs to a request, which may not read an RF mirror at L4 and deeper
either. -/
def State.gate (s : State) (d : Desc) (write serving : Bool) : Gate :=
  if d.isCall || d.kind == backLoft then .go
  else if d.kind ≠ backReg then (if s.underHolds .app d.addr then .wait else .go)
  else if s.fireHolds (windowBase d.addr) then .wait
  else
    match d.bridge write with
    | none => if d.isRf && serving && decide (s.level ≥ 4) then .gone else .go
    | some id => if d.isRf && decide (s.level ≥ 4) then .gone else .cross id

/-- A field value as the entry's type carries it (R556). -/
def Desc.encode (d : Desc) (raw : Nat) : List Nat :=
  leBytes d.size (if signedType d.ty then uInt (8 * d.size) (sInt d.width raw) else raw)

/-- The first byte of a Loft entry that cannot be read, with the cause: its slot must be PUBLISH (Table DICT-2). -/
def State.loftFault (s : State) : Nat → Nat → Option (Nat × Nat)
  | 0, _ => none
  | n + 1, a =>
    if appArea a != .loft then some (a, causeDecode)
    else if !(s.slot (slotOf a)).publish then some (a, causeLoftOwner)
    else State.loftFault s n (a + 1)

/-- The first byte of a memory entry that cannot be read or written. -/
def State.ramFault (s : State) (kind : Nat) : Nat → Nat → Option (Nat × Nat)
  | 0, _ => none
  | n + 1, a =>
    match s.memCause .app 11 kind 1 a false with
    | some c => some (a, c)
    | none => State.ramFault s kind n (a + 1)

/-- Bytes of memory as an entry, or the fault of its first byte that cannot be read. -/
def State.readBack (s : State) (d : Desc) (a : Nat) (f : Option (Nat × Nat)) : Option (List Nat) × State :=
  match f with
  | some (b, c) => (none, s.memFault .app 11 kindRead c b)
  | none => (some (s.appBytes a d.size), s)

/-- The value of an entry that its access has reached, none where its read faults.  A log read selects its position first (R563); the time entries read
as zeros (R560); what an entry behind a callback holds at this moment no rule states (log entry 22). -/
def State.entryRead (s : State) (d : Desc) : Option (List Nat) × State :=
  if d.isCall then (some (leBytes d.size s.fresh.1), s.fresh.2)
  else if d.kind = backLoft then s.readBack d d.loftAddr (s.loftFault d.size d.loftAddr)
  else if d.kind ≠ backReg then s.readBack d d.addr (s.ramFault kindRead d.size d.addr)
  else if d.isTime then (some (List.replicate 20 0), s)
  else if d.isLog then
    let s1 := s.selectLog d.sub
    (some ((s1.logBytes (d.sub % 64)).take 24), s1)
  else
    let r := s.readReg d.addr
    (some (d.encode (bitsOf r.1 d.lsb d.width)), r.2)

/-! ### The check phase (R531, R539 to R541) -/

/-- The first status whose condition holds. -/
def firstStatus : List (Bool × Nat) → Nat
  | [] => 0
  | e :: r => if e.1 then e.2 else firstStatus r

/-- Whether a value lies within the bounds of its entry (R530, Table DICT-3). -/
def Desc.admits (d : Desc) (v : List Nat) : Bool :=
  let n := leNat v
  if d.ty = tOctets then true
  else if signedType d.ty then
    decide (sInt 32 d.lo ≤ sInt (8 * d.size) n) && decide (sInt (8 * d.size) n ≤ sInt 32 d.hi)
  else (d.ty != tBool || decide (n ≤ 1)) && decide (d.lo ≤ n) && decide (n ≤ d.hi)

/-- Whether a pair is watched. -/
def State.watched (s : State) (index sub : Nat) : Option WatchedPair :=
  s.dict.watch.find? (fun w => w.index == index && w.sub == sub)

/-- What the check of earlier operations leaves: the bytes of the response so far, whether a CALLBACK or legal write is
among them, and the pairs that are to enter the watch list. -/
structure CheckRun where
  size : Nat
  call : Bool
  pairs : List (Nat × Nat)
  deriving DecidableEq, Repr

/-- Whether a PAIR write finds the watch list full (R541): a pair that is watched already needs no place. -/
def State.watchFull (s : State) (c : CheckRun) (o : DictOp) : Bool :=
  (s.watched o.index o.sub).isNone && !c.pairs.contains (o.index, o.sub) && decide (s.dict.watch.length + c.pairs.length ≥ 8)

/-- The bytes an operation's result takes when it succeeds. -/
def resultSize (o : DictOp) (d : Desc) : Nat :=
  if o.op = opRead then 5 + d.size else if o.op = opState ∧ d.pair then 5 + 2 * d.size else 5

/-- The status of one operation in the check phase: the first of Table DICT-5 that applies. -/
def State.checkOp (s : State) (cls : Nat) (c : CheckRun) (o : DictOp) : Nat :=
  match o.desc with
  | none => dictStatus.noEntry
  | some d =>
    if o.op = opWrite then
      firstStatus
        [(d.pair && s.watchFull c o, dictStatus.busy), (decide (cls < d.wc), dictStatus.access), (!d.writable || d.kind == backLoft, dictStatus.readOnly),
         (o.value.length != d.size, dictStatus.type), (!d.admits o.value, dictStatus.range), (d.service && !s.inService, dictStatus.service),
         (d.isCall && c.call, dictStatus.aborted), (decide (c.size + 5 > 448), dictStatus.tooBig)]
    else
      firstStatus
        [(decide (cls < d.rc), dictStatus.access), (d.isCall && d.legal && !s.inService, dictStatus.service),
         (decide (c.size + resultSize o d > 448), dictStatus.tooBig)]

/-- The check carried past one operation. -/
def CheckRun.after (c : CheckRun) (o : DictOp) (status : Nat) : CheckRun :=
  match o.desc with
  | none => { c with size := c.size + 5 }
  | some d =>
    { size := c.size + (if status = 0 then resultSize o d else 5)
      call := c.call || (o.op == opWrite && d.isCall)
      pairs := if o.op = opWrite ∧ d.pair ∧ status = 0 ∧ !c.pairs.contains (o.index, o.sub) then (o.index, o.sub) :: c.pairs
        else c.pairs }

/-- An operation with its descriptors looked up. -/
def State.lookUp (s : State) (o : DictOp) : DictOp :=
  let d := s.entry o.index o.sub
  { o with
    desc := d
    effDesc := match d with
      | none => none
      | some e => if e.pair then s.entry o.index e.eff else none
    dirty := s.pdirtyBit o.index o.sub }

/-- The check of every operation in order. -/
def State.checkOps (s : State) (cls : Nat) (c : CheckRun) : List DictOp → List DictOp
  | [] => []
  | o :: r =>
    let n := s.lookUp o
    let st := s.checkOp cls c n
    { n with status := st } :: State.checkOps s cls (c.after n st) r

/-- If any WRITE failed, no WRITE is applied: every other one takes ABORTED (R539). -/
def abortWrites (l : List DictOp) : List DictOp :=
  if l.any (fun o => o.op == opWrite && o.status != 0) then
    l.map (fun o => if o.op = opWrite ∧ o.status = 0 then { o with status := dictStatus.aborted } else o)
  else l

/-- The writes of a CONFIG that are skipped (R551, R562): those that fail the check, need a class above OPERATOR, or are
settings made in SERVICE only. -/
def skipped (o : DictOp) : Bool :=
  o.status != 0 || (match o.desc with
    | none => true
    | some d => d.service || decide (d.wc > clsOper))

/-- The event of each write of a CONFIG that is skipped. -/
def State.logSkips (s : State) (l : List DictOp) : State :=
  (l.filter skipped).foldl (fun a o => a.log 0x0623 (leBytes 2 o.index ++ [o.sub])) s

/-- Whether a request holds an operation on RADIO, LINK or TUNER (R557). -/
def State.needsRf (s : State) (l : List DictOp) : Bool :=
  l.any (fun o => match s.entry o.index o.sub with
    | none => false
    | some d => d.isRf)

end Sys2Proof.Machine
end

