-- ==== Sys2Proof/Machine/Dict.lean ====
section
/-! DEFINITION. The dictionary engine (ch. 20, 21): its writes with commit group 3, requested and effective state, callbacks,
reads, responses, CONFIG frames; and what follows the end of a fire. -/

namespace Sys2Proof.Machine

open Sys2Proof

/-- DICT's state replaced. -/
def State.setDictState (s : State) (d : Dict) : State := { s with dict := d }

/-- The request in service replaced. -/
def State.setJob (s : State) (j : DictJob) : State := s.setDictState { s.dict with job := some j }

/-! ### The watch list (R542, R543, R549) -/

/-- STATUS.WATCHED and STATUS.DIVERGED. -/
def State.showWatch (s : State) : State :=
  (s.wr R.DICT.STATUS.WATCHED s.dict.watch.length).wr R.DICT.STATUS.DIVERGED
    (s.dict.watch.filter (fun w => w.diverged)).length

/-- The watch list replaced. -/
def State.setWatch (s : State) (l : List WatchedPair) : State := (s.setDictState { s.dict with watch := l }).showWatch

/-- The watch of a pair ended. -/
def State.endWatch (s : State) (index sub : Nat) : State :=
  s.setWatch (s.dict.watch.filter (fun w => !(w.index == index && w.sub == sub)))

/-- A pair entered into the watch list, or its watch replaced in its place. -/
def State.enterWatch (s : State) (w : WatchedPair) : State :=
  if (s.watched w.index w.sub).isSome then
    s.setWatch (s.dict.watch.map (fun x => if x.index == w.index && x.sub == w.sub then w else x))
  else s.setWatch (s.dict.watch ++ [w])

/-- The settle time S, entry 0x1103:00 (R542). -/
def State.settleTime (s : State) : Nat := s.load 0x220007C4 2

/-- The write of a requested-state entry compared with the effective state (R542): `eff` is what its effective entry holds,
none where that could not be read, which counts as not equal. -/
def State.judgePair (s : State) (o : DictOp) (d : Desc) (eff : Option (List Nat)) : DictOp × State :=
  if eff = some o.value then (o, s.endWatch o.index o.sub)
  else
    let w : WatchedPair :=
      { index := o.index, sub := o.sub, eff := d.eff, value := o.value, settle := s.settleTime, diverged := false }
    ({ o with status := dictStatus.pending }, (s.enterWatch w).count R.DICT.COUNTS2.PENDINGS 1)

/-! ### Locks and shadows (R177, R539, R540) -/

/-- A window locked. -/
def State.lockWindow (s : State) (base : Nat) : State :=
  if s.dict.locks.contains base then s
  else
    ((s.setDictState { s.dict with locks := s.dict.locks ++ [base] }).raise (R.CFG_COMMIT.LOCKED base)).raise
      R.SYSCTL.COMMIT_STATUS.DICT_LOCK

/-- Every lock released. -/
def State.unlock (s : State) : State :=
  let s1 := s.dict.locks.foldl (fun a b => a.clear (R.CFG_COMMIT.LOCKED b)) s
  (s1.setDictState { s1.dict with locks := [], fired := none }).clear R.SYSCTL.COMMIT_STATUS.DICT_LOCK

/-- The shadows of the locked windows discarded, but for values that a far side has latched already. -/
def State.discardLocked (s : State) : State :=
  s.dict.locks.foldl (fun a b => if s.fabric.late.contains ((b - 0x40000000) / 0x1000) then a else a.discardWindow b) s

/-- A field's value with an entry's bits written into it. -/
def splice (old : Nat) (f : Fld) (d : Desc) (v : Nat) : Nat :=
  let w := old * 2 ^ f.lsb
  bitsOf (w - bitsOf w d.lsb d.width * 2 ^ d.lsb + v % 2 ^ d.width * 2 ^ d.lsb) f.lsb f.width

/-- The shadow writes of an operation. -/
def State.stageOp (s : State) (o : DictOp) : State :=
  match o.desc with
  | none => s
  | some d =>
    d.fieldsOf.foldl (fun a f => if f.acc == .rwc then a.shadowWr f (splice (a.shadowRd f) f d (leNat o.value)) else a)
      (s.lockWindow (windowBase d.addr))

/-- Whether an operation is a write still to be applied, and one that group 3 fires. -/
def DictOp.writes (o : DictOp) : Bool := o.op == opWrite && o.status == 0
def DictOp.direct (o : DictOp) : Bool :=
  o.writes && (match o.desc with
    | none => false
    | some d => !d.isCall)
def DictOp.staged (o : DictOp) : Bool :=
  o.direct && (match o.desc with
    | none => false
    | some d => d.rwc)

/-- The REG, RAM and PARAM writes of a request take one status (R540). -/
def markDirect (st : Nat) (l : List DictOp) : List DictOp := l.map (fun o => if o.direct then { o with status := st } else o)

/-- The windows that the staged writes of a request lie in. -/
def stagedWindows (l : List DictOp) : List Nat :=
  ((l.filter DictOp.staged).filterMap (fun o => o.desc.map (fun d => windowBase d.addr))).eraseDups

/-! ### Writes at once -/

/-- The RW fields of a REG entry, and its command bits. -/
def State.writeEntryField (s : State) (d : Desc) (v : Nat) (f : Fld) : State :=
  match f.acc with
  | .rw => s.setField [] f (splice (s.rd f) f d v)
  | .w1c => s.wr f (clearBits (s.rd f) (splice 0 f d v))
  | .rwc | .ro | .wo | .w1s | .rc => s

/-- A REG write outside the shadow (R532). -/
def State.writeEntry (s : State) (d : Desc) (v : Nat) : State :=
  let s1 := d.fieldsOf.foldl (fun a f => a.writeEntryField d v f) s
  if d.fieldsOf.any (fun f => f.acc == .wo || f.acc == .w1s) then s1.commandWrite 11 d.addr (v % 2 ^ d.width * 2 ^ d.lsb) [] else s1

/-- A time write (R552, R560): the status and the state. -/
def State.timeWrite (s : State) (sub : Nat) (v : List Nat) : Nat × State :=
  let n := leNat (v.take 4)
  let step : Int := if sub = 0 then openDiv 13 (sInt 32 n * 32768) 1000 else ((n * 32768 : Nat) : Int) - (s.rtcTicks : Nat)
  if sub ≠ 0 && !s.inService && !s.flag R.AON.RST_CAUSE.TIME_UNSET then (dictStatus.refused, s)
  else
    match s.correctTime 2 step (v.drop 4) with
    | (s1, .applied) => (0, s1)
    | (s1, .refused) => (dictStatus.refused, s1)
    | (s1, .noSlot) => (dictStatus.busy, s1)

/-- A RAM or PARAM write (R532, Table DICT-10). -/
def State.writeRam (s : State) (o : DictOp) (d : Desc) : State :=
  let s1 := s.setBytes d.addr o.value
  if d.kind = backParam then s1.wrBit R.DICT.PDIRTY.BITS o.dirty true else s1

/-- A write that its access has reached, performed at once (R532, R539): its status and the state. -/
def State.applyOp (s : State) (o : DictOp) (d : Desc) : Nat × State :=
  if d.isTime then s.timeWrite o.sub o.value
  else if d.kind = backReg then (0, s.writeEntry d (leNat o.value))
  else
    match s.ramFault kindWrite d.size d.addr with
    | some (a, c) => (dictStatus.timeout, s.memFault .app 11 kindWrite c a)
    | none => (0, s.writeRam o d)

/-! ### Responses (R545) -/

/-- A result of Table DICT-7. -/
def resultBytes (o : DictOp) : List Nat := [o.status] ++ leBytes 2 o.index ++ [o.sub, o.result.length] ++ o.result

/-- The data of a response before its TAG8. -/
def responseData (j : DictJob) : List Nat := [j.hdr, j.ops.length] ++ leBytes 2 j.rid ++ j.ops.flatMap resultBytes

/-- DICT is done with its request. -/
def State.dictIdle (s : State) : State :=
  let s1 := s.setDictState { s.dict with job := none, rfHold := false }
  ((s1.wr R.DICT.STATUS.STATE (if s1.requests.isEmpty then 0 else 1)).showFill).updateMode

/-- The response of a local request, at 0x08 of its slot, which goes back to APP.  The frame counter of a local responder is
not stated: a free value. -/
def State.respondLocal (s : State) (j : DictJob) (n : Nat) : State :=
  let d := responseData j
  let s1 := s.fresh.2
  let tag := (s1.tag8 j.cls s1.addr (s.fresh.1 % 2 ^ 32) (leBytes 4 j.fc ++ d)).getD (List.replicate 8 0)
  let b := (d ++ tag).take 504
  let s2 :=
    if (s1.slot n).writableBy ownDict then s1.setBytes (slotAddr n + 8) b
    else s1.violation n ownDict ((s1.slot n).refusedKind true)
  (s2.give ownDict n ownApp (8 + b.length)).1

/-- The response slots that LINK holds. -/
def State.responsesHeld (s : State) : Nat := (s.slots.filter (fun x => x.owner == ownLink && x.giver == ownDict)).length

/-- The submission of a response: its submission header, the Stook header and the data, with room for TAG8. -/
def responseFrame (final : Nat) (d : List Nat) : List Nat :=
  let p := (stookHeader (4 + 16 + 32) 0 0 0 0 0 2 0 final 0 0 ++ d ++ List.replicate 8 0).take 504
  [1, 1, 0xFF, 0x7F, 0xFF, 0] ++ leBytes 2 p.length ++ p

/-- A response to a request that came in a frame, through the response lane (R515, R545). -/
def State.respondFrame (s : State) (j : DictJob) : State :=
  if s.responsesHeld ≥ 2 then s.answerBusy 3 j.frame
  else
    let c := s.claimAny ownDict
    if c.2.2 ≠ loftOk then c.1.answerBusy 2 j.frame
    else
      let n := c.2.1
      let f := responseFrame (hOrig j.frame) (responseData j)
      let s1 := c.1.setBytes (slotAddr n) f
      let s2 := s1.setDictState { s1.dict with responses := s1.dict.responses.put n j.fc }
      (s2.give ownDict n ownLink f.length).1

/-- What follows the writes of a CONFIG (R495, R496): the pair and the window in force, CFG_NEW, its event, and the frame
released for forwarding. -/
def State.configDone (s : State) (b : List Nat) : State :=
  let d := stookData b
  let s1 := (((s.wr R.LINK.MESH_GEN.GEN (le32 d 0)).wr R.LINK.MESH_CFG.GEN_CID (d.getD 4 0)).wr R.LINK.MESH_COMPAT.MIN
    (le16 d 6)).wr R.LINK.MESH_COMPAT.MAX (le16 d 8)
  let s2 := ((s1.raise R.LINK.MESH_EVT.CFG_NEW).clear R.LINK.MESH_STATE.CFG_BEHIND).log 0x0505 []
  let s3 := (s2.setLink { s2.link with config := (d.take (d.length - 16)).drop 6 }).updateMesh
  (if s3.forwardsDown b then s3.enterForward (forwardFrame b) else s3).syncLink

/-- The end of a request. -/
def State.dictRespond (s : State) (j : DictJob) : State :=
  let s1 := (s.wr R.DICT.STATUS.STATE 5).count R.DICT.COUNTS.REQS 1
  let s2 :=
    if j.config then s1.configDone j.frame
    else
      match j.slot with
      | some n => s1.respondLocal j n
      | none => (s1.respondFrame j).syncLink
  s2.dictIdle

/-! ### Callbacks (R544) -/

/-- The record of Table DICT-6 but for RESULT, which the receiver writes. -/
def callRecord (j : DictJob) (o : DictOp) (tag : Nat) : List Nat :=
  [o.op] ++ leBytes 2 o.index ++ [o.sub, j.cls] ++ leBytes 4 tag ++ leBytes 4 j.fc ++ [o.value.length] ++ o.value

/-- The record of operation `i` given out in a slot of DICT; false where no slot can be claimed. -/
def State.startCall (s : State) (j : DictJob) (i : Nat) (o : DictOp) (d : Desc) : State × Bool :=
  let c := s.claimAny ownDict
  if c.2.2 ≠ loftOk then (c.1, false)
  else
    let n := c.2.1
    let a := slotAddr n
    let s1 := (c.1.setBytes a (leBytes 2 0x4443)).setBytes (a + 3) (callRecord j o d.addr)
    let s2 := (s1.setJob { j with next := i, call := some n }).wr R.DICT.STATUS.STATE 4
    ((s2.give ownDict n (if d.legal then ownMet else ownApp) (0x11 + o.value.length)).1, true)

/-! ### Accesses -/

/-- What a step of DICT finds of the access it needs: not made yet, taken by the far side of its bridge, or timed out
there (R51). -/
inductive Crossing where
  | fresh
  | crossed
  | timedOut
  deriving DecidableEq, Repr

/-- Whether DICT has an access in a word bridge. -/
def State.dictBridged (s : State) : Bool := s.bridges.waiting.any (fun a => bridgeSide a.id == .app && a.req == 11)

/-- What came of an access: it waits, in a bridge or before a hold; it has failed; or it is made now. -/
inductive Reached where
  | wait (s : State)
  | failed (s : State)
  | here
  deriving DecidableEq, Repr

/-- An access of DICT to an entry, taken as far as it goes (R45, R48, R51, R53, R173): `v` is the value of a write. -/
def State.reach (s : State) (d : Desc) (write serving : Bool) (v : Nat) (c : Crossing) : Reached :=
  match c with
  | .crossed => .here
  | .timedOut => .failed s
  | .fresh =>
    match s.gate d write serving with
    | .go => .here
    | .wait => .wait s
    | .gone => .failed s
    | .cross id =>
      let t := s.enterBridge id 11 write false 0 (if d.isLog then 0x40000054 else d.addr) (if write then v else 4)
      if s.farPowered id then .wait t else .failed t

/-! ### The stages of a request -/

/-- The request goes on with its next operation. -/
def DictJob.advance (j : DictJob) : DictJob := { j with next := j.next + 1, half := none }

/-- An operation replaced, and the request goes on with the next one. -/
def DictJob.put (j : DictJob) (o : DictOp) : DictJob := { j with ops := j.ops.set j.next o, next := j.next + 1, half := none }

/-- The request at the start of a stage. -/
def DictJob.enter (j : DictJob) (p : DictPhase) : DictJob := { j with phase := p, next := 0, half := none, call := none }

/-- A step's result: the state, and whether the request has moved. -/
def State.moved (s : State) (j : DictJob) : State × Bool := (s.setJob j, true)

/-- A step that waits. -/
def State.still (s : State) : State × Bool := (s, false)

/-- The fire has failed, or the locks have been lost: the writes that it would apply take FIRE_FAIL (R540). -/
def State.fireFailed (s : State) (j : DictJob) : State × Bool :=
  (s.discardLocked.unlock.log 0x0602 []).moved (({ j with ops := markDirect dictStatus.fireFail j.ops } : DictJob).enter .calls)

/-- Every shadow is written: the fire of group 3, or the writes at once where there is none (R177, R540). -/
def State.stageEnds (s : State) (j : DictJob) : State × Bool :=
  let ws := stagedWindows j.ops
  if ws.isEmpty then s.unlock.moved (j.enter .writes)
  else
    let s1 := s.wr (R.SYSCTL.COMMIT_GROUP.MASK 3) (ws.foldl (fun m b => m + 2 ^ ((b - 0x40000000) / 0x1000)) 0)
    let s2 := s1.setJob (j.enter .fire)
    ((s2.setDictState { s2.dict with fired := none }).queueFire
      { req := 11, dict := true, groups := [3], stopped := [], applied := false }, true)

/-- The shadow write of one operation (R177, R539): a window whose PENDING is 1 is not locked, and the request's writes take
LOCKED. -/
def State.stageStep (s : State) (j : DictJob) (c : Crossing) : State × Bool :=
  if s.dict.fired = some false then s.fireFailed j
  else
    match j.ops[j.next]? with
    | none => s.stageEnds j
    | some o =>
      match o.desc with
      | none => s.moved j.advance
      | some d =>
        if !o.staged then s.moved j.advance
        else
          match s.reach d true true (leNat o.value) c with
          | .wait t => (t, false)
          | .failed t => t.moved (j.put { o with status := dictStatus.timeout })
          | .here =>
            let base := windowBase d.addr
            if s.flag (R.CFG_COMMIT.PENDING base) && !s.dict.locks.contains base then
              (s.discardLocked.unlock).moved (({ j with ops := markDirect dictStatus.locked j.ops } : DictJob).enter .calls)
            else (s.stageOp o).moved j.advance

/-- DICT after its fire. -/
def State.fireStepDict (s : State) (j : DictJob) : State × Bool :=
  match s.dict.fired with
  | none => s.still
  | some false => s.fireFailed j
  | some true => s.unlock.moved (j.enter .writes)

/-- The comparison of a pair that has been written (R542); `go` is how the request goes on. -/
def State.pairStep (s : State) (o : DictOp) (d : Desc) (go : DictOp → DictJob) (c : Crossing) : State × Bool :=
  match o.effDesc with
  | none =>
    let r := s.judgePair o d none
    r.2.moved (go r.1)
  | some e =>
    match s.reach e false true 0 c with
    | .wait t => (t, false)
    | .failed t =>
      let r := t.judgePair o d none
      r.2.moved (go r.1)
    | .here =>
      let x := s.entryRead e
      let r := x.2.judgePair o d x.1
      r.2.moved (go r.1)

/-- One write at once, or the comparison of its pair. -/
def State.writeStep (s : State) (j : DictJob) (c : Crossing) : State × Bool :=
  match j.ops[j.next]? with
  | none => s.moved (j.enter .calls)
  | some o =>
    match o.desc with
    | none => s.moved j.advance
    | some d =>
      if !o.direct then s.moved j.advance
      else if j.half.isSome then s.pairStep o d j.put c
      else if o.staged then s.moved (if d.pair then { j with half := some none } else j.advance)
      else
        match s.reach d true true (leNat o.value) c with
        | .wait t => (t, false)
        | .failed t => t.moved (j.put { o with status := dictStatus.timeout })
        | .here =>
          let r := s.applyOp o d
          let o1 := { o with status := r.1 }
          r.2.moved (if r.1 = 0 ∧ d.pair = true then { j with ops := j.ops.set j.next o1, half := some none } else j.put o1)

/-- The CALLBACK or legal write of a request, if it has one (R539, R540), and the comparison of its pair. -/
def State.callStep (s : State) (j : DictJob) (c : Crossing) : State × Bool :=
  if j.call.isSome then s.still
  else if j.half.isSome then
    match j.ops[j.next]? with
    | none => s.moved (j.enter .reads)
    | some o =>
      match o.desc with
      | none => s.moved (j.enter .reads)
      | some d => s.pairStep o d (fun o1 => (j.put o1).enter .reads) c
  else
    match j.ops.findIdx? (fun o => o.writes && !o.direct) with
    | none => s.moved (j.enter .reads)
    | some i =>
      match j.ops[i]? with
      | none => s.moved (j.enter .reads)
      | some o =>
        match o.desc with
        | none => s.moved (j.enter .reads)
        | some d =>
          let r := s.startCall j i o d
          if r.2 then (r.1, true)
          else r.1.moved (({ j with ops := j.ops.set i { o with status := dictStatus.busy } } : DictJob).enter .reads)

/-- A READ_STATE with what both entries hold (R543): the status of the pair, the requested value and the effective one. -/
def State.stateResult (s : State) (o : DictOp) (v w : Option (List Nat)) : DictOp :=
  match v, w with
  | some a, some b =>
    let st := match s.watched o.index o.sub with
      | none => 0
      | some p => if p.diverged then dictStatus.diverged else dictStatus.pending
    { o with status := st, result := a ++ b }
  | _, _ => { o with status := dictStatus.timeout }

/-- The access of a read: the requested entry first, then for a READ_STATE the effective one. -/
def State.readAccess (s : State) (j : DictJob) (o : DictOp) (e : Desc) (last : Bool) (c : Crossing) : State × Bool :=
  let fin (t : State) (v : Option (List Nat)) : State × Bool :=
    if !last then t.moved { j with half := some v }
    else
      match o.op == opState, j.half with
      | true, some a => t.moved (j.put (t.stateResult o a v))
      | _, _ => t.moved (j.put (match v with
          | some b => { o with result := b }
          | none => { o with status := dictStatus.timeout }))
  match s.reach e false true 0 c with
  | .wait t => (t, false)
  | .failed t => fin t none
  | .here => fin (s.entryRead e).2 (s.entryRead e).1

/-- One read (R541, R543, R544).  What a READ_STATE answers for an entry that is no pair the spec does not state: a free
status. -/
def State.readStep (s : State) (j : DictJob) (c : Crossing) : State × Bool :=
  if j.call.isSome then s.still
  else
    match j.ops[j.next]? with
    | none => (s.dictRespond j, true)
    | some o =>
      match o.desc with
      | none => s.moved j.advance
      | some d =>
        if o.op = opWrite ∨ o.status ≠ 0 then s.moved j.advance
        else if o.op = opRead ∧ d.isCall then
          let r := s.startCall j j.next o d
          if r.2 then (r.1, true) else r.1.moved (j.put { o with status := dictStatus.busy })
        else if o.op = opRead then s.readAccess j o d true c
        else
          match d.pair, o.effDesc with
          | true, some e => if j.half.isNone then s.readAccess j o d false c else s.readAccess j o e true c
          | _, _ => s.fresh.2.moved (j.put { o with status := s.fresh.1 % 16 })

/-- One step of the request in service. -/
def State.dictStep (s : State) (j : DictJob) (c : Crossing) : State × Bool :=
  match j.phase with
  | .check => s.still
  | .stage => s.stageStep j c
  | .fire => s.fireStepDict j
  | .writes => s.writeStep j c
  | .calls => s.callStep j c
  | .reads => s.readStep j c

/-- The request taken as far as it goes: until it waits, or has been answered. -/
def State.dictSteps (s : State) : Nat → State
  | 0 => s
  | n + 1 =>
    match s.dict.job with
    | none => s
    | some j =>
      if s.dictBridged || s.dict.polling.isSome then s
      else
        let r := s.dictStep j .fresh
        if r.2 then r.1.dictSteps n else r.1

/-- At most 16 operations, each with at most one step of a stage and two accesses in two more. -/
def State.dictRun (s : State) : State := s.dictSteps 100

/-- The access that DICT has in a bridge ends there. -/
def State.dictCrossed (s : State) (c : Crossing) : State :=
  match s.dict.job with
  | none => s
  | some j => (s.dictStep j c).1.dictRun

/-! ### The apply phase -/

/-- The start of the apply phase. -/
def State.dictApply (s : State) (j : DictJob) : State :=
  let s1 := s.setDictState { s.dict with fired := none }
  ((s1.wr R.DICT.STATUS.STATE 3).setJob (j.enter .stage)).dictRun

/-- The check phase, with the RF domain On where an operation needs it. -/
def State.dictCheck (s : State) (j : DictJob) : State :=
  let ops := s.checkOps j.cls { size := 12, call := false, pairs := [] } j.ops
  let s1 := j.ops.foldl (fun a o => a.searchEntry o.index o.sub) s
  if j.config then (s1.logSkips ops).dictApply { j with ops := ops.filter (fun o => !skipped o) }
  else s1.dictApply { j with ops := abortWrites ops }

/-- A request that has passed: DICT holds RF On where it needs it, and waits for it (R557). -/
def State.dictBegin (s : State) (j : DictJob) : State :=
  let s1 := s.wr R.DICT.STATUS.STATE 2
  if s1.needsRf j.ops ∧ s1.level ≤ 3 then
    let s2 := s1.setDictState { s1.dict with rfHold := true }
    if s2.power.rf.st = .on then s2.updateMode.dictCheck j
    else ((s2.setJob { j with phase := .check }).startExit .rf).updateMode
  else s1.dictCheck j

/-! ### What follows a fire -/

/-- Fires taken as far as they go, DICT after its own, the units of DMA, and what the releases let go on. -/
def State.settle (s : State) : State :=
  (s.pumpFires.dictRun.pumpFires.replay.resumeUnits).pumpFires.dictRun.resumeUnits

/-! ### DICT_REQUEST_SERVE (R535 to R541) -/

/-- A request as its check is to find it. -/
def newJob (frame : List Nat) (slot : Option Nat) (config : Bool) (cls hdr rid fc : Nat) (ops : List DictOp) : DictJob :=
  { frame := frame, slot := slot, config := config, cls := cls, hdr := hdr, rid := rid, fc := fc, ops := ops, phase := .check
    next := 0, half := none, call := none }

/-- Request data judged for its format, TAG8 and FC (R537): the request begins, or what fails is counted. -/
def State.judgeRequest (s : State) (frame : List Nat) (slot : Option Nat) (orig path fc : Nat) (d : List Nat) : State :=
  match requestOps d with
  | none => s.failAuth.dictIdle
  | some ops =>
    let cls := d.getD 0 0 % 4
    if s.tag8 cls orig fc (d.take (d.length - 8)) != some (d.drop (d.length - 8)) then s.failAuth.dictIdle
    else if !s.aboveFloor path fc then s.failReplay.dictIdle
    else (s.setFloorTo path fc).dictBegin (newJob frame slot false cls (d.getD 0 0) (le16 d 2) fc ops)

/-- Whether the content of a CONFIG differs from the one in force. -/
def State.configDiffers (s : State) (d : List Nat) : Bool := (d.take (d.length - 16)).drop 6 != s.link.config

/-- A CONFIG frame judged (R496): its MIC and its TAG, then its rank. -/
def State.judgeConfig (s : State) (b : List Nat) : State :=
  match s.openFrame b with
  | none => s.failAuth.dictIdle
  | some d =>
    let body := d.take (d.length - 16)
    let gen := le32 d 0
    let cid := d.getD 4 0
    if d.length < 27 || !s.keyHas 4 attrMac || cmacOf (s.keyBytes 4) body != d.drop (d.length - 16) then s.failAuth.dictIdle
    else if !s.ranksAbove gen cid then
      (if gen = s.rd R.LINK.MESH_GEN.GEN ∧ cid > s.rd R.LINK.MESH_CFG.GEN_CID ∧ s.configDiffers d then
        (s.raise R.LINK.MESH_EVT.CFG_CONFLICT).log 0x0506 [] else s).dictIdle
    else
      match configOps body with
      | none => s.failAuth.dictIdle
      | some ops => s.dictBegin (newJob b none true clsOper 0 0 (hFc b) ops)

/-- The request of a frame. -/
def State.openRequest (s : State) (b : List Nat) : State :=
  if hClass b = 7 then s.judgeConfig b
  else if !isCollectorAddr (hOrig b) then (s.count R.DICT.COUNTS.AUTH_FAIL 1).dictIdle
  else
    match s.openFrame b with
    | none => s.failAuth.dictIdle
    | some d => s.judgeRequest b none (hOrig b) (hOrig b - 0xFC00) (hFc b) d

/-- A local request's slot set FREE where the request is discarded. -/
def State.freeRefused (s : State) (n : Nat) : State :=
  if s.dict.job.isNone ∧ (s.slot n).owner = ownDict then s.freeSlot n else s

/-- The local request of a slot (R535). -/
def State.openLocal (s : State) (n : Nat) : State :=
  let b := s.bytes (slotAddr n) (s.slot n).len
  (if b.length < 8 ∨ le16 b 0 ≠ 0x444C ∨ le16 b 2 ≠ 0 then s.failAuth.dictIdle
    else s.judgeRequest [] (some n) 0xFFFE 4 (le32 b 4) (b.drop 8)).freeRefused n

/-- The head of the request queue taken. -/
def State.takeRequest (s : State) : State :=
  match s.requests with
  | [] => s
  | r :: rest =>
    let s1 := ({ s with requests := rest } : State).wr R.DICT.STATUS.STATE 1
    match r with
    | [x] => s1.openLocal (x - 0x100)
    | _ => s1.openRequest r

/-- DICT_REQUEST_SERVE (R539): DICT takes the head of its queue, or goes on with a request whose RF domain has come On; at L5
no request is served (R28), and none while UNDER holds the memories DICT reads (R61). -/
def execDictRequestServe (s : State) : Host.Outcome State Fault Refusal :=
  if !s.appOn || decide (s.level ≥ 5) || s.flag (R.PWR.PACE_STATUS.UNDER .app) then .next s
  else
    match s.dict.job with
    | none => .next s.takeRequest.settle
    | some j =>
      if j.phase = .check ∧ (s.power.rf.st = .on ∨ s.level ≥ 4) then .next (s.dictCheck j).settle else .next s

/-! ### DICT_LOCK_TIMEOUT (R177) -/

/-- DICT's fire forgotten: taken out of the queue, or no longer awaited where it is in its apply phase. -/
def dropDictFires : List FireJob → List FireJob
  | [] => []
  | j :: r => if j.dict then (if j.applied then { j with dict := false } :: dropDictFires r else dropDictFires r) else j :: dropDictFires r

/-- DICT_LOCK_TIMEOUT (R177, R540): 2 ms have passed since the first shadow write and the fire has not completed; an access
that DICT has in a bridge ends there first. -/
def execDictLockTimeout (s : State) : Host.Outcome State Fault Refusal :=
  match s.dict.job with
  | none => .next s
  | some j =>
    if (j.phase ≠ .fire ∧ (j.phase ≠ .stage ∨ s.dict.locks = [])) ∨ s.dict.fired.isSome then .next s
    else
      let s1 : State := { s with fabric := { s.fabric with fires := dropDictFires s.fabric.fires } }
      let s2 := s1.discardLocked.unlock
      .next (s2.setDictState { s2.dict with fired := some false }).settle

/-! ### Callbacks that end (R544) -/

/-- The callback of a request ends with a status and, for a read, a value: the request goes on with the comparison of a pair
that was written, or with its reads. -/
def State.endCall (s : State) (j : DictJob) (st : Nat) (v : List Nat) : State :=
  match j.ops[j.next]? with
  | none => s.dictRespond j
  | some o =>
    let o1 := { o with status := st, result := if st == 0 && o.op == opRead then v else [] }
    let j1 : DictJob := { j with ops := j.ops.set j.next o1, call := none }
    let pair := match o.desc with
      | none => false
      | some d => d.pair
    (s.setJob (if o.op ≠ opWrite then j1.advance
      else if st = 0 ∧ pair = true then { j1 with half := some none }
      else j1.enter .reads)).dictRun

/-- The size of the entry that a callback reads. -/
def DictJob.callSize (j : DictJob) : Nat :=
  match j.ops[j.next]? with
  | none => 0
  | some o => (o.desc.map (fun d => d.size)).getD 0

/-- DICT_CALLBACK_RETURN (R544, R550): the slot DICT waits for has come back; RESULT is the status.  Any other slot is left
alone: its doorbell has set it FREE. -/
def execDictCallbackReturn (slot : Nat) (s : State) : Host.Outcome State Fault Refusal :=
  let n := slot % 32
  match s.dict.job with
  | none => .next s
  | some j =>
    if !s.appOn || j.call != some n || (s.slot n).owner != ownDict then .next s
    else
      let b := s.bytes (slotAddr n) 0x200
      let v := (b.drop 0x11).take (min (b.getD 0x10 0) j.callSize)
      .next ((s.freeSlot n).endCall j (b.getD 2 0) v).settle

/-- DICT_CB_TIMEOUT (R544): the slot has not come back within CFG.CB_TIMEOUT. -/
def execDictCbTimeout (s : State) : Host.Outcome State Fault Refusal :=
  match s.dict.job with
  | none => .next s
  | some j =>
    match j.call with
    | none => .next s
    | some n =>
      if !s.appOn || (s.slot n).owner == ownDict then .next s
      else
        let s1 := (s.setDictState { s.dict with stale := s.dict.stale ++ [n] }).log 0x0603 []
        .next (s1.endCall j dictStatus.timeout []).settle

/-! ### Watching (R542, R543) -/

/-- A read of the effective entry of a watched pair finds it equal: the watch ends with DICT_CONVERGED. -/
def State.converge (s : State) (w : WatchedPair) : State := (s.endWatch w.index w.sub).log 0x0621 []

/-- A value of an entry as DICT_DIVERGED carries it: four bytes, sign-extended for a signed type (the worked
case of ch. 21); of a longer value the first four. -/
def divergedValue (d : Option Desc) (v : List Nat) : List Nat :=
  match d with
  | some e => leBytes 4 (if signedType e.ty then uInt 32 (sInt (8 * e.size) (leNat v)) else leNat (v.take 4))
  | none => leBytes 4 (leNat (v.take 4))

/-- The settle time has passed and the effective entry differs: DICT_DIVERGED, once for each time it is marked. -/
def State.diverge (s : State) (w : WatchedPair) (e : List Nat) : State :=
  if w.diverged then s
  else
    ((s.enterWatch { w with diverged := true }).count R.DICT.COUNTS2.DIVERGES 1).log 0x0620
      (leBytes 2 w.index ++ [w.sub, 0] ++ divergedValue (s.entry w.index w.sub) w.value ++
        divergedValue (s.entry w.index w.eff) e)

/-- The effective entry of a watched pair has been read, or could not be: with `settled` its settle time has passed. -/
def State.judgeWatch (s : State) (w : WatchedPair) (settled : Bool) (v : Option (List Nat)) : State :=
  if v = some w.value then s.converge w else if settled then s.diverge w (v.getD []) else s

/-- The effective entry of a watched pair read (R542, R543); through a bridge it waits there. -/
def State.pollWatch (s : State) (w : WatchedPair) (settled : Bool) (c : Crossing) : State :=
  match s.entry w.index w.eff with
  | none => s.judgeWatch w settled none
  | some d =>
    match s.reach d false false 0 c with
    | .wait t => if t.dictBridged then t.setDictState { t.dict with polling := some (w.index, w.sub, settled) } else t
    | .failed t => t.judgeWatch w settled none
    | .here => (s.entryRead d).2.judgeWatch w settled (s.entryRead d).1

/-- The read of a watched pair ends in its bridge, and DICT goes on. -/
def State.pollCrossed (s : State) (index sub : Nat) (settled : Bool) (c : Crossing) : State :=
  let s1 := s.setDictState { s.dict with polling := none }
  (match s1.watched index sub with
    | none => s1
    | some w => s1.pollWatch w settled c).dictRun

/-- An access of DICT ends in its bridge. -/
def State.dictArrives (s : State) (c : Crossing) : State :=
  match s.dict.polling with
  | some (index, sub, settled) => s.pollCrossed index sub settled c
  | none => s.dictCrossed c

/-- DICT_WATCH_POLL (R542): the 100 ms read of the n-th watched pair, while DICT has no access outstanding. -/
def execDictWatchPoll (n : Nat) (s : State) : Host.Outcome State Fault Refusal :=
  match s.dict.watch[n]? with
  | none => .next s
  | some w => if !s.appOn || w.diverged || s.dictBridged then .next s else .next (s.pollWatch w false .fresh)

/-- DICT_SETTLE_EXPIRE (R543): S has passed for the n-th watched pair, which is read once more. -/
def execDictSettleExpire (n : Nat) (s : State) : Host.Outcome State Fault Refusal :=
  match s.dict.watch[n]? with
  | none => .next s
  | some w => if !s.appOn || s.dictBridged then .next s else .next (s.pollWatch w true .fresh)

end Sys2Proof.Machine
end

