-- ==== Sys2Proof/Machine/Commands.lean ====
section
/-! DEFINITION. The commands that reach registers and memory (ch. 02, 06, 07): writes with their aliases, commits, fires and
the synchronising read, memory and flash accesses, what enters a bridge, what its far side latches and what times out; the
units that DMA moves (ch. 24); and the samples of the supply monitor, whose L7 ends the holds of UNDER, with the end of the
energy check, for which a sample waits (ch. 14). -/

namespace Sys2Proof.Machine

open Sys2Proof

/-! ### Accesses (R163 to R168, R194 to R204) -/

/-- An access of a requester of a side whose domain is On and that has no other outstanding (R204); `busy` says that the
arbitrated target serves another access. -/
def State.request (s : State) (h : HeldAccess) (env : WriteEnv) (busy : Bool) : State :=
  if s.sideOn h.sd && !s.outstanding h.sd (portOf h.sd h.req) then (s.access h env.world env.contest busy).settle else s

/-- A 32-bit write. -/
def State.command (s : State) (sd : Side) (req addr data : Nat) (env : WriteEnv) : State :=
  s.request { sd := sd, req := req, kind := kindWrite, size := 4, addr := addr, data := data % 2 ^ 32, rom := false } env false

/-- REGISTER_WRITE (R163, R165, R168, R185). -/
def execRegisterWrite (sd : Side) (req addr data : Nat) (env : WriteEnv) (s : State) : Host.Outcome State Fault Refusal :=
  .next (s.command sd req addr data env)

/-- CFG_COMMIT (R169): a write of COMMIT to the CFG_COMMIT of the window of an address. -/
def execCfgCommit (sd : Side) (req addr : Nat) (s : State) : Host.Outcome State Fault Refusal :=
  .next (s.command sd req (windowBase addr + 0xFC) 1 WriteEnv.none)

/-- CFG_DISCARD (R170). -/
def execCfgDiscard (sd : Side) (req addr : Nat) (s : State) : Host.Outcome State Fault Refusal :=
  .next (s.command sd req (windowBase addr + 0xFC) 2 WriteEnv.none)

/-- ALIAS_SET (R164, R165): the operation at the set alias of a register. -/
def execAliasSet (sd : Side) (req addr data : Nat) (env : WriteEnv) (s : State) : Host.Outcome State Fault Refusal :=
  .next (s.command sd req (addr + 0x1000000) data env)

/-- ALIAS_CLEAR (R164, R165). -/
def execAliasClear (sd : Side) (req addr data : Nat) (env : WriteEnv) (s : State) : Host.Outcome State Fault Refusal :=
  .next (s.command sd req (addr + 0x2000000) data env)

/-- ALIAS_TOGGLE (R164, R165). -/
def execAliasToggle (sd : Side) (req addr data : Nat) (env : WriteEnv) (s : State) : Host.Outcome State Fault Refusal :=
  .next (s.command sd req (addr + 0x3000000) data env)

/-- READ_SYNC (R179): the write of 1 to the READ_SYNC of a side enters its word bridge. -/
def execReadSync (sd : Side) (s : State) : Host.Outcome State Fault Refusal :=
  .next (s.command sd 1 (sd.pick 0x40000030 0x48000030) 1 WriteEnv.none)

/-- Further bits of the flash double word at an address found in error at a read of it (R219). -/
def State.meetErrors (s : State) (sd : Side) (kind addr bits : Nat) : State :=
  if bits = 0 ∨ kind = kindWrite ∨ areaOf sd addr ≠ .flash then s
  else s.damage (physOf sd (sd.pick ((s.unwindow addr).getD addr) addr)) bits

/-- MEMORY_ACCESS: any access of a requester, at any address of its side.  `met` says what the access meets, `env`
what a write meets in its handshake window. -/
def execMemoryAccess (sd : Side) (req kind size addr data : Nat) (rom : Bool) (met : AccessEnv) (env : WriteEnv)
    (s : State) : Host.Outcome State Fault Refusal :=
  let n := sizeOf' size
  let s1 := (s.strikes met.upsets).meetErrors sd (kind % 3) addr met.bits
  .next (s1.request { sd := sd, req := req, kind := kind % 3, size := n, addr := addr, data := data % 2 ^ (8 * n), rom := rom }
    env met.wait)

/-! ### Fires (R172 to R176) -/

/-- COMMIT_FIRE (R172, R176): a write of COMMIT_FIRE; `stopped` names the windows whose clock stops. -/
def execCommitFire (req bits : Nat) (stopped : List Nat) (s : State) : Host.Outcome State Fault Refusal :=
  .next (s.command .app req 0x40000020 bits { world := stopped, contest := Contest.none })

/-- COMMIT_LATE (R175): the apply phase of the fire in progress has lasted its bridge's limit. -/
def execCommitLate (s : State) : Host.Outcome State Fault Refusal := .next s.fireLate.settle

/-- LATE_CLOCK_COMMIT (R175): the first clock edge of a block that is to commit late. -/
def execLateClockCommit (window : Nat) (s : State) : Host.Outcome State Fault Refusal := .next (s.lateEdge window).settle

/-! ### Bridges (R46 to R53, R56, R64, R179) -/

/-- Whether an access at an address of a side is carried by a bridge (Table CLK-4). -/
def carries (id : Nat) (sd : Side) (write : Bool) (mode addr : Nat) : Bool :=
  areaOf sd addr == .register &&
    (if write then sideBridge sd (sharedReg (regAddr addr)) == some id
     else mode == 0 && readBridge (sharedReg (regAddr addr)) == some id)

/-- BRIDGE_ACCESS (R12, R45, R48, R53): an access of a requester of the bridge's side, at an address of that side which the
bridge carries; LINK_MST carries the memory accesses of the link engine, and RF_TXD frame data that no register holds. -/
def execBridgeAccess (id req : Nat) (write : Bool) (mode addr data : Nat) (s : State) : Host.Outcome State Fault Refusal :=
  let sd := bridgeSide id
  let kind := if write then kindWrite else kindRead
  if id = 0x0E then
    .next (if s.rfReady then
      s.request { sd := .app, req := 10, kind := kind, size := 4, addr := addr, data := data % 2 ^ 32, rom := false } WriteEnv.none
        false
    else s)
  else if id = 0x09 then
    .next (if s.sideOn .app && !s.outstanding .app (portOf .app req) then s.enterBridge 0x09 (portOf .app req) write false 0 addr data else s)
  else if isWordBridge id && carries id sd write (mode % 4) addr then
    .next (s.request
      { sd := sd, req := req, kind := kind, size := 4, addr := issuedAddr (mode % 4) addr, data := data % 2 ^ 32, rom := false } WriteEnv.none
      false)
  else .next s

/-- Whether a requester of the application side is a DMA channel. -/
def BridgeAccess.ofDma (a : BridgeAccess) : Bool := bridgeSide a.id == .app && decide (2 ≤ a.req) && decide (a.req ≤ 9)

/-- An access of a core, or of another requester that waits for it alone, completed on the far side; a write that meets a
lock of DICT waits there (R177). -/
def State.farAccess (s : State) (a : BridgeAccess) (env : WriteEnv) : State :=
  if a.write then
    let w : HeldWrite :=
      { sd := bridgeSide a.id, req := a.req, mode := a.mode, addr := a.addr, data := a.data, env := env.world, arrived := true }
    if s.lockWaits a.req a.mode (sharedReg (regAddr a.addr)) a.data then s.putAside w else (s.performStore w env.contest).done 0
  else s.performRead a.data a.addr

/-- An access taken and completed on the far side, and what waited for it. -/
def State.completeAccess (s : State) (a : BridgeAccess) (env : WriteEnv) : State :=
  if a.id = 0x09 then s.done 0
  else if a.ofDma then s.unitCrossed (a.req - 2) a env.world
  else if bridgeSide a.id = .app ∧ a.req = 11 then s.dictArrives .crossed
  else if a.sync then s.done 0
  else s.farAccess a env

/-- The access at the head of a word bridge at an edge of the far clock: a READ_SYNC is taken at one edge and completes at
the next, with the mirror of its side refreshed (R179, R191). -/
def State.latchHead (s : State) (id : Nat) (env : WriteEnv) : State :=
  match s.bridgeHead id with
  | none => s
  | some a =>
    if a.sync && !a.taken then
      { s with bridges := { s.bridges with waiting := { a with taken := true } :: dropHead id s.bridges.waiting } }
    else
      let s1 := (s.popBridge id).setRun id 0
      (if a.sync then s1.refreshSide (bridgeSide id) else s1).completeAccess a env

/-- An edge at which the far side of a pulse bridge takes the event that is pending (R47, R56). -/
def State.takePulse (s : State) (id : Nat) : State :=
  if s.bridges.pulses.contains id then
    ({ s with bridges := { s.bridges with pulses := s.bridges.pulses.filter (fun n => n != id) } } : State).setRun id 0
  else s

/-- The mirrors that an edge refreshes (R50): AON_M, MAON_M and RF_M. -/
def State.edgeMirror (s : State) (id : Nat) : State :=
  if id = 0x02 then s.refreshSide .app
  else if id = 0x12 then s.refreshSide .met
  else if id = 0x0B then s.refreshRf
  else s

/-- BRIDGE_FAR_LATCH (R46 to R50, R56, R64, R175): an edge of the far clock of a bridge: a pulse is acknowledged, a mirror
refreshed, late commits of the RF blocks are made, and the access at the head is taken. -/
def execBridgeFarLatch (id : Nat) (env : WriteEnv) (s : State) : Host.Outcome State Fault Refusal :=
  if !s.farPowered id || !s.farClock id || !s.awake then .next s
  else
    let s1 := (s.takePulse id).edgeMirror id
    let s2 := if id = 0x08 then clockedWindows.foldl State.lateEdge s1 else s1
    .next (s2.latchHead id env).settle

/-- The head of a bridge withdrawn at its limit, and what waited for it. -/
def State.headTimesOut (s : State) (a : BridgeAccess) : State :=
  if bridgeSide a.id = .app ∧ a.req = 11 then (s.withdraw a).dictArrives .timedOut else s.withdraw a

/-- BRIDGE_TIMEOUT (R51, R54, R57): the access at the head of a word bridge, or the event pending in a pulse bridge, has
reached its limit. -/
def execBridgeTimeout (id : Nat) (s : State) : Host.Outcome State Fault Refusal :=
  if !s.timeoutsRun then .next s
  else if isPulseBridge id then .next (if s.bridges.pulses.contains id then s.pulseTimeout id else s)
  else
    match s.bridgeHead id with
    | none => .next s
    | some a => .next (s.headTimesOut a).settle

/-! ### Flash (R222 to R229) -/

/-- FLASH_SEQUENCE_WRITE (R224): a 32-bit write to a flash array. -/
def execFlashSequenceWrite (sd : Side) (req addr data : Nat) (s : State) : Host.Outcome State Fault Refusal :=
  .next (s.command sd req addr data WriteEnv.none)

/-- FLASH_PROGRAM (R225 to R227): the fifth write of a program sequence. -/
def execFlashProgram (sd : Side) (req addr data : Nat) (s : State) : Host.Outcome State Fault Refusal :=
  .next (s.command sd req addr data WriteEnv.none)

/-- FLASH_ERASE (R225, R226): the fourth write of an erase sequence, whose data may be any value. -/
def execFlashErase (sd : Side) (req addr : Nat) (s : State) : Host.Outcome State Fault Refusal :=
  .next (s.command sd req addr 0 WriteEnv.none)

/-- FLASH_PROGRAM_DONE (R228). -/
def execFlashProgramDone (sd : Side) (pulses verify : Nat) (s : State) : Host.Outcome State Fault Refusal :=
  .next (s.programDone sd pulses verify).updServe

/-- FLASH_ERASE_DONE (R229, R232, R233). -/
def execFlashEraseDone (sd : Side) (pulses : Nat) (blank header : Bool) (s : State) : Host.Outcome State Fault Refusal :=
  .next (s.eraseDone sd pulses blank header).updServe

/-- FLASH_ERASE_STOPPED (R230): the aborted erase has stopped. -/
def execFlashEraseStopped (sd : Side) (s : State) : Host.Outcome State Fault Refusal := .next (s.eraseStopped sd).updServe

/-! ### UNDER and the supply monitor (R61, R80, R92) -/

/-- The hold of a side ended, where it stands, with what it held. -/
def State.freeHold (s : State) (sd : Side) : State :=
  if s.flag (R.PWR.PACE_STATUS.UNDER sd) then (s.endUnder sd).settle.updServe else s

/-- UNDER_RELEASE (R61): VCORE is back above 0.44 V; the held handshakes go on. -/
def execUnderRelease (sd : Side) (s : State) : Host.Outcome State Fault Refusal := .next (s.freeHold sd)

/-- The L7 actions end the holds of UNDER (R61). -/
def State.freeAtL7 (s : State) (before : Nat) : State :=
  if s.level = 7 ∧ before < 7 then (s.freeHold .app).freeHold .met else s

/-- SUPPLY_MONITOR_SAMPLE (R80 to R84, R92, R182, R367): `onAir` is the carrier time of a test or transmission that the new level
ends. -/
def execSupplyMonitorSample (vmeas : Nat) (upsets : List Upset) (onAir : Nat) (s : State) : Host.Outcome State Fault Refusal :=
  .next (if s.samples then (s.sampleDue { vmeas := vmeas, upsets := upsets, onAir := onAir }).freeAtL7 s.level else s)

/-- ECHK_DONE (R367): the check's result, and the ladder sample that waited for its end. -/
def execEchkDone (vload : Nat) (s : State) : Host.Outcome State Fault Refusal :=
  .next (if s.flag R.MPWR.ECHK.BUSY then ((s.echkEnd vload).waitingSample).freeAtL7 s.level else s)

/-- TOSC_FAIL (R57, R92): with the sample that the supply monitor takes at once. -/
def execToscFail (s : State) : Host.Outcome State Fault Refusal :=
  if !s.awake || s.bridges.fallback then .next s else .next (s.toscFails.freeAtL7 s.level)

/-! ### Units of DMA (R618, R619, R623, R624) -/

/-- DMA_UNIT (R614, R618, R619, R622 to R624): the channel moves its next unit, or takes the one it has outstanding further;
it loads its next descriptor, or ends one of no unit. -/
def execDmaUnit (ch : Nat) (env : List Nat) (s : State) : Host.Outcome State Fault Refusal :=
  if !isChannel ch || !s.appOn then .next s
  else if s.unitOut ch then .next s.settle
  else if !s.flag (R.DMA.CFG.EN ch) || s.flag (R.DMA.CFG.PAUSE ch) || s.ringMode ch then .next s
  else if !s.dma.loaded.contains ch then .next (s.dmaGo ch).settle
  else if !s.dma.started.contains ch then .next s
  else if s.dmaCount ch = 0 then .next (s.dmaEndDesc ch none).settle
  else .next (s.unitRead ch env).settle

end Sys2Proof.Machine
end

