-- ==== Sys2Proof/Machine/Dispatch.lean ====
section
/-! DEFINITION. One arm for each command: the meaning it calls. -/

namespace Sys2Proof.Machine

open Sys2Proof

/-- What a command does to everything but the queue. -/
def exec (i : Instr) (s : State) : Host.Outcome State Fault Refusal :=
  match i with
  | .porAssert => Sys2Proof.Machine.execPorAssert s
  | .porRelease vmeas met => Sys2Proof.Machine.execPorRelease vmeas met s
  | .nresetAssert onAir => Sys2Proof.Machine.execNresetAssert onAir s
  | .nresetRelease vmeas met => Sys2Proof.Machine.execNresetRelease vmeas met s
  | .clockLoss => Sys2Proof.Machine.execClockLoss s
  | .clockLossRelease vmeas met => Sys2Proof.Machine.execClockLossRelease vmeas met s
  | .lfxoFirstRun => Sys2Proof.Machine.execLfxoFirstRun s
  | .lfxoStartTimeout => Sys2Proof.Machine.execLfxoStartTimeout s
  | .lfxoLost ticks => Sys2Proof.Machine.execLfxoLost ticks s
  | .lfxoResume => Sys2Proof.Machine.execLfxoResume s
  | .toscFail => Sys2Proof.Machine.execToscFail s
  | .supplyMonitorSample vmeas upsets onAir => Sys2Proof.Machine.execSupplyMonitorSample vmeas upsets onAir s
  | .freezeDone => Sys2Proof.Machine.execFreezeDone s
  | .freezeTimeout => Sys2Proof.Machine.execFreezeTimeout s
  | .under sd => Sys2Proof.Machine.execUnder sd s
  | .vcoreUnder sd => Sys2Proof.Machine.execVcoreUnder sd s
  | .underRelease sd => Sys2Proof.Machine.execUnderRelease sd s
  | .paceUpdate sd rate goal => Sys2Proof.Machine.execPaceUpdate sd rate goal s
  | .paceCeiling sd => Sys2Proof.Machine.execPaceCeiling sd s
  | .biasReevaluate sd asked => Sys2Proof.Machine.execBiasReevaluate sd asked s
  | .retentionFlip sd => Sys2Proof.Machine.execRetentionFlip sd s
  | .pulseBridgeEvent id => Sys2Proof.Machine.execPulseBridgeEvent id s
  | .bridgeAccess id req write mode addr data => Sys2Proof.Machine.execBridgeAccess id req write mode addr data s
  | .bridgeFarLatch id env => Sys2Proof.Machine.execBridgeFarLatch id env s
  | .bridgeTimeout id => Sys2Proof.Machine.execBridgeTimeout id s
  | .bridgeLockup id stall onAir ops => Sys2Proof.Machine.execBridgeLockup id stall onAir ops s
  | .chargerRestart vres vbat => Sys2Proof.Machine.execChargerRestart vres vbat s
  | .chargerStop vres vbat => Sys2Proof.Machine.execChargerStop vres vbat s
  | .vresMeasurement vres vbat temp => Sys2Proof.Machine.execVresMeasurement vres vbat temp s
  | .resSlow => Sys2Proof.Machine.execResSlow s
  | .resCollapse tAir => Sys2Proof.Machine.execResCollapse tAir s
  | .acoreWfi onAir => Sys2Proof.Machine.execAcoreWfi onAir s
  | .domainEntry d idle => Sys2Proof.Machine.execDomainEntry d idle s
  | .entryHeld d => Sys2Proof.Machine.execEntryHeld d s
  | .entryComplete d asked => Sys2Proof.Machine.execEntryComplete d asked s
  | .wakeEvent sd causes => Sys2Proof.Machine.execWakeEvent sd causes s
  | .exitComplete d ops => Sys2Proof.Machine.execExitComplete d ops s
  | .shipRequest => Sys2Proof.Machine.execShipRequest s
  | .shipWake vmeas met => Sys2Proof.Machine.execShipWake vmeas met s
  | .mctlRun v => Sys2Proof.Machine.execMctlRun v s
  | .mctlKeep v => Sys2Proof.Machine.execMctlKeep v s
  | .serviceGrant v => Sys2Proof.Machine.execServiceGrant v s
  | .serviceEnd => Sys2Proof.Machine.execServiceEnd s
  | .rfHold v onAir => Sys2Proof.Machine.execRfHold v onAir s
  | .wakeClr sd => Sys2Proof.Machine.execWakeClr sd s
  | .acoreWatchdog onAir => Sys2Proof.Machine.execAcoreWatchdog onAir s
  | .mcoreWatchdog ops => Sys2Proof.Machine.execMcoreWatchdog ops s
  | .softwareReset key onAir => Sys2Proof.Machine.execSoftwareReset key onAir s
  | .watchdogFeed sd key => Sys2Proof.Machine.execWatchdogFeed sd key s
  | .wdtPeriodWrite period => Sys2Proof.Machine.execWdtPeriodWrite period s
  | .registerWrite sd req addr data env => Sys2Proof.Machine.execRegisterWrite sd req addr data env s
  | .cfgCommit sd req addr => Sys2Proof.Machine.execCfgCommit sd req addr s
  | .cfgDiscard sd req addr => Sys2Proof.Machine.execCfgDiscard sd req addr s
  | .aliasSet sd req addr data env => Sys2Proof.Machine.execAliasSet sd req addr data env s
  | .aliasClear sd req addr data env => Sys2Proof.Machine.execAliasClear sd req addr data env s
  | .aliasToggle sd req addr data env => Sys2Proof.Machine.execAliasToggle sd req addr data env s
  | .commitFire req bits stopped => Sys2Proof.Machine.execCommitFire req bits stopped s
  | .commitLate => Sys2Proof.Machine.execCommitLate s
  | .lateClockCommit window => Sys2Proof.Machine.execLateClockCommit window s
  | .dictLockTimeout => Sys2Proof.Machine.execDictLockTimeout s
  | .readSync sd => Sys2Proof.Machine.execReadSync sd s
  | .arbiterDecision target raised => Sys2Proof.Machine.execArbiterDecision target raised s
  | .memoryAccess sd req kind size addr data rom met env => Sys2Proof.Machine.execMemoryAccess sd req kind size addr data rom met env s
  | .flashSequenceWrite sd req addr data => Sys2Proof.Machine.execFlashSequenceWrite sd req addr data s
  | .flashProgram sd req addr data => Sys2Proof.Machine.execFlashProgram sd req addr data s
  | .flashProgramDone sd pulses verify => Sys2Proof.Machine.execFlashProgramDone sd pulses verify s
  | .flashErase sd req addr => Sys2Proof.Machine.execFlashErase sd req addr s
  | .flashEraseDone sd pulses blank header => Sys2Proof.Machine.execFlashEraseDone sd pulses blank header s
  | .flashAbort sd => Sys2Proof.Machine.execFlashAbort sd s
  | .flashEraseStopped sd => Sys2Proof.Machine.execFlashEraseStopped sd s
  | .protectionEntry req mask => Sys2Proof.Machine.execProtectionEntry req mask s
  | .protRelock mask key => Sys2Proof.Machine.execProtRelock mask key s
  | .arbAdvance sd key idx target => Sys2Proof.Machine.execArbAdvance sd key idx target s
  | .fuseBurnDone split => Sys2Proof.Machine.execFuseBurnDone split s
  | .sealswChange level => Sys2Proof.Machine.execSealswChange level s
  | .sealSet key => Sys2Proof.Machine.execSealSet key s
  | .sealReseal key => Sys2Proof.Machine.execSealReseal key s
  | .mprotLock mask => Sys2Proof.Machine.execMprotLock mask s
  | .claim sd party slot => Sys2Proof.Machine.execClaim sd party slot s
  | .claimAny sd party => Sys2Proof.Machine.execClaimAny sd party s
  | .give sd party slot target len => Sys2Proof.Machine.execGive sd party slot target len s
  | .publish sd party slot len => Sys2Proof.Machine.execPublish sd party slot len s
  | .unpublish sd party slot => Sys2Proof.Machine.execUnpublish sd party slot s
  | .free sd party slot => Sys2Proof.Machine.execFree sd party slot s
  | .loftCopy => Sys2Proof.Machine.execLoftCopy s
  | .loftCopyEnd => Sys2Proof.Machine.execLoftCopyEnd s
  | .freeMinWrite sd => Sys2Proof.Machine.execFreeMinWrite sd s
  | .alarmMArm time en => Sys2Proof.Machine.execAlarmMArm time en s
  | .rtcAlarm sd => Sys2Proof.Machine.execRtcAlarm sd s
  | .stripStart => Sys2Proof.Machine.execStripStart s
  | .stripScanDone current cells spans taps => Sys2Proof.Machine.execStripScanDone current cells spans taps s
  | .stripCont => Sys2Proof.Machine.execStripCont s
  | .stripContDone opens => Sys2Proof.Machine.execStripContDone opens s
  | .stripAbort cells => Sys2Proof.Machine.execStripAbort cells s
  | .ptStart => Sys2Proof.Machine.execPtStart s
  | .ptScanDone current readA readB => Sys2Proof.Machine.execPtScanDone current readA readB s
  | .ptAbort reads => Sys2Proof.Machine.execPtAbort reads s
  | .flowStart => Sys2Proof.Machine.execFlowStart s
  | .flowCalibration count => Sys2Proof.Machine.execFlowCalibration count s
  | .flowVusLow => Sys2Proof.Machine.execFlowVusLow s
  | .flowShot rises peaks opened shorted => Sys2Proof.Machine.execFlowShot rises peaks opened shorted s
  | .flowSequenceDone => Sys2Proof.Machine.execFlowSequenceDone s
  | .flowAbort => Sys2Proof.Machine.execFlowAbort s
  | .touchSample ch raw => Sys2Proof.Machine.execTouchSample ch raw s
  | .touchStuck ch raw => Sys2Proof.Machine.execTouchStuck ch raw s
  | .touchCmdRecal mask => Sys2Proof.Machine.execTouchCmdRecal mask s
  | .tamperSample n level => Sys2Proof.Machine.execTamperSample n level s
  | .lcdReady mv => Sys2Proof.Machine.execLcdReady mv s
  | .lcdPumpFail mv => Sys2Proof.Machine.execLcdPumpFail mv s
  | .lcdPumpRetry => Sys2Proof.Machine.execLcdPumpRetry s
  | .lcdTempSample temp err => Sys2Proof.Machine.execLcdTempSample temp err s
  | .swap => Sys2Proof.Machine.execSwap s
  | .swapCopy => Sys2Proof.Machine.execSwapCopy s
  | .echkStart => Sys2Proof.Machine.execEchkStart s
  | .echkDone vload => Sys2Proof.Machine.execEchkDone vload s
  | .echkFreshEnd => Sys2Proof.Machine.execEchkFreshEnd s
  | .evqPop => Sys2Proof.Machine.execEvqPop s
  | .mromCmac a0 a1 a2 a3 => Sys2Proof.Machine.execMromCmac a0 a1 a2 a3 s
  | .limgChunk slot ops => Sys2Proof.Machine.execLimgChunk slot ops s
  | .limgCheck target => Sys2Proof.Machine.execLimgCheck target s
  | .limgSwitch target ops => Sys2Proof.Machine.execLimgSwitch target ops s
  | .mfProgram a0 a1 a2 ops => Sys2Proof.Machine.execMfProgram a0 a1 a2 ops s
  | .mfErase block ops => Sys2Proof.Machine.execMfErase block ops s
  | .journalCommit a0 a1 ops => Sys2Proof.Machine.execJournalCommit a0 a1 ops s
  | .evlogAppend a0 a1 a2 a3 a4 ops => Sys2Proof.Machine.execEvlogAppend a0 a1 a2 a3 a4 ops s
  | .imageCheck twin => Sys2Proof.Machine.execImageCheck twin s
  | .pwTag a0 a1 => Sys2Proof.Machine.execPwTag a0 a1 s
  | .keyUnwrap a0 => Sys2Proof.Machine.execKeyUnwrap a0 s
  | .wmbDecrypt a0 a1 => Sys2Proof.Machine.execWmbDecrypt a0 a1 s
  | .appSelect => Sys2Proof.Machine.execAppSelect s
  | .loaderInfo payload crc => Sys2Proof.Machine.execLoaderInfo payload crc s
  | .loaderUnlock payload crc => Sys2Proof.Machine.execLoaderUnlock payload crc s
  | .loaderErase payload crc ops => Sys2Proof.Machine.execLoaderErase payload crc ops s
  | .loaderWrite payload crc ops => Sys2Proof.Machine.execLoaderWrite payload crc ops s
  | .loaderBoot payload crc => Sys2Proof.Machine.execLoaderBoot payload crc s
  | .loaderIdleTimeout => Sys2Proof.Machine.execLoaderIdleTimeout s
  | .testCarrier key temp => Sys2Proof.Machine.execTestCarrier key temp s
  | .testModulated key temp => Sys2Proof.Machine.execTestModulated key temp s
  | .testRx key temp => Sys2Proof.Machine.execTestRx key temp s
  | .testStop onAir => Sys2Proof.Machine.execTestStop onAir s
  | .synthCalDone => Sys2Proof.Machine.execSynthCalDone s
  | .synthCalTimeout => Sys2Proof.Machine.execSynthCalTimeout s
  | .rfSynthUnlock onAir => Sys2Proof.Machine.execRfSynthUnlock onAir s
  | .rfHfxoFail onAir => Sys2Proof.Machine.execRfHfxoFail onAir s
  | .tunerRetuneCmd => Sys2Proof.Machine.execTunerRetuneCmd s
  | .tunerForget => Sys2Proof.Machine.execTunerForget s
  | .retuneHoldEnd band => Sys2Proof.Machine.execRetuneHoldEnd band s
  | .tuneDone losses vres vbat => Sys2Proof.Machine.execTuneDone losses vres vbat s
  | .frameSubmit slot => Sys2Proof.Machine.execFrameSubmit slot s
  | .attemptStart k => Sys2Proof.Machine.execAttemptStart k s
  | .backoffEnd vres vbat temp => Sys2Proof.Machine.execBackoffEnd vres vbat temp s
  | .txStart => Sys2Proof.Machine.execTxStart s
  | .txEnd rl => Sys2Proof.Machine.execTxEnd rl s
  | .ackTimeout => Sys2Proof.Machine.execAckTimeout s
  | .frameReceived wmb rssi bytes => Sys2Proof.Machine.execFrameReceived wmb rssi bytes s
  | .ackSend vres vbat rl => Sys2Proof.Machine.execAckSend vres vbat rl s
  | .gleanWindow temp => Sys2Proof.Machine.execGleanWindow temp s
  | .gleanWindowClose => Sys2Proof.Machine.execGleanWindowClose s
  | .dutyMinuteTick => Sys2Proof.Machine.execDutyMinuteTick s
  | .donePop => Sys2Proof.Machine.execDonePop s
  | .rxdataRead => Sys2Proof.Machine.execRxdataRead s
  | .alarmFrame => Sys2Proof.Machine.execAlarmFrame s
  | .responseWindowOpen => Sys2Proof.Machine.execResponseWindowOpen s
  | .responseWindowClose => Sys2Proof.Machine.execResponseWindowClose s
  | .wmbMcntWrite v => Sys2Proof.Machine.execWmbMcntWrite v s
  | .beaconSend => Sys2Proof.Machine.execBeaconSend s
  | .beaconProcess => Sys2Proof.Machine.execBeaconProcess s
  | .parentAge n => Sys2Proof.Machine.execParentAge n s
  | .rescueListen temp => Sys2Proof.Machine.execRescueListen temp s
  | .rescueListenEnd => Sys2Proof.Machine.execRescueListenEnd s
  | .meshGenWrite v => Sys2Proof.Machine.execMeshGenWrite v s
  | .fwdPeakWrite which => Sys2Proof.Machine.execFwdPeakWrite which s
  | .dictRequestServe => Sys2Proof.Machine.execDictRequestServe s
  | .dictWatchPoll n => Sys2Proof.Machine.execDictWatchPoll n s
  | .dictSettleExpire n => Sys2Proof.Machine.execDictSettleExpire n s
  | .dictCallbackReturn slot => Sys2Proof.Machine.execDictCallbackReturn slot s
  | .dictCbTimeout => Sys2Proof.Machine.execDictCbTimeout s
  | .floorWrite n v => Sys2Proof.Machine.execFloorWrite n v s
  | .evlogSelect k => Sys2Proof.Machine.execEvlogSelect k s
  | .keyLoad ctl => Sys2Proof.Machine.execKeyLoad ctl s
  | .keyWrappedLoad ctl => Sys2Proof.Machine.execKeyWrappedLoad ctl s
  | .keyErase ctl => Sys2Proof.Machine.execKeyErase ctl s
  | .jobMac user => Sys2Proof.Machine.execJobMac user s
  | .jobVerify user => Sys2Proof.Machine.execJobVerify user s
  | .jobChain user => Sys2Proof.Machine.execJobChain user s
  | .jobKstream user => Sys2Proof.Machine.execJobKstream user s
  | .jobDerive user => Sys2Proof.Machine.execJobDerive user s
  | .cmacPreempt => Sys2Proof.Machine.execCmacPreempt s
  | .cmacJobEnd => Sys2Proof.Machine.execCmacJobEnd s
  | .cmacAbort blocks => Sys2Proof.Machine.execCmacAbort blocks s
  | .fcntWrite slot v => Sys2Proof.Machine.execFcntWrite slot v s
  | .dmaEnable ch => Sys2Proof.Machine.execDmaEnable ch s
  | .dmaDisable ch => Sys2Proof.Machine.execDmaDisable ch s
  | .dmaPause ch => Sys2Proof.Machine.execDmaPause ch s
  | .dmaResume ch => Sys2Proof.Machine.execDmaResume ch s
  | .dmaTrigger ch => Sys2Proof.Machine.execDmaTrigger ch s
  | .dmaUnit ch env => Sys2Proof.Machine.execDmaUnit ch env s
  | .dmaRingRecord => Sys2Proof.Machine.execDmaRingRecord s
  | .ringRdWrite v => Sys2Proof.Machine.execRingRdWrite v s
  | .portCalibration count => Sys2Proof.Machine.execPortCalibration count s
  | .uartRxByte u byte fe pe => Sys2Proof.Machine.execUartRxByte u byte fe pe s
  | .uartTxByte u => Sys2Proof.Machine.execUartTxByte u s
  | .uartDataWrite u byte => Sys2Proof.Machine.execUartDataWrite u byte s
  | .uartDataRead u => Sys2Proof.Machine.execUartDataRead u s
  | .svcClaim => Sys2Proof.Machine.execSvcClaim s
  | .svcClaimSend => Sys2Proof.Machine.execSvcClaimSend s
  | .svcClaimReceived id => Sys2Proof.Machine.execSvcClaimReceived id s
  | .svcConfirmReceived => Sys2Proof.Machine.execSvcConfirmReceived s
  | .svcCollision => Sys2Proof.Machine.execSvcCollision s
  | .svcBackoffEnd => Sys2Proof.Machine.execSvcBackoffEnd s
  | .spiFrame byte => Sys2Proof.Machine.execSpiFrame byte s
  | .i2cTransfer cmd => Sys2Proof.Machine.execI2cTransfer cmd s
  | .i2cTransferEnd outcome data => Sys2Proof.Machine.execI2cTransferEnd outcome data s
  | .i2cStuck => Sys2Proof.Machine.execI2cStuck s
  | .gpioContend pin => Sys2Proof.Machine.execGpioContend pin s
  | .fioReadback pin level => Sys2Proof.Machine.execFioReadback pin level s
  | .fioRetry pin level => Sys2Proof.Machine.execFioRetry pin level s
  | .fioThermal pin => Sys2Proof.Machine.execFioThermal pin s
  | .fioThermalEnd pin => Sys2Proof.Machine.execFioThermalEnd pin s
  | .fioSample pin level => Sys2Proof.Machine.execFioSample pin level s
  | .fioAdd pin n => Sys2Proof.Machine.execFioAdd pin n s
  | .fioPulseEnd pin => Sys2Proof.Machine.execFioPulseEnd pin s
  | .sheafReceived ops => Sys2Proof.Machine.execSheafReceived ops s
  | .updApply => Sys2Proof.Machine.execUpdApply s
  | .updApplyEnd ops => Sys2Proof.Machine.execUpdApplyEnd ops s
  | .updAbandon ops => Sys2Proof.Machine.execUpdAbandon ops s
  | .updConfirm ops => Sys2Proof.Machine.execUpdConfirm ops s
  | .updDecrypt => Sys2Proof.Machine.execUpdDecrypt s
  | .updActiveWrite bank ops => Sys2Proof.Machine.execUpdActiveWrite bank ops s
  | .utcDayBoundary => Sys2Proof.Machine.execUtcDayBoundary s
  | .testDutyExhausted onAir => Sys2Proof.Machine.execTestDutyExhausted onAir s
  | .fioGapEnd pin => Sys2Proof.Machine.execFioGapEnd pin s

end Sys2Proof.Machine
end

