-- ==== Sys2Proof/Machine/Ticks.lean ====
section
/-! DEFINITION. One tick of the slow clock (ch. 02, 05): what the block does by itself while no command waits (log entry
23). -/

namespace Sys2Proof.Machine

open Sys2Proof

/-- At a second boundary the RTC goes over to LFXO where that runs again (R119, R137). -/
def State.rtcTakesLfxo (s : State) : State :=
  if s.rtcMoves && s.flag (R.BRIDGE.CLKSTAT.LFXO_RUN .app) then { s with rtcMoves := false, rtcOnTosc := false } else s

/-- The RTC one tick of 1/32,768 s on (R119, R139, Table CAT-6). -/
def State.tickRtc (s : State) : State :=
  let n := s.rd R.AON.RTC_SUB.SUB + 1
  if n < 32768 then s.wr R.AON.RTC_SUB.SUB n
  else ((s.wr R.AON.RTC_SUB.SUB 0).wr R.AON.RTC_SEC.SEC (s.rd R.AON.RTC_SEC.SEC + 1)).rtcTakesLfxo

/-- A watchdog count one lower, down to zero, where its expiry is a command of its own. -/
def State.countDown (s : State) (f : Fld) : State := if s.flag f then s.wr f (s.rd f - 1) else s

/-- The watchdogs at every 4,096th tick (Table START-2): each pauses while its core waits or its domain is not On. -/
def State.tickWatchdogs (s : State) : State :=
  if s.rd R.AON.RTC_SUB.SUB % 4096 ≠ 0 then s
  else
    let s1 := if s.acoreExecuting && s.awdtPeriod != 0 then s.countDown R.AON.WDT.REMAIN else s
    if s1.mcoreExecuting then s1.countDown R.MPWR.WDT.REMAIN else s1

/-- A tick of the slow clock, with the refresh of the mirrors that follows it (R50, R725); the RTC goes on under NRESET
(R140). -/
def State.slowTick (s : State) : State := (if s.awake then s.tickRtc.tickWatchdogs else s.tickRtc).refreshMirror

/-- What the block does by itself: a tick of the slow clock, none in SHIP, under POR or without an edge (R65), and the ticks
of the link engine that fall in it. -/
def State.idleTick (s : State) : State :=
  if s.power.ship || s.resetHold == 1 || s.resetHold == 3 || s.power.clockLoss then s
  else (if s.farClock 0x02 then s.slowTick else s).refreshRf

end Sys2Proof.Machine
end

