-- ==== Sys2Proof/Machine/Interrupts.lean ====
section
/-! DEFINITION. The interrupt lines of the blocks towards the two cores: each is asserted while a flag and its enable are both
1.  A line is read off the state; what a core does at it is the core's own. -/

namespace Sys2Proof.Machine

open Sys2Proof

/-- The blocks with an interrupt line: FLASHC and MFLASHC, STRIP, FLOW, TOUCH, TAMPER and the event queue towards MCORE; LINK,
DMA, CMACE and the UARTs towards ACORE. -/
inductive IrqLine where
  | flash (sd : Side)
  | strip
  | flow
  | touch
  | tamper
  | eventQueue
  | link
  | dma
  | cmace
  | uart (u : Nat)
  deriving DecidableEq, Repr

/-- Whether any of some flags is set. -/
def State.anyFlag (s : State) (l : List Fld) : Bool := l.any (fun f => s.rd f != 0)

/-- The line of a UART (Table WIO-4): data received, room to send, all sent, an error. -/
def State.uartIrq (s : State) (u : Nat) : Bool :=
  let e (n : Nat) := s.rdBit (R.UART.IE.IE u) n
  (e 0 && !(s.uart u).rx.isEmpty) || (e 1 && decide ((s.uart u).tx.length < 16)) || (e 2 && s.flag (R.UART.STATUS.TXIDLE u)) ||
    (e 3 && s.anyFlag [R.UART.STATUS.OVR u, R.UART.STATUS.FE u, R.UART.STATUS.PE u])

/-- Whether a line is asserted. -/
def State.irq (s : State) : IrqLine → Bool
  | .flash sd => s.flashIrq sd
  | .strip => s.flag R.STRIP.CFG.IE && s.anyFlag [R.STRIP.STATUS.DONE, R.STRIP.STATUS.FAULT, R.STRIP.CONT.DONE]
  | .flow => s.flag R.FLOW.CFG.IE && s.anyFlag [R.FLOW.STATUS.DONE, R.FLOW.STATUS.FAULT]
  | .touch =>
      s.flag R.TOUCH.CFG.IE &&
        s.anyFlag [R.TOUCH.STATUS.PRESS, R.TOUCH.STATUS.RELEASE, R.TOUCH.STATUS.STUCK, R.TOUCH.STATUS.RECAL]
  | .tamper => s.flag R.TAMPER.CFG.IE && s.anyFlag [R.TAMPER.STATUS.TRIG0, R.TAMPER.STATUS.TRIG1]
  | .eventQueue => s.flag R.MSYSCTL.EVQ_CTL.IE && s.anyFlag [R.MSYSCTL.EVQ_STATUS.COUNT]
  | .link => s.linkIrqOn
  | .dma =>
      [R.DMA.IRQ.DONE, R.DMA.IRQ.ERR, R.DMA.IRQ.RING, R.DMA.IRQ.RING_LOST].any (fun f =>
        s.rd f &&& bitsOf (s.rd R.DMA.IRQ_EN.EN) f.lsb f.width != 0)
  | .cmace => s.flag R.CMACE.CTRL.IE && s.flag R.CMACE.STATUS.DONE
  | .uart u => s.uartIrq u

end Sys2Proof.Machine
end

