-- ==== Sys2Proof/Machine/Pins.lean ====
section
/-! DEFINITION. The pins (ch. 04, 12, 15, 29): which function each lead carries on a variant, and the level of each function
in the state the part is in.  A level is read off the state and changes nothing; what the world puts on an input comes with
the command that it causes. -/

namespace Sys2Proof.Machine

open Sys2Proof

/-- The functions that leads carry (Table PIN-2): supplies and decoupling, the pins of AON, of RF with PA_EN, PA_MODE, TRX and
LNA_EN by number, of MET, and of APP. -/
inductive PinFn where
  | supply
  | notConnected
  | nreset
  | wakePin
  | sealsw
  | lfxo
  | hfxo
  | rfio
  | tuner
  | buck
  | front (k : Nat)
  | excite
  | sense
  | ptDrive
  | drive (ch : Nat)
  | receive (ch : Nat)
  | tamp (n : Nat)
  | com (n : Nat)
  | seg (n : Nat)
  | touch (n : Nat)
  | gpio (n : Nat)
  | fio (n : Nat)
  | opticalTx
  | opticalRx
  deriving DecidableEq, Repr

/-- What a pin does (Table MODE-4): undriven with no pull, high impedance, ground, a digital level, an input with or without
its pull-up, sensed by the SHIP detector, not sensed; or at work under its block: an oscillator, the buck, an excitation, a
burst, a waveform, an electrode, a port's line. -/
inductive PinLevel where
  | none
  | float
  | highZ
  | ground
  | low
  | high
  | input
  | pulledUp
  | shipSensed
  | notSensed
  | works
  deriving DecidableEq, Repr

/-- The functions of leads 1 to 37, which every variant bonds alike but for VCM. -/
def commonLead (v : Variant) (n : Nat) : PinFn :=
  if n = 1 ∨ n = 2 then .lfxo
  else if n = 3 then .nreset
  else if n = 4 then .wakePin
  else if n = 7 then (if v = .c then .notConnected else .supply)
  else if n = 8 ∨ n = 9 then .hfxo
  else if n = 11 then .buck
  else if n = 13 then .rfio
  else if n = 14 ∨ n = 15 then .tuner
  else if 16 ≤ n ∧ n ≤ 19 then .front (n - 16)
  else if 20 ≤ n ∧ n ≤ 23 then .fio (n - 20)
  else if n = 24 then .opticalTx
  else if n = 25 then .opticalRx
  else if 26 ≤ n ∧ n ≤ 37 then .gpio (n - 26)
  else .supply

/-- The functions of leads 48 to 58 on a BST420A, and on a BST420H. -/
def stripLead (n : Nat) : PinFn := if n = 48 ∨ n = 58 then .excite else .sense
def flowLead (n : Nat) : PinFn :=
  if n ≤ 51 then .seg (n - 36)
  else if n = 52 then .supply
  else if n = 53 then .drive 1
  else if n = 54 then .receive 1
  else if n = 55 then .drive 2
  else if n = 56 then .receive 2
  else .sense

/-- The functions of leads 38 to 64 on a variant with the island. -/
def islandLead (v : Variant) (n : Nat) : PinFn :=
  if n = 38 then .sealsw
  else if n = 39 ∨ n = 40 then .tamp (n - 39)
  else if n ≤ 44 then .com (n - 41)
  else if n ≤ 47 then .supply
  else if n ≤ 58 then (if v = .h then flowLead n else stripLead n)
  else if n = 59 ∨ n = 64 then .ptDrive
  else .sense

/-- The function of a lead (Table PIN-2, R707, R711). -/
def leadFn (v : Variant) (n : Nat) : PinFn :=
  if n = 0 ∨ n > 64 then .notConnected
  else if n ≤ 37 then commonLead v n
  else if v = .c then .notConnected
  else islandLead v n

/-- A level by the state of a domain, and in SHIP. -/
def State.byDomain (s : State) (d : Dom) (on retained off ship : PinLevel) : PinLevel :=
  if s.power.ship then ship
  else
    match (s.dom d).st with
    | .on => on
    | .retained => retained
    | .off => off

/-- A digital level. -/
def levelOf (b : Bool) : PinLevel := if b then .high else .low

/-! ### RF (R405 to R408, Table RF-6) -/

/-- The logical level of PA_EN, PA_MODE, TRX and LNA_EN, before polarity. -/
def State.frontLevel (s : State) (k : Nat) : Bool :=
  let p := s.radio.pins
  if k = 0 then p.pa
  else if k = 1 then (if p.gain then s.radio.op.modeTx else s.radio.op.modeByp)
  else if k = 2 then p.tx
  else p.lna

/-- A pin of the front end: the PA sequencer's level under its polarity while RF is On. -/
def State.frontPin (s : State) (k : Nat) : PinLevel :=
  s.byDomain .rf (levelOf (s.frontLevel k != bit s.radio.op.pol k)) .float .float .float

/-! ### MET -/

/-- Whether a job of the MADC runs. -/
def State.madcRuns (s : State) (p : MetJob → Bool) : Bool := s.madcRun.any p

/-- A pin that the island drives while `busy`, and holds at ground while idle and Retained. -/
def State.islandDrive (s : State) (busy : Bool) : PinLevel :=
  s.byDomain .met (if busy then .works else .ground) .ground .float .float

/-- The driver of an ultrasonic channel (R326): it bursts while its channel sends; the receiving channel's is at ground. -/
def State.drivePin (s : State) (ch : Nat) : PinLevel := s.islandDrive (s.flow.sending == some ch)

/-- Whether the amplifier is connected to the receive pin of a channel (R326): the sending channel's is not. -/
def State.receives (s : State) (ch : Nat) : Bool :=
  match s.flow.sending with
  | none => false
  | some k => k != ch

/-- The receive pin of an ultrasonic channel. -/
def State.receivePin (s : State) (ch : Nat) : PinLevel :=
  s.byDomain .met (if s.flow.sending == some ch then .highZ else .input) .highZ .highZ .highZ

/-- A common or segment line (R355, R357): the waveform from the frame after VLCD is ready, else ground. -/
def State.lcdPin (s : State) : PinLevel :=
  let v : PinLevel := if s.seqr.pump = .running then .works else .ground
  s.byDomain .met v v .float .float

/-- A touch electrode. -/
def State.touchPin (s : State) (n : Nat) : PinLevel :=
  s.byDomain .met .works (if s.rdBit R.TOUCH.CFG.EN n then .works else .ground) .float .float

/-- A tamper input. -/
def State.tampPin (s : State) (n : Nat) : PinLevel :=
  s.byDomain .met .input (if s.tamperMode n = 0 then .notSensed else .input) .notSensed .notSensed

/-! ### APP -/

/-- Whether a port has taken the lead of GPIO `n` (Table PIN-2). -/
def State.portTakes (s : State) (n : Nat) : Bool :=
  (decide (n = 3 ∨ n = 4) && s.flag (R.UART.CFG.EN 0)) || (decide (5 ≤ n ∧ n ≤ 8) && s.flag R.SPI.CFG.EN) ||
    (decide (n = 9 ∨ n = 10) && s.flag R.I2C.CFG.EN)

/-- A GPIO as its registers configure it (R643). -/
def State.gpioConfigured (s : State) (n : Nat) : PinLevel :=
  if s.portTakes n then .works
  else if !s.rdBit R.GPIO.DIR.OUT n then .input
  else if s.rdBit R.GPIO.OD.OD n && s.rdBit R.GPIO.OUT.OUT n then .float
  else levelOf (s.rdBit R.GPIO.OUT.OUT n)

/-- A shared lead (R708, R709, R713): under its owner, on the application side sensed by AON on GPIO0 to GPIO3 while APP is
not On. -/
def State.sharedPin (s : State) (n : Nat) : PinLevel :=
  if s.power.ship then .float
  else if s.leadOwner n = 1 then s.lcdPin
  else if s.leadOwner n = 2 then s.touchPin n
  else
    let rest : PinLevel := if n ≤ 3 then .input else .float
    s.byDomain .app (s.gpioConfigured n) rest rest .float

/-- A field pin (R644): driven low by its mode, sensed as a pulse input, else released. -/
def State.fieldPin (s : State) (n : Nat) : PinLevel :=
  let rest : PinLevel := if s.fioMode n = 1 then .input else .float
  s.byDomain .app (if s.fioDriven n then .low else rest) rest rest .float

/-- The level of a function (Table MODE-4, R108, R713). -/
def State.pinLevel (s : State) : PinFn → PinLevel
  | .supply | .notConnected => .none
  | .nreset => if s.power.ship then .notSensed else .pulledUp
  | .wakePin => if s.power.ship then .shipSensed else .pulledUp
  | .sealsw => if s.power.ship then .notSensed else .pulledUp
  | .lfxo => if s.power.ship then .highZ else .works
  | .hfxo | .rfio | .tuner => s.byDomain .rf .works .highZ .highZ .highZ
  | .buck => s.byDomain .rf (if s.onAir then .works else .highZ) .highZ .highZ .highZ
  | .front k => s.frontPin k
  | .excite => s.islandDrive (s.madcRuns MetJob.isStrip)
  | .ptDrive => s.islandDrive (s.madcRuns MetJob.isPt)
  | .sense => s.byDomain .met .input .highZ .highZ .highZ
  | .drive ch => s.drivePin ch
  | .receive ch => s.receivePin ch
  | .tamp n => s.tampPin n
  | .com _ | .seg _ => s.lcdPin
  | .touch n => s.touchPin n
  | .gpio n => s.sharedPin n
  | .fio n => s.fieldPin n
  | .opticalTx => s.byDomain .app (if s.flag (R.UART.CFG.EN 1) then .works else .float) .float .float .float
  | .opticalRx => s.byDomain .app .input .input .input .shipSensed

/-- The level of a lead of the part. -/
def State.leadLevel (s : State) (n : Nat) : PinLevel := s.pinLevel (leadFn s.variant n)

end Sys2Proof.Machine
end

