-- ==== Sys2Proof/Safety.lean ====
section
/-! DEFINITION. The words the statements use: what it is for a command to complete, what a frame says, what a log records,
and which data form a state keeps. -/

namespace Sys2Proof.Machine

open Sys2Proof

/-! ### Outcomes -/

/-- A command answers a next state, and that state has a property. -/
def Completes (i : Instr) (s : State) (P : State → Prop) : Prop := ∃ t, exec i s = .next t ∧ P t

/-- Whatever next state a command answers has a property. -/
def Always (i : Instr) (s : State) (P : State → Prop) : Prop := ∀ t, exec i s = .next t → P t

/-! ### Frames -/

/-- Every register field but those listed reads as before. -/
def SameFields (fs : List Fld) (s t : State) : Prop := ∀ f : Fld, f.key ∉ fs.map Fld.key → t.rd f = s.rd f

/-- Every byte of memory reads as before. -/
def SameMemory (s t : State) : Prop := ∀ a, t.byte a = s.byte a

/-- Every byte of memory outside a range reads as before. -/
def SameMemoryOutside (lo n : Nat) (s t : State) : Prop := ∀ a, a < lo ∨ lo + n ≤ a → t.byte a = s.byte a

/-- Every byte of memory outside a range and outside the area of MSRAM that the MROM routines use (R279) reads as before. -/
def SameMemoryButRoutine (lo n : Nat) (s t : State) : Prop :=
  ∀ a, a < lo ∨ lo + n ≤ a → memRegion a ≠ some 7 → t.byte a = s.byte a

/-- Every byte of memory outside the buffers of the Loft reads as before. -/
def SameMemoryButLoft (s t : State) : Prop := ∀ a, (∀ n, memRegion a ≠ some (8 + n)) → t.byte a = s.byte a

/-- Every register field reads as before but for the windows listed and the fields listed. -/
def SameElsewhere (windows : List Nat) (fs : List Fld) (s t : State) : Prop :=
  ∀ f : Fld, windowBase (f.key / 2048) ∉ windows → f.key ∉ fs.map Fld.key → t.rd f = s.rd f

/-- A frame: the listed register fields aside every register reads as before, memory too, and with the components that `put`
takes from the first state put back the two states are one. -/
def Frame (fs : List Fld) (put : State → State → State) (s t : State) : Prop :=
  SameFields fs s t ∧ SameMemory s t ∧ put s t = s

/-- The registers put back. -/
def putRegs (s t : State) : State := { t with regs := s.regs }

/-- The registers and the logs put back. -/
def putLogs (s t : State) : State := { t with regs := s.regs, logs := s.logs }

/-- What a demand that changes may touch put back: registers, the mode controller, the copies of the voted mode, the bias
loops and the count of free values (R42, R124, R181). -/
def putMode (s t : State) : State :=
  { t with
    regs := s.regs, power := s.power, copies := s.copies, appRail := s.appRail, metRail := s.metRail, freeCtr := s.freeCtr }

/-- The same and the logs. -/
def putModeLogs (s t : State) : State := putMode s { t with logs := s.logs }

/-- The fields that an entry of the system event log writes (R563). -/
def logFields : List Fld := [R.SYSCTL.EVLOG_STAT.COUNT, R.SYSCTL.EVLOG_STAT.OVERWRITTEN, R.SYSCTL.EVLOG_HEAD.SEQ]

/-- The fields that an entry of either log writes (R378, R563, R728). -/
def bothLogFields : List Fld :=
  [R.MSYSCTL.EVQ_STATUS.COUNT, R.MSYSCTL.EVQ_STATUS.OVERWRITTEN, R.MSYSCTL.EVQ_STATUS.OVF] ++ logFields

/-- The fields of MODE_STATUS that follow the demands and domains (Table MODE-8). -/
def modeFields : List Fld :=
  [R.PWR.MODE_STATUS.EFFECTIVE, R.PWR.MODE_STATUS.BASE, R.PWR.MODE_STATUS.APP_ON, R.PWR.MODE_STATUS.MET_ON,
    R.PWR.MODE_STATUS.MET_RET, R.PWR.MODE_STATUS.RF_ON, R.PWR.MODE_STATUS.HELD]

/-! ### Logs -/

/-- The newest entry of the system event log has a code and data, with the sequence number that was next (R563). -/
def Logged (s t : State) (code : Nat) (data : List Nat) : Prop :=
  ∃ e ∈ t.logs.sys.getLast?, e.seq = s.logs.nextSeq ∧ e.utime = s.utime ∧ e.code = code ∧ e.data = data

/-! ### Data forms -/

/-- The register files and the memory are in their canonical forms. -/
def Canonical (s : State) : Prop :=
  [s.regs, s.shadow, s.mirror, s.metMirror, s.rfMirror, s.copies].all RegFile.wf = true ∧ Memory.wf s.mem = true

/-- Nothing waits in the fabric: no fire, no write or access held, no request raised and no unit of DMA (R61, R172, R177,
R204). -/
def State.fabricIdle (s : State) : Bool :=
  s.fabric.fires.isEmpty && s.fabric.writes.isEmpty && s.fabric.held.isEmpty && s.fabric.raised.isEmpty &&
    s.fabric.units.isEmpty

/-- DICT serves no request either, so that nothing follows a command by itself. -/
def State.quiet (s : State) : Bool := s.fabricIdle && s.dict.job.isNone

/-- Whether a requester of a side makes an access (R204) while nothing else goes on in the fabric: what follows is the access
alone. -/
def State.accepts (s : State) (sd : Side) (req : Nat) : Bool := s.sideOn sd && !s.outstanding sd (portOf sd req) && s.quiet

/-- What is fixed in the part at its making (R1): the variant, the unit ID and the root key. -/
def SameIdentity (s t : State) : Prop :=
  t.variant = s.variant ∧ t.otp.unitId = s.otp.unitId ∧ t.otp.rootKey = s.otp.rootKey

end Sys2Proof.Machine
end

