-- ==== Sys2Proof/Certificates/Slice0/Obligations.lean ====
section
/-! DEFINITION. The statements about the block, for the provers. -/

open Sys2Proof Sys2Proof.Machine

/-- A step takes the command at the front of the queue and answers what `exec` answers on the state with the rest of the queue; on an empty queue the slow clock ticks (the model's choice, log entry 23). -/
def Obligations.StepTakesTheFrontCommand : Prop :=
  ∀ s : State,
    (∀ (c : Instr) (q : List Instr), s.pending = c :: q → step s = exec c (s.withPending q)) ∧
  (s.pending = [] → step s = .next s.idleTick)

/-- The state after reset: every field reads the reset value of its table, the data forms are canonical, no command waits and nothing is logged. -/
def Obligations.ResetIsAsTheTablesGive : Prop :=
  (∀ f : Fld, State.reset.rd f = f.rst) ∧ Canonical State.reset ∧ State.reset.pending = [] ∧ State.reset.logs.sys = [] ∧
  State.reset.logs.met = [] ∧ State.reset.slots.all (fun x => x.owner == 0) = true

/-- Every step, whatever command it takes in whatever state, keeps the register files and the memory canonical. -/
def Obligations.EveryStepKeepsTheDataCanonical : Prop :=
  ∀ s t : State, Canonical s → step s = .next t → Canonical t

/-- Every command answers a next state in every state; it leaves the queue, the variant, the unit ID and the root key alone. -/
def Obligations.EveryCommandAnswersAndConsumesOnlyItself : Prop :=
  ∀ (i : Instr) (s : State), ∃ t, exec i s = .next t ∧ t.pending = s.pending ∧ SameIdentity s t

/-- The tick of the slow clock that an empty queue stands for (the model's choice, log entry 23): with an edge of the slow clock the RTC counts and the mirrors follow it, the watchdog counts may fall, and at a second boundary the RTC may go over to LFXO; with RF On its tick comes too and RF_M follows; nothing else changes.  Without an edge and with RF not On, in SHIP, under POR and in a clock loss nothing changes at all. -/
def Obligations.IdleTickAdvancesTheClock : Prop :=
  ∀ s : State,
    (s.power.ship = false → s.resetHold ≠ 1 → s.resetHold ≠ 3 → s.power.clockLoss = false → s.farClock 0x02 = true → s.rfReady = false →
      s.rd R.AON.RTC_SUB.SUB < 32768 → s.rd R.AON.RTC_SEC.SEC < 2 ^ 32 - 1 →
      s.idleTick.rd R.AON.RTC_SEC.SEC * 32768 + s.idleTick.rd R.AON.RTC_SUB.SUB =
          s.rd R.AON.RTC_SEC.SEC * 32768 + s.rd R.AON.RTC_SUB.SUB + 1 ∧
        s.idleTick.mirror = s.idleTick.regs ∧ s.idleTick.metMirror = s.idleTick.regs ∧
        (s.rtcMoves = false → s.idleTick.rtcOnTosc = s.rtcOnTosc) ∧
        Frame [R.AON.RTC_SEC.SEC, R.AON.RTC_SUB.SUB, R.AON.WDT.REMAIN, R.MPWR.WDT.REMAIN]
          (fun s t => { t with regs := s.regs, mirror := s.mirror, metMirror := s.metMirror, rtcOnTosc := s.rtcOnTosc, rtcMoves := s.rtcMoves }) s s.idleTick) ∧
    (s.power.ship = false → s.resetHold ≠ 1 → s.resetHold ≠ 3 → s.power.clockLoss = false → s.farClock 0x02 = false → s.rfReady = true → s.farClock 0x0B = true →
      s.idleTick.rfMirror = s.idleTick.regs ∧
        Frame [R.LINK.DUTY_USED.USED, R.LINK.DUTY_USED.LIMIT, R.RADIO.RSSI.NOW, R.RADIO.STATUS.STATE]
          (fun s t => { t with regs := s.regs, rfMirror := s.rfMirror, freeCtr := s.freeCtr, radio := s.radio, link := s.link }) s s.idleTick) ∧
  (∀ s : State, s.power.ship = true ∨ s.resetHold = 1 ∨ s.resetHold = 3 ∨ s.power.clockLoss = true ∨ (s.farClock 0x02 = false ∧ s.rfReady = false) → s.idleTick = s)

/-- A pace update moves VCORE_CODE by at most STEP + 1 codes, to FIXED_CODE in mode 1 where that is within one step and within limits, and shows the rate; at the ceiling CEIL_HIT is set once with its event; UNDER sets its flag, its release clears it, and a hold of 1 ms is logged; a bias evaluation moves the bias by at most one step and never above its ceiling; a retention flip lowers the bias by one step, or in the ramp leaves it a step below a level within the ceiling, sets RET_GUARD and RET_LIMIT, caps the bias for this sleep and is logged. -/
def Obligations.PaceAndBiasLoops : Prop :=
  (∀ (sd : Side) (rate goal : Nat) (s : State), s.power.clockLoss = false → s.rd (R.PWR.PACE_STATUS.VCORE_CODE sd) ≤ 90 → Completes (.paceUpdate sd rate goal) s fun t =>
      t.rd (R.PWR.PACE_STATUS.VCORE_CODE sd) ≤ s.rd (R.PWR.PACE_STATUS.VCORE_CODE sd) + (s.rd (R.PWR.PACE_LIMIT.STEP sd) + 1) ∧
      s.rd (R.PWR.PACE_STATUS.VCORE_CODE sd) ≤ t.rd (R.PWR.PACE_STATUS.VCORE_CODE sd) + (s.rd (R.PWR.PACE_LIMIT.STEP sd) + 1) ∧
      t.rd (R.PWR.PACE_STATUS.VCORE_CODE sd) ≤ 90 ∧ t.rd (R.PWR.PACE_STATUS.RATE sd) = min 127 rate ∧
      (s.rd (R.PWR.PACE_CTRL.MODE sd) = 1 → s.codeLo sd ≤ s.rd (R.PWR.PACE_CTRL.FIXED_CODE sd) →
        s.rd (R.PWR.PACE_CTRL.FIXED_CODE sd) ≤ s.codeHi sd →
        s.rd (R.PWR.PACE_CTRL.FIXED_CODE sd) ≤ s.rd (R.PWR.PACE_STATUS.VCORE_CODE sd) + (s.rd (R.PWR.PACE_LIMIT.STEP sd) + 1) →
        s.rd (R.PWR.PACE_STATUS.VCORE_CODE sd) ≤ s.rd (R.PWR.PACE_CTRL.FIXED_CODE sd) + (s.rd (R.PWR.PACE_LIMIT.STEP sd) + 1) →
        t.rd (R.PWR.PACE_STATUS.VCORE_CODE sd) = s.rd (R.PWR.PACE_CTRL.FIXED_CODE sd))) ∧
  (∀ (sd : Side) (s : State), s.flag (R.PWR.PACE_STATUS.AT_CEIL sd) = true → s.flag (R.PWR.PACE_STATUS.CEIL_HIT sd) = false → Completes (.paceCeiling sd) s fun t =>
      t.rd (R.PWR.PACE_STATUS.CEIL_HIT sd) = 1 ∧ Logged s t 0x0110 []) ∧
  (∀ (sd : Side) (s : State), s.railPowered sd = true → Completes (.under sd) s fun t =>
      t.rd (R.PWR.PACE_STATUS.UNDER sd) = 1) ∧
  (∀ (sd : Side) (s : State), s.flag (R.PWR.PACE_STATUS.UNDER sd) = true → Completes (.vcoreUnder sd) s fun t =>
      Logged s t 0x0112 []) ∧
  (∀ (sd : Side) (s : State), s.flag (R.PWR.PACE_STATUS.UNDER sd) = true → s.quiet = true → s.update.due = [] → Completes (.underRelease sd) s fun t =>
      t.rd (R.PWR.PACE_STATUS.UNDER sd) = 0) ∧
  (∀ (sd : Side) (asked : Nat) (s : State), s.retained sd = true → s.restMode = true → (s.rail sd).biasOn = true → s.rd (R.PWR.BIAS_CTRL.TRACK sd) ≠ 3 → Completes (.biasReevaluate sd asked) s fun t =>
      (t.rail sd).bias ≤ (s.rail sd).bias + 1 ∧ (s.rail sd).bias ≤ (t.rail sd).bias + 1 ∧
      ((s.rail sd).bias ≤ s.biasCeiling sd → (t.rail sd).bias ≤ s.biasCeiling sd) ∧
      (asked = (s.rail sd).bias → asked ≤ s.biasCeiling sd → t = s)) ∧
  (∀ (sd : Side) (s : State), s.biasRamps sd = false → s.retained sd = true → s.restMode = true → (s.rail sd).biasOn = true → Completes (.retentionFlip sd) s fun t =>
      (t.rail sd).bias = (s.rail sd).bias - 1 ∧ (t.rail sd).biasCap = some ((s.rail sd).bias - 1) ∧
      t.rd (R.PWR.BIAS_STATUS.RET_GUARD sd) = 1 ∧ t.rd (R.PWR.BIAS_STATUS.RET_LIMIT sd) = 1 ∧ Logged s t 0x0111 []) ∧
  (∀ (sd : Side) (s : State), s.biasRamps sd = true → Completes (.retentionFlip sd) s fun t =>
      (t.rail sd).bias ≤ s.biasCeiling sd - 1 ∧ (t.rail sd).biasCap = some (t.rail sd).bias ∧
      t.rd (R.PWR.BIAS_STATUS.RET_GUARD sd) = 1 ∧ t.rd (R.PWR.BIAS_STATUS.RET_LIMIT sd) = 1 ∧ Logged s t 0x0111 [])

/-- Each of PACE_UPDATE, PACE_CEILING, UNDER, VCORE_UNDER, BIAS_REEVALUATE and RETENTION_FLIP changes only the named fields of its own rail, its loop state, for RETENTION_FLIP the model's count of free values and, where it logs, the event log; every other register and all memory are unchanged. -/
def Obligations.PaceAndBiasFrames : Prop :=
  (∀ (sd : Side) (rate goal : Nat) (s : State), Always (.paceUpdate sd rate goal) s fun t =>
      Frame [R.PWR.PACE_STATUS.VCORE_CODE sd, R.PWR.PACE_STATUS.RATE sd, R.PWR.PACE_STATUS.LOCKED sd, R.PWR.PACE_STATUS.AT_CEIL sd,
        R.PWR.PACE_STATUS.AT_FLOOR sd] (fun s t => (({ t with regs := s.regs } : State).setRail sd (s.rail sd))) s t) ∧
  (∀ (sd : Side) (s : State), Always (.paceCeiling sd) s fun t =>
      Frame (R.PWR.PACE_STATUS.CEIL_HIT sd :: logFields) putLogs s t) ∧
  (∀ (sd : Side) (s : State), Always (.under sd) s fun t =>
      Frame [R.PWR.PACE_STATUS.UNDER sd] putRegs s t) ∧
  (∀ (sd : Side) (s : State), Always (.vcoreUnder sd) s fun t =>
      Frame logFields putLogs s t) ∧
  (∀ (sd : Side) (asked : Nat) (s : State), Always (.biasReevaluate sd asked) s fun t =>
      Frame [] (fun s t => t.setRail sd (s.rail sd)) s t) ∧
  (∀ (sd : Side) (s : State), Always (.retentionFlip sd) s fun t =>
      Frame ([R.PWR.BIAS_STATUS.RET_GUARD sd, R.PWR.BIAS_STATUS.RET_LIMIT sd] ++ logFields) (fun s t => ({ putLogs s t with freeCtr := s.freeCtr } : State).setRail sd (s.rail sd)) s t)

/-- A pulse event towards a powered domain waits until the far side latches it, and one that meets a waiting event is merged and counted as an overrun; towards an unpowered domain it is recorded as a timeout with DOMAIN_OFF at the first. A write of an AON register joins the end of AON_W, with the limit once it is in the FIFO; a read of RF_REG towards RF without power faults at once; an access that a bridge does not carry does nothing. A timeout takes the head out of its bridge, counts the bridge's run and completes with a bus fault of cause BRIDGE_TIMEOUT. An event that its far side has not taken within the limit is withdrawn and recorded. An edge of the far clock acknowledges the pulse. READ_SYNC joins the word bridge of its side. A lockup that has reached LOCKUP_N clears the side's runs. -/
def Obligations.BridgesCarryAndTimeOut : Prop :=
  (∀ (id : Nat) (s : State), isPulseBridge id = true → s.farPowered id = true → id ∉ s.bridges.pulses → Completes (.pulseBridgeEvent id) s fun t =>
      t.bridges.pulses = s.bridges.pulses ++ [id]) ∧
  (∀ (id : Nat) (s : State), isPulseBridge id = true → s.farPowered id = true → id ∈ s.bridges.pulses → s.rd (R.BRIDGE.COUNTS.OVR_COUNT (bridgeSide id)) < 255 → Completes (.pulseBridgeEvent id) s fun t =>
      t.bridges = s.bridges ∧ t.rd (R.BRIDGE.COUNTS.OVR_COUNT (bridgeSide id)) = s.rd (R.BRIDGE.COUNTS.OVR_COUNT (bridgeSide id)) + 1 ∧
      ∀ f ∈ ovrFlag id, t.flag f = true) ∧
  (∀ (id : Nat) (s : State), isPulseBridge id = true → s.farPowered id = false → s.flag (R.BRIDGE.STATUS.TIMEOUT (bridgeSide id)) = false → Completes (.pulseBridgeEvent id) s fun t =>
      t.bridges = s.bridges ∧ t.rd (R.BRIDGE.STATUS.TIMEOUT (bridgeSide id)) = 1 ∧ t.rd (R.BRIDGE.STATUS.DOMAIN_OFF (bridgeSide id)) = 1) ∧
  (∀ (req data : Nat) (f : Fld) (s : State), s.power.app.st = .on → s.power.ship = false → s.quiet = true → s.outstanding .app req = false → f ∈ [R.AON.WDT.FEED, R.AON.RST_REQ.KEY] → Completes (.bridgeAccess 0x01 req true 0 f.addr data) s fun t =>
      t.bridges.waiting = s.bridges.waiting ++
        [{ id := 0x01, req := req, write := true, addr := f.addr, data := data % 2 ^ 32, mode := 0, limit := if s.bridgeFill 0x01 < 2 then s.bridgeLimit 0x01 else 0, sync := false, taken := false }] ∧ t.regs = s.regs) ∧
  (∀ (req data : Nat) (s : State), s.power.app.st = .on → s.power.rf.st = .off → s.quiet = true → s.outstanding .app req = false → Completes (.bridgeAccess 0x08 req false 0 0x40009000 data) s fun t =>
      t.bridges.waiting = s.bridges.waiting ∧ t.last.cause = causeBridgeTimeout ∧ t.last.data = 0) ∧
  (∀ (id req : Nat) (write : Bool) (mode addr data : Nat) (s : State), (id ≠ 0x09 ∧ id ≠ 0x0E) → carries id (bridgeSide id) write (mode % 4) addr = false → Completes (.bridgeAccess id req write mode addr data) s fun t =>
      t = s) ∧
  (∀ (id : Nat) (a : BridgeAccess) (s : State), isWordBridge id = true → s.quiet = true → s.timeoutsRun = true → s.bridgeHead id = some a → s.bridgeFill id ≤ 2 → a.ofDma = false → ¬(bridgeSide id = .app ∧ a.req = 11) → Completes (.bridgeTimeout id) s fun t =>
      t.bridges.waiting = dropHead id s.bridges.waiting ∧ t.bridges.runs.count id = s.bridges.runs.count id + 1 ∧ t.last.cause = causeBridgeTimeout ∧ t.last.data = 0) ∧
  (∀ (id : Nat) (s : State), isPulseBridge id = true → s.timeoutsRun = true → id ∈ s.bridges.pulses → Completes (.bridgeTimeout id) s fun t =>
      id ∉ t.bridges.pulses ∧ t.bridges.waiting = s.bridges.waiting ∧ t.bridges.runs.count id = s.bridges.runs.count id + 1 ∧ t.flag (R.BRIDGE.STATUS.TIMEOUT (bridgeSide id)) = true) ∧
  (∀ (id : Nat) (env : WriteEnv) (s : State), isPulseBridge id = true → s.farPowered id = true → s.farClock id = true → s.awake = true → s.quiet = true → s.bridgeHead id = none → id ∈ s.bridges.pulses → Completes (.bridgeFarLatch id env) s fun t =>
      id ∉ t.bridges.pulses ∧ t.bridges.runs.count id = 0 ∧ { t with bridges := s.bridges } = s) ∧
  (∀ (sd : Side) (a : BridgeAccess) (env : WriteEnv) (s : State), s.awake = true → s.farClock (sd.pick 0x01 0x11) = true → s.quiet = true → s.bridgeHead (sd.pick 0x01 0x11) = some a → a.sync = true → a.taken = true → a.ofDma = false → ¬(sd = .app ∧ a.req = 11) → Completes (.bridgeFarLatch (sd.pick 0x01 0x11) env) s fun t =>
      sd.pick t.mirror t.metMirror = t.regs ∧ sd.pick t.metMirror t.mirror = sd.pick s.metMirror s.mirror) ∧
  (∀ (sd : Side) (s : State), s.sideOn sd = true → s.power.ship = false → s.quiet = true → s.outstanding sd 1 = false → Completes (.readSync sd) s fun t =>
      t.bridges.waiting.dropLast = s.bridges.waiting ∧
      ∃ a ∈ t.bridges.waiting.getLast?, a.id = sd.pick 0x01 0x11 ∧ a.sync = true ∧ a.taken = false) ∧
  (∀ (id onAir : Nat) (ops : List Nat) (s : State), isWordBridge id = true → s.awake = true → s.variant ≠ .c → s.rd (R.BRIDGE.LOCKUP.LOCKUP_N (bridgeSide id)) ≠ 0 → s.rd (R.BRIDGE.LOCKUP.LOCKUP_N (bridgeSide id)) ≤ s.bridges.runs.count id → Completes (.bridgeLockup id false onAir ops) s fun t =>
      t.flag ((bridgeSide id).pick R.AON.RST_CAUSE.LOCKUP R.MPWR.RST_CAUSE.LOCKUP) = true)

/-- The charger starts where it may and stops at V_TOP, each with the figures of RES_STATUS; a measurement updates them; a slow or collapsing reservoir sets its flag; a supply sample outside an energy check shows VBAT_COMP, leaves the level alone while every threshold is met, and enters L1 at the third sample below L1 alone; FREEZE_DONE and the freeze timeout remove MET's power and lock HIBERNATE. -/
def Obligations.SupplyMonitorAndReservoir : Prop :=
  (∀ (vres vbat : Nat) (s : State), s.awake = true → s.mayCharge vres vbat = true → Completes (.chargerRestart vres vbat) s fun t =>
      t.rd R.PWR.RES_STATUS.CHARGING = 1 ∧ t.rd R.PWR.RES_STATUS.VRES_MV = min 4095 vres ∧ t.supply.vbat = vbat) ∧
  (∀ (vres vbat : Nat) (s : State), s.awake = true → s.flag R.PWR.RES_STATUS.CHARGING = true → s.vTop vbat ≤ vres → Completes (.chargerStop vres vbat) s fun t =>
      t.rd R.PWR.RES_STATUS.CHARGING = 0 ∧ t.rd R.PWR.RES_STATUS.FULL = 1 ∧ t.rd R.PWR.RES_STATUS.VRES_MV = min 4095 vres) ∧
  (∀ (vres vbat : Nat) (temp : Int) (s : State), s.awake = true → s.awaitsEnergy = false → Completes (.vresMeasurement vres vbat temp) s fun t =>
      t.rd R.PWR.RES_STATUS.VRES_MV = min 4095 vres ∧ t.flag R.PWR.RES_STATUS.FULL = decide (s.vTop vbat ≤ vres) ∧
      t.flag R.PWR.RES_STATUS.HEADROOM = s.headroom vbat) ∧
  (∀ (a : Attempt) (s : State), s.link.att = some a → a.phase = .energy → Completes (.resSlow) s fun t =>
      t.rd R.PWR.RES_STATUS.SLOW = 1) ∧
  (∀ (tAir : Nat) (a : Attempt) (s : State), s.link.att = some a → a.phase = .tx ∨ a.phase = .tune → Completes (.resCollapse tAir) s fun t =>
      t.rd R.PWR.RES_STATUS.COLLAPSE = 1) ∧
  (∀ (vmeas onAir : Nat) (s : State), s.samples = true → s.flag R.MPWR.ECHK.BUSY = false → s.copies = [] → s.level = 0 → (∀ n ∈ List.range 7, s.threshold (n + 1) ≤ s.vComp vmeas) → Completes (.supplyMonitorSample vmeas [] onAir) s fun t =>
      t.rd R.PWR.LADDER.VBAT_COMP = min 4095 (s.vComp vmeas) ∧ t.level = 0 ∧ t.supply.below = [0, 0, 0, 0, 0, 0, 0] ∧ t.logs = s.logs) ∧
  (∀ (vmeas onAir : Nat) (s : State), s.samples = true → s.flag R.MPWR.ECHK.BUSY = false → s.copies = [] → s.level = 0 → s.supply.below = [2, 0, 0, 0, 0, 0, 0] → s.vComp vmeas < s.threshold 1 → Completes (.supplyMonitorSample vmeas [] onAir) s fun t =>
      t.rd R.PWR.LADDER.VBAT_COMP = min 4095 (s.vComp vmeas) ∧ t.level = 1) ∧
  (∀ (s : State), s.metRuns = true → s.power.freezeWait = true → Completes (.freezeDone) s fun t =>
      t.power.met.st = .off ∧ t.power.frozen = true ∧ t.power.freezeWait = false) ∧
  (∀ (s : State), s.metRuns = true → s.power.freezeWait = false → Completes (.freezeDone) s fun t =>
      t = s.wr R.MPWR.MCTL.FREEZE_DONE 1) ∧
  (∀ (s : State), s.power.freezeWait = true → Completes (.freezeTimeout) s fun t =>
      t.power.met.st = .off ∧ t.power.frozen = true ∧ t.power.freezeWait = false)

/-- CHARGER_RESTART and CHARGER_STOP change only the live figures of RES_STATUS and the measured VBAT; every other register and all memory are unchanged. -/
def Obligations.SupplyFrames : Prop :=
  (∀ (vres vbat : Nat) (s : State), Always (.chargerRestart vres vbat) s fun t =>
      Frame [R.PWR.RES_STATUS.VRES_MV, R.PWR.RES_STATUS.CHARGING, R.PWR.RES_STATUS.FULL, R.PWR.RES_STATUS.HEADROOM]
        (fun s t => { t with regs := s.regs, supply := s.supply }) s t) ∧
  (∀ (vres vbat : Nat) (s : State), Always (.chargerStop vres vbat) s fun t =>
      Frame [R.PWR.RES_STATUS.VRES_MV, R.PWR.RES_STATUS.CHARGING, R.PWR.RES_STATUS.FULL, R.PWR.RES_STATUS.HEADROOM]
        (fun s t => { t with regs := s.regs, supply := s.supply }) s t)

/-- Loss of both oscillators holds the part in reset as POR does, with every register at its reset value, until it is released with the CLKLOSS marks; LFXO's first run arms its loss detection, and the RTC is to move to it at the next second boundary where it counts on TOSC; 64 TOSC ticks without an edge clear LFXO_RUN; its absence or its detected loss sets LFXO_LOST, and the RTC goes on on TOSC; its return sets LFXO_RUN and leaves LFXO_LOST; the failure of TOSC makes bridge limits count LFXO periods, sets TOSC_FAIL, clears TOSC_OK, is logged, and takes a supply sample at once where LFXO runs and no energy check is in progress. -/
def Obligations.OscillatorEvents : Prop :=
  (∀ (s : State), s.power.ship = false → s.resetHold = 0 → Completes (.clockLoss) s fun t =>
      t.resetHold = 1 ∧ t.power.clockLoss = true ∧ (∀ f : Fld, t.rd f = f.rst)) ∧
  (∀ (vmeas : List Nat) (passes : List PassRead) (s : State), s.power.clockLoss = true → s.resetHold = 1 → Completes (.clockLossRelease vmeas { passes := passes, early := [] }) s fun t =>
      t.resetHold = 0 ∧ t.rd R.AON.RST_CAUSE.CLKLOSS = 1 ∧ t.rd R.MPWR.RST_CAUSE.CLKLOSS = 1 ∧ t.mirror = t.regs ∧ t.metMirror = t.regs) ∧
  (∀ (s : State), s.awake = true → s.lfxoArmed = false → Completes (.lfxoFirstRun) s fun t =>
      t.lfxoArmed = true ∧ t.rtcMoves = s.rtcOnTosc ∧ t.rtcOnTosc = s.rtcOnTosc ∧ t.rd (R.BRIDGE.CLKSTAT.LFXO_RUN .app) = 1) ∧
  (∀ (s : State), s.awake = true → s.lfxoArmed = false → Completes (.lfxoStartTimeout) s fun t =>
      t.rd R.PWR.MODE_STATUS.LFXO_LOST = 1) ∧
  (∀ (ticks : Nat) (s : State), s.awake = true → s.lfxoArmed = true → s.flag (R.BRIDGE.CLKSTAT.LFXO_RUN .app) = true → s.bridges.fallback = false → Completes (.lfxoLost (some ticks)) s fun t =>
      t.rtcOnTosc = true ∧ t.rd (R.BRIDGE.CLKSTAT.LFXO_RUN .app) = 0 ∧ t.rd R.PWR.MODE_STATUS.LFXO_LOST = 1) ∧
  (∀ (s : State), s.awake = true → s.lfxoArmed = true → s.flag (R.BRIDGE.CLKSTAT.LFXO_RUN .app) = true → s.bridges.fallback = false → Completes (.lfxoLost none) s fun t =>
      t = s.clear (R.BRIDGE.CLKSTAT.LFXO_RUN .app)) ∧
  (∀ (s : State), s.awake = true → s.lfxoArmed = true → Completes (.lfxoResume) s fun t =>
      t.rtcOnTosc = s.rtcOnTosc ∧ t.rtcMoves = s.rtcOnTosc ∧ t.rd (R.BRIDGE.CLKSTAT.LFXO_RUN .app) = 1 ∧ t.rd R.PWR.MODE_STATUS.LFXO_LOST = s.rd R.PWR.MODE_STATUS.LFXO_LOST) ∧
  (∀ (s : State), s.awake = true → s.bridges.fallback = false → s.flag (R.BRIDGE.CLKSTAT.LFXO_RUN .app) = false ∨ s.power.shipping = true → Completes (.toscFail) s fun t =>
      t.bridges.fallback = true ∧ t.bridges.waiting = s.bridges.waiting.map (fun a => { a with limit := (a.limit + 29) / 30 }) ∧
      t.rd (R.BRIDGE.CLKSTAT.TOSC_FAIL .app) = 1 ∧ t.rd (R.BRIDGE.CLKSTAT.TOSC_OK .app) = 0 ∧ Logged s t 0x0A13 []) ∧
  (∀ (s : State), s.awake = true → s.power.shipping = false → s.bridges.fallback = false → s.flag (R.BRIDGE.CLKSTAT.LFXO_RUN .app) = true → s.copies = [] → s.level = 0 → s.supply.below = List.replicate 7 0 → s.flag R.MPWR.ECHK.BUSY = false → Completes (.toscFail) s fun t =>
      t.bridges.fallback = true ∧ t.rd (R.BRIDGE.CLKSTAT.TOSC_FAIL .app) = 1 ∧ t.rd (R.BRIDGE.CLKSTAT.TOSC_OK .app) = 0 ∧ (∃ v, t.rd R.PWR.LADDER.VBAT_COMP = min 4095 (s.vComp v)) ∧ t.level = 0 ∧ Logged s t 0x0A13 [])

/-- LFXO_FIRST_RUN and LFXO_RESUME change only LFXO_RUN and whether the RTC is to move to LFXO; TOSC_FAIL, where no LFXO lets the supply monitor sample, only the two TOSC flags, the bridges' limits and the event log. -/
def Obligations.OscillatorFrames : Prop :=
  (∀ (s : State), Always (.lfxoFirstRun) s fun t =>
      Frame [R.BRIDGE.CLKSTAT.LFXO_RUN .app] (fun s t => { t with regs := s.regs, lfxoArmed := s.lfxoArmed, rtcMoves := s.rtcMoves }) s t) ∧
  (∀ (s : State), Always (.lfxoResume) s fun t =>
      Frame [R.BRIDGE.CLKSTAT.LFXO_RUN .app] (fun s t => { t with regs := s.regs, lfxoArmed := s.lfxoArmed, rtcMoves := s.rtcMoves }) s t) ∧
  (∀ (s : State), s.flag (R.BRIDGE.CLKSTAT.LFXO_RUN .app) = false → Always (.toscFail) s fun t =>
      Frame ([R.BRIDGE.CLKSTAT.TOSC_FAIL .app, R.BRIDGE.CLKSTAT.TOSC_OK .app] ++ logFields) (fun s t => { putLogs s t with bridges := s.bridges }) s t)

/-- POR holds the part in reset with every register at its reset value, and one that comes while NRESET is low leaves the NRESET cause recorded; its release and that of NRESET end the hold with the mirrors fresh; NRESET sets its record bit and removes every domain's power; leaving SHIP runs the POR sequence and sets FROM_SHIP; each watchdog whose count has reached zero and the software reset set their record bit; a feed with its key reloads the count; only the first period write after a MET reset takes effect: the value is stored as it is written, and the count takes it as it acts, from 2 to 64. -/
def Obligations.ResetsAndWatchdogs : Prop :=
  (∀ (s : State), s.resetHold < 2 → Completes (.porAssert) s fun t =>
      t.resetHold = 1 ∧ t.power = unpowered ∧ (∀ f : Fld, t.rd f = f.rst) ∧ t.pending = s.pending) ∧
  (∀ (s : State), s.resetHold = 2 → Completes (.porAssert) s fun t =>
      t.resetHold = 3 ∧ t.power = unpowered ∧ t.rd R.AON.RST_CAUSE.NRESET = 1 ∧ t.rd R.MPWR.RST_CAUSE.NRESET = 1) ∧
  (∀ (vmeas : List Nat) (passes : List PassRead) (s : State), s.resetHold = 1 → s.power.clockLoss = false → Completes (.porRelease vmeas { passes := passes, early := [] }) s fun t =>
      t.resetHold = 0 ∧ t.mirror = t.regs ∧ t.metMirror = t.regs) ∧
  (∀ (onAir : Nat) (s : State), s.power.ship = false → s.resetHold = 0 → Completes (.nresetAssert onAir) s fun t =>
      t.resetHold = 2 ∧ t.power = unpowered ∧ t.rd R.AON.RST_CAUSE.NRESET = 1 ∧ t.rd R.MPWR.RST_CAUSE.NRESET = 1) ∧
  (∀ (vmeas : List Nat) (passes : List PassRead) (s : State), s.resetHold = 2 → Completes (.nresetRelease vmeas { passes := passes, early := [] }) s fun t =>
      t.resetHold = 0 ∧ t.mirror = t.regs ∧ t.metMirror = t.regs) ∧
  (∀ (vmeas : List Nat) (passes : List PassRead) (s : State), s.power.ship = true → Completes (.shipWake vmeas { passes := passes, early := [] }) s fun t =>
      t.power.ship = false ∧ t.rd R.PWR.MODE_STATUS.FROM_SHIP = 1 ∧ t.mirror = t.regs ∧ t.metMirror = t.regs) ∧
  (∀ (onAir : Nat) (s : State), s.acoreExecuting = true → s.awdtPeriod ≠ 0 → s.rd R.AON.WDT.REMAIN = 0 → s.awake = true → Completes (.acoreWatchdog onAir) s fun t =>
      t.flag R.AON.RST_CAUSE.AWDT = true) ∧
  (∀ (ops : List Nat) (s : State), s.mcoreExecuting = true → s.rd R.MPWR.WDT.REMAIN = 0 → s.variant ≠ .c → s.awake = true → Completes (.mcoreWatchdog ops) s fun t =>
      t.flag R.MPWR.RST_CAUSE.MWDT = true) ∧
  (∀ (key onAir : Nat) (s : State), key % 256 = 0xA5 → s.power.app.st = .on → Completes (.softwareReset key onAir) s fun t =>
      t.flag R.AON.RST_CAUSE.SOFT = true) ∧
  (∀ (key : Nat) (s : State), key % 256 = 0x3C → s.power.app.st = .on → Completes (.watchdogFeed .app key) s fun t =>
      t = s.wr R.AON.WDT.REMAIN s.awdtPeriod) ∧
  (∀ (key : Nat) (s : State), key % 256 = 0x3C → s.metRuns = true → Completes (.watchdogFeed .met key) s fun t =>
      t.rd R.MPWR.WDT.REMAIN = max 2 (min 64 (s.rd R.MPWR.WDT.PERIOD))) ∧
  (∀ (sd : Side) (key : Nat) (s : State), key % 256 ≠ 0x3C → Completes (.watchdogFeed sd key) s fun t =>
      t = s) ∧
  (∀ (period : Nat) (s : State), s.metRuns = true → s.mrom.wdtSet = false → Completes (.wdtPeriodWrite period) s fun t =>
      t.mrom.wdtSet = true ∧ t.rd R.MPWR.WDT.PERIOD = period % 256 ∧ t.rd R.MPWR.WDT.REMAIN = max 2 (min 64 (period % 256))) ∧
  (∀ (period : Nat) (s : State), s.metRuns = true → s.mrom.wdtSet = true → Completes (.wdtPeriodWrite period) s fun t =>
      t = s)

/-- WATCHDOG_FEED changes only the count of its side's watchdog; WDT_PERIOD_WRITE only the MCORE watchdog's period, its count and the mark that the period has been written. -/
def Obligations.OnlyTheFirstPeriodWriteTakesEffect : Prop :=
  (∀ (sd : Side) (key : Nat) (s : State), Always (.watchdogFeed sd key) s fun t =>
      Frame [sd.pick R.AON.WDT.REMAIN R.MPWR.WDT.REMAIN] putRegs s t) ∧
  (∀ (period : Nat) (s : State), Always (.wdtPeriodWrite period) s fun t =>
      Frame [R.MPWR.WDT.PERIOD, R.MPWR.WDT.REMAIN] (fun s t => { t with regs := s.regs, mrom := s.mrom }) s t)

/-- WFI with APP_OFF ends ACORE's demand and RF_HOLD; an entry whose domain is idle leaves On for the state demanded, one that is not is held; an accepted SHIP request with nothing busy begins the entry to SHIP, which ends in SHIP, or, where a wake was latched in it, in the exit from SHIP; an entry completes with nothing latched; an exit ends On; a wake lists its cause and raises its demand; SHIP is accepted with its key and conditions and refused without its key; the demand bits take the value written; SERVICE is refused at L5 and ended with its reason; WAKE_CLR empties the list. -/
def Obligations.ModeControllerEntriesAndExits : Prop :=
  (∀ (onAir : Nat) (s : State), s.acoreExecuting = true → s.flag R.PWR.REST.APP_OFF = true → Completes (.acoreWfi onAir) s fun t =>
      t.power.acoreRuns = false ∧ t.power.acoreWfi = true ∧ t.rd R.PWR.DOMAIN_REQ.RF_HOLD = 0) ∧
  (∀ (onAir : Nat) (s : State), s.acoreExecuting = true → s.flag R.PWR.REST.APP_OFF = false → Completes (.acoreWfi onAir) s fun t =>
      t.power.acoreRuns = s.power.acoreRuns ∧ t.power.acoreWfi = true) ∧
  (∀ (d : Dom) (s : State), s.resetHold = 0 → s.power.ship = false → s.power.shipAccepted = false → s.power.shipping = false → (s.dom d).entering = none → (s.dom d).exiting = false → (s.dom d).st = .on → s.demanded d ≠ .on → s.blocksBusy d = false → Completes (.domainEntry d true) s fun t =>
      (t.dom d).st = s.demanded d ∧ (t.dom d).entering = some (s.demanded d) ∧ (t.dom d).latched = []) ∧
  (∀ (d : Dom) (s : State), s.resetHold = 0 → s.power.ship = false → s.power.shipAccepted = false → s.power.shipping = false → (s.dom d).entering = none → (s.dom d).exiting = false → (s.dom d).st = .on → s.demanded d ≠ .on → Completes (.domainEntry d false) s fun t =>
      (t.dom d).st = .on ∧ t.flag R.PWR.MODE_STATUS.HELD = true) ∧
  (∀ (idle : Bool) (s : State), s.resetHold = 0 → s.power.ship = false → s.power.shipAccepted = true → s.shipWithdrawn = false → s.shipReady idle = true → Completes (.domainEntry .app idle) s fun t =>
      t.power.shipping = true ∧ t.power.shipAccepted = false ∧ t.power.app.entering = some .off ∧ t.power.app.latched = []) ∧
  (∀ (d : Dom) (s : State), (s.dom d).held = true → (s.dom d).heldLogged = false → Completes (.entryHeld d) s fun t =>
      (t.dom d).heldLogged = true ∧ Logged s t 0x0123 []) ∧
  (∀ (d : Dom) (asked : Nat) (x : DomState) (s : State), (s.dom d).entering = some x → s.power.shipping = false → Completes (.entryComplete d asked) s fun t =>
      (t.dom d).entering = none ∧ (t.dom d).latched = [] ∧ (t.dom d).st = (s.dom d).st) ∧
  (∀ (sd : Side) (c : Nat) (s : State), s.resetHold = 0 → s.power.frozen = false → s.power.ship = false → s.power.shipping = false → s.boot.sleeping = false → c < 16 → s.wakeEnabled sd c = true → s.causeArises c = true → c ∉ s.wakeList sd → s.rd (R.PWR.WAKE_CAUSE.COUNT sd) < 4 → Completes (.wakeEvent sd [c]) s fun t =>
      t.rd (R.PWR.WAKE_CAUSE.COUNT sd) = s.rd (R.PWR.WAKE_CAUSE.COUNT sd) + 1 ∧
      t.rd (wakeSlot sd (s.rd (R.PWR.WAKE_CAUSE.COUNT sd))) = c ∧
      (sd = .app → s.power.acoreHeld = false → t.power.acoreRuns = true) ∧ (sd = .met → t.rd R.MPWR.MCTL.RUN = 1)) ∧
  (∀ (d : Dom) (ops : List Nat) (s : State), (s.dom d).exiting = true → s.resetHold = 0 → (d = .met → s.variant ≠ .c) → s.power.ship = false → Completes (.exitComplete d ops) s fun t =>
      (t.dom d).st = .on ∧ (t.dom d).exiting = false) ∧
  (∀ (s : State), s.flag R.PWR.MODE_REQ.SHIP = true → s.rd R.PWR.MODE_REQ.KEY = 0xC7 → s.flag R.MPWR.MCTL.SHIP_OK = true ∨ s.variant = .c → s.flag R.PWR.LADDER.LOCK7 = false → s.inService = false → Completes (.shipRequest) s fun t =>
      t = { s with power := { s.power with shipAccepted := true } }) ∧
  (∀ (s : State), s.flag R.PWR.MODE_REQ.SHIP = true → s.rd R.PWR.MODE_REQ.KEY ≠ 0xC7 → Completes (.shipRequest) s fun t =>
      t.rd R.PWR.MODE_REQ.SHIP = 0 ∧ t.rd R.PWR.MODE_STATUS.REFUSED = 1 ∧ t.power.shipAccepted = false ∧ Logged s t 0x0120 []) ∧
  (∀ (v : Bool) (s : State), s.variant ≠ .c → Completes (.mctlRun v) s fun t =>
      t.rd R.MPWR.MCTL.RUN = b2n v) ∧
  (∀ (v : Bool) (s : State), s.variant ≠ .c → Completes (.mctlKeep v) s fun t =>
      t.rd R.MPWR.MCTL.KEEP = b2n v ∧ t.rd R.PWR.MODE_STATUS.BASE = 1 + b2n v) ∧
  (∀ (v : Bool) (s : State), s.variant ≠ .c → v = false ∨ s.level < 5 → Completes (.serviceGrant v) s fun t =>
      t.rd R.MPWR.MCTL.SERVICE = b2n v) ∧
  (∀ (s : State), s.variant ≠ .c → 5 ≤ s.level → Completes (.serviceGrant true) s fun t =>
      t.rd R.MPWR.MCTL.SERVICE = 0 ∧ Logged s t 0x0124 [2]) ∧
  (∀ (s : State), s.inService = true → Completes (.serviceEnd) s fun t =>
      t.rd R.MPWR.MCTL.SERVICE = 0 ∧ Logged s t 0x0124 [1]) ∧
  (∀ (v : Bool) (onAir : Nat) (s : State), Completes (.rfHold v onAir) s fun t =>
      t.rd R.PWR.DOMAIN_REQ.RF_HOLD = b2n v) ∧
  (∀ (sd : Side) (s : State), Completes (.wakeClr sd) s fun t =>
      ∀ f : Fld, f.addr = (R.PWR.WAKE_CAUSE.COUNT sd).addr → f.lsb < 32 → f.width < 64 → t.rd f = f.rst) ∧
  (∀ (asked : Nat) (x : DomState) (s : State), s.power.shipping = true → s.power.app.entering = some x → s.power.app.latched = [] → Completes (.entryComplete .app asked) s fun t =>
      t.power.ship = true ∧ t.rd R.PWR.MODE_STATUS.EFFECTIVE = 0) ∧
  (∀ (asked : Nat) (x : DomState) (s : State), s.power.shipping = true → s.power.app.entering = some x → s.power.app.latched ≠ [] → Completes (.entryComplete .app asked) s fun t =>
      t.power.ship = false ∧ t.resetHold = 1 ∧ t.power.shipExit = true)

/-- MCTL_RUN, MCTL_KEEP and SHIP_REQUEST change only their own bits, MODE_STATUS, the mode controller's state with the bias loops and the voters' copies it sets, and, for a refusal, the event log; ENTRY_HELD only that state and the log; SERVICE_END SERVICE, MODE_STATUS and the logs; WAKE_CLR only the register WAKE_CAUSE of its side. -/
def Obligations.ModeControllerFrames : Prop :=
  (∀ (v : Bool) (s : State), Always (.mctlRun v) s fun t =>
      Frame (R.MPWR.MCTL.RUN :: modeFields) putMode s t) ∧
  (∀ (v : Bool) (s : State), Always (.mctlKeep v) s fun t =>
      Frame (R.MPWR.MCTL.KEEP :: modeFields) putMode s t) ∧
  (∀ (s : State), Always (.shipRequest) s fun t =>
      Frame ([R.PWR.MODE_REQ.SHIP, R.PWR.MODE_STATUS.REFUSED] ++ logFields) (fun s t => { putLogs s t with power := s.power, copies := s.copies, appRail := s.appRail, metRail := s.metRail, freeCtr := s.freeCtr }) s t) ∧
  (∀ (d : Dom) (s : State), Always (.entryHeld d) s fun t =>
      Frame logFields (fun s t => { putLogs s t with power := s.power, copies := s.copies, appRail := s.appRail, metRail := s.metRail, freeCtr := s.freeCtr }) s t) ∧
  (∀ (s : State), Always (.serviceEnd) s fun t =>
      Frame (R.MPWR.MCTL.SERVICE :: modeFields ++ bothLogFields) putModeLogs s t) ∧
  (∀ (sd : Side) (s : State), Always (.wakeClr sd) s fun t =>
      (∀ f : Fld, f.lsb < 32 → f.width < 64 → f.addr ≠ (R.PWR.WAKE_CAUSE.COUNT sd).addr → t.rd f = s.rd f) ∧ SameMemory s t ∧
      { t with regs := s.regs, shadow := s.shadow } = s)

/-- On a side whose domain is On and with nothing held: a 32-bit write to a GPIO register gives its RW field the data bits, clears the W1C bits that are written as 1, and leaves an RO field; the set, clear and toggle aliases of GPIO.OUT or, and-not or exclusive-or the data bits into it; a write to a buffered field changes only its shadow and sets PENDING; a write that is not 32-bit aligned by a requester that is no core ends in a bus fault of cause DECODE. -/
def Obligations.RegisterWritesByAccessClass : Prop :=
  (∀ (req data : Nat) (env : List Nat) (f : Fld) (s : State), s.accepts .app req = true → f ∈ [R.GPIO.DIR.OUT, R.GPIO.OD.OD, R.GPIO.OUT.OUT] → Completes (.registerWrite .app req f.addr data { world := env, contest := Contest.none }) s fun t =>
      t.rd f = data % 2 ^ 12 ∧ t.last = { data := 0, cause := 0, mcause := 0, mtval := 0 } ∧ SameFields [f] s t) ∧
  (∀ (req data : Nat) (env : List Nat) (s : State), s.accepts .app req = true → Completes (.registerWrite .app req 0x40011010 data { world := env, contest := Contest.none }) s fun t =>
      t.rd R.GPIO.CONTEND.CONTEND = clearBits (s.rd R.GPIO.CONTEND.CONTEND) (data % 2 ^ 12) % 2 ^ 12 ∧ SameFields [R.GPIO.CONTEND.CONTEND] s t) ∧
  (∀ (req data : Nat) (env : List Nat) (s : State), s.accepts .app req = true → s.rd R.GPIO.OUT.OUT < 2 ^ 12 → Completes (.aliasSet .app req 0x40011008 data { world := env, contest := Contest.none }) s fun t =>
      t.rd R.GPIO.OUT.OUT = s.rd R.GPIO.OUT.OUT ||| data % 2 ^ 12 ∧ SameFields [R.GPIO.OUT.OUT] s t) ∧
  (∀ (req data : Nat) (env : List Nat) (s : State), s.accepts .app req = true → s.rd R.GPIO.OUT.OUT < 2 ^ 12 → Completes (.aliasClear .app req 0x40011008 data { world := env, contest := Contest.none }) s fun t =>
      t.rd R.GPIO.OUT.OUT = clearBits (s.rd R.GPIO.OUT.OUT) (data % 2 ^ 12) ∧ SameFields [R.GPIO.OUT.OUT] s t) ∧
  (∀ (req data : Nat) (env : List Nat) (s : State), s.accepts .app req = true → s.rd R.GPIO.OUT.OUT < 2 ^ 12 → Completes (.aliasToggle .app req 0x40011008 data { world := env, contest := Contest.none }) s fun t =>
      t.rd R.GPIO.OUT.OUT = s.rd R.GPIO.OUT.OUT ^^^ data % 2 ^ 12 ∧ SameFields [R.GPIO.OUT.OUT] s t) ∧
  (∀ (req data a : Nat) (env : List Nat) (s : State), s.accepts .app req = true → a ∈ [0x40001008, 0x40001048, 0x40001064, 0x4001200C, 0x4000300C] → s.locked (windowBase a) = false → Completes (.registerWrite .app req a data { world := env, contest := Contest.none }) s fun t =>
      (∀ f ∈ regFields a, t.shadowRd f = bitsOf data f.lsb f.width ∧ t.rd f = s.rd f) ∧ t.flag (R.CFG_COMMIT.PENDING (windowBase a)) = true) ∧
  (∀ (req a data : Nat) (env : List Nat) (s : State), s.accepts .app req = true → 2 ≤ req → 10 ≤ req → 0x40011000 ≤ a → a < 0x40012000 → a % 4 ≠ 0 → Completes (.registerWrite .app req a data { world := env, contest := Contest.none }) s fun t =>
      t.last.cause = causeDecode)

/-- A commit of FLASHC or BRIDGE gives each buffered field its shadow value, clears PENDING and leaves no shadow behind; a discard of a clockless window leaves the live fields, drops the shadow and clears PENDING; a fire of group 0 that names BRIDGE alone commits it, sets DONE and counts; a fire whose apply phase exceeds its limit sets LATE_APPLY and completes; RADIO commits late at the first edge of its clock. EVLOG_SELECT stores the position and shows its entry. -/
def Obligations.CommitsTakeTheShadows : Prop :=
  (∀ (req base : Nat) (s : State), s.accepts .app req = true → base ∈ [0x40003000, 0x40012000] → s.locked base = false → Completes (.cfgCommit .app req base) s fun t =>
      (∀ f ∈ rwcFields base, (∀ v ∈ s.shadow.find f.key, t.rd f = v % 2 ^ f.width) ∧ (s.shadow.find f.key = none → t.rd f = s.rd f) ∧
        t.shadow.find f.key = none) ∧ t.flag (R.CFG_COMMIT.PENDING base) = false) ∧
  (∀ (req base : Nat) (s : State), s.accepts .app req = true → base ∈ [0x40001000, 0x40003000, 0x40004000, 0x40007000, 0x40012000] → s.locked base = false → Completes (.cfgDiscard .app req base) s fun t =>
      (∀ f ∈ rwcFields base, t.shadowRd f = s.rd f ∧ t.rd f = s.rd f) ∧ t.flag (R.CFG_COMMIT.PENDING base) = false) ∧
  (∀ (req bits : Nat) (stopped : List Nat) (s : State), s.accepts .app req = true → bits % 8 = 1 → s.rd (R.SYSCTL.COMMIT_GROUP.MASK 0) = 2 ^ 18 → 18 ∉ s.fabric.late → Completes (.commitFire req bits stopped) s fun t =>
      (∀ f ∈ rwcFields 0x40012000, ∀ v ∈ s.shadow.find f.key, t.rd f = v % 2 ^ f.width) ∧ t.rd R.SYSCTL.COMMIT_STATUS.DONE = 1 ∧
      t.rd R.SYSCTL.COMMIT_STATUS.LAST_GROUP = 0 ∧ t.fabric.fires = [] ∧ t.last.cause = 0) ∧
  (∀ (req : Nat) (stopped : List Nat) (s : State), s.fabric.fires = [{ req := req, dict := false, groups := [0], stopped := stopped, applied := true }] → s.fabric.writes = [] → s.fabric.held = [] → s.dict.fired = none → s.fabric.units = [] → Completes (.commitLate) s fun t =>
      t.rd R.SYSCTL.COMMIT_STATUS.LATE_APPLY = 1 ∧ t.rd R.SYSCTL.COMMIT_STATUS.DONE = 1 ∧ t.fabric.fires = [] ∧ Logged s t 0x0A05 []) ∧
  (∀ (s : State), s.quiet = true → 8 ∈ s.fabric.late → Completes (.lateClockCommit 8) s fun t =>
      (∀ f ∈ rwcFields 0x40008000, ∀ v ∈ s.shadow.find f.key, t.rd f = v % 2 ^ f.width) ∧ 8 ∉ t.fabric.late) ∧
  (∀ (k : Nat) (s : State), s.appOn = true → Completes (.evlogSelect k) s fun t =>
      t.rd R.SYSCTL.EVLOG_SEL.POS = k % 2 ^ R.SYSCTL.EVLOG_SEL.POS.width ∧ t.rd (R.SYSCTL.EVLOG_W.WORD 0) = leNat ((s.logBytes (k % 64)).take 4) % 2 ^ 32 ∧ t.logs = s.logs)

/-- Among two requesters that are not forced the one of higher priority is granted: its wait count clears and the other's rises by one; a forced requester is granted whatever the priorities, and the decision is counted with its number. With no access held a decision changes only the wait counts and the record of forced grants. -/
def Obligations.ArbiterServesPriorityUnlessForced : Prop :=
  (∀ (target r q : Nat) (s : State), s.appOn = true → r < 15 → q < 15 → r ≠ q → s.isForced r = false → s.isForced q = false → s.priority q < s.priority r → s.rd (R.ARB.WAITCNT.C q) + 1 < 2 ^ (R.ARB.WAITCNT.C q).width → target ≤ 4 → s.flag (R.PWR.PACE_STATUS.UNDER .app) = false → s.fabric.held = [] → s.fabric.raised = [] → Completes (.arbiterDecision target [r, q]) s fun t =>
      t.rd (R.ARB.WAITCNT.C r) = 0 ∧ t.rd (R.ARB.WAITCNT.C q) = s.rd (R.ARB.WAITCNT.C q) + 1 ∧ t.rd R.ARB.FORCED.COUNT = s.rd R.ARB.FORCED.COUNT) ∧
  (∀ (target r q : Nat) (s : State), s.appOn = true → r < 15 → q < 15 → r ≠ q → s.isForced r = false → s.isForced q = true → target ≤ 4 → s.flag (R.PWR.PACE_STATUS.UNDER .app) = false → s.fabric.held = [] → s.fabric.raised = [] → Completes (.arbiterDecision target [r, q]) s fun t =>
      t.rd (R.ARB.WAITCNT.C q) = 0 ∧ t.rd R.ARB.FORCED.LAST = q ∧ q ∉ t.fabric.forced) ∧
  (∀ (target : Nat) (raised : List Nat) (s : State), s.fabric.held = [] → Always (.arbiterDecision target raised) s fun t =>
      Frame ((List.range 15).map R.ARB.WAITCNT.C ++ [R.ARB.FORCED.COUNT, R.ARB.FORCED.LAST]) (fun s t => { t with regs := s.regs, fabric := s.fabric }) s t)

/-- With no voter finding a disagreement: an aligned write of one, two or four bytes to application SRAM stores the data little-endian there and nowhere else; an aligned read gives the stored bytes and changes no memory; an access at an address where nothing lies ends in a bus fault of cause DECODE that reads zero and changes no memory; so does an access of a MET peripheral window, or a write to MFLASH, by MCORE in user mode, which the model numbers requester 2 of MET. -/
def Obligations.MemoryAccessesOfTheApplicationSide : Prop :=
  (∀ (req n a data : Nat) (rom : Bool) (env : WriteEnv) (s : State), s.accepts .app req = true → s.flag (R.PWR.PACE_STATUS.UNDER .app) = false → n = 1 ∨ n = 2 ∨ n = 4 → 0x20000000 ≤ a → a < 0x20020000 → a % n = 0 → Completes (.memoryAccess .app req 2 n a data rom AccessEnv.none env) s fun t =>
      t.load a n = data % 2 ^ (8 * n) ∧ SameMemoryOutside a n s t ∧ t.last = { data := 0, cause := 0, mcause := 0, mtval := 0 } ∧
      { t with mem := s.mem, last := s.last } = s) ∧
  (∀ (req n a data : Nat) (rom : Bool) (env : WriteEnv) (s : State), s.accepts .app req = true → s.flag (R.PWR.PACE_STATUS.UNDER .app) = false → n = 1 ∨ n = 2 ∨ n = 4 → 0x20000000 ≤ a → a < 0x20020000 → a % n = 0 → Completes (.memoryAccess .app req 1 n a data rom AccessEnv.none env) s fun t =>
      t.last = { data := s.load a n, cause := 0, mcause := 0, mtval := 0 } ∧ SameMemory s t ∧ { t with last := s.last } = s) ∧
  (∀ (req kind n a data : Nat) (rom : Bool) (env : WriteEnv) (s : State), s.accepts .app req = true → s.flag (R.PWR.PACE_STATUS.UNDER .app) = false → n = 1 ∨ n = 2 ∨ n = 4 → a % n = 0 → kind = 1 ∨ kind = 2 → appArea a = .nothing → Completes (.memoryAccess .app req kind n a data rom AccessEnv.none env) s fun t =>
      t.last.data = 0 ∧ t.last.cause = causeDecode ∧ SameMemory s t) ∧
  (∀ (kind n a data : Nat) (rom : Bool) (env : WriteEnv) (s : State), s.accepts .met 2 = true → n = 1 ∨ n = 2 ∨ n = 4 → a % n = 0 → kind = 1 ∨ kind = 2 → areaOf .met a = .register ∨ areaOf .met a = .flash ∧ kind = 2 → Completes (.memoryAccess .met 2 kind n a data rom AccessEnv.none env) s fun t =>
      t.last = { data := 0, cause := causeDecode, mcause := mcauseOf kind, mtval := a } ∧ SameMemory s t)

/-- The first write of a sequence binds it to its requester; the fifth write of a program sequence over an erased, unprotected double word starts the program with its address and data; the fourth write of an erase sequence starts the erase of its block; a program that verifies stores its eight bytes there and nowhere else and sets DONE; an erase that checks blank leaves its block reading 0xFF and every other byte alone; an abort shows in STATUS.OP; an erase that has stopped sets ABORTED. -/
def Obligations.FlashSequencesAndOperations : Prop :=
  (∀ (arr req : Nat) (s : State), arr ∈ [0, 1, 2] → s.flashSeq arr = none → s.awaitsTarget arr req = none → s.accepts .app req = true → s.flag (R.PWR.PACE_STATUS.UNDER .app) = false → Completes (.flashSequenceWrite .app req (flashBase arr + 0x2AA4) 0x6C) s fun t =>
      t.flashSeq arr = some { arr := arr, req := req, step := 1, cmd := 0, addr := 0, low := 0 } ∧ t.rd (R.FLASHC.STATUS.ARMED .app) = 1 ∧ SameMemory s t) ∧
  (∀ (arr req a data : Nat) (q : FlashSeq) (s : State), flashArray .app (a + 4) = some arr → s.unwindow (a + 4) = some (a + 4) → s.flashSeq arr = some q → q.arr = arr → q.req = req → q.cmd = 0x11 → q.step = 4 → q.addr = a → a < 2 ^ 32 → s.blockProtected arr (blockOf arr a) = false → s.flashClosed .app = false → s.dwordErased a = true → s.accepts .app req = true → s.flag (R.PWR.PACE_STATUS.UNDER .app) = false → Completes (.flashProgram .app req (a + 4) data) s fun t =>
      t.appFlash = some { arr := arr, erase := false, addr := a, data := leBytes 4 q.low ++ leBytes 4 data, req := req, aborting := false } ∧
      t.rd (R.FLASHC.STATUS.BUSY .app) = 1 ∧ t.rd (R.FLASHC.OP_ADDR.ADDR .app) = a ∧ t.flashSeq arr = none) ∧
  (∀ (arr req a : Nat) (q : FlashSeq) (s : State), flashArray .app a = some arr → s.unwindow a = some a → s.flashSeq arr = some q → q.arr = arr → q.req = req → q.cmd = 0x22 → q.step = 3 → s.blockProtected arr (blockOf arr a) = false → s.flashClosed .app = false → s.accepts .app req = true → s.flag (R.PWR.PACE_STATUS.UNDER .app) = false → a % 4 = 0 → Completes (.flashErase .app req a) s fun t =>
      t.appFlash = some { arr := arr, erase := true, addr := blockBase arr (blockOf arr a), data := [], req := req, aborting := false } ∧
      t.rd (R.FLASHC.STATUS.BUSY .app) = 1 ∧ t.flashSeq arr = none) ∧
  (∀ (sd : Side) (pulses : Nat) (o : FlashOp) (s : State), s.flashOp sd = some o → o.erase = false → o.addr % 8 = 0 → o.data.length = 8 → (∀ b ∈ o.data, b < 256) → flashArray sd o.addr = some o.arr → pulses ≤ 12 → s.update.due = [] → Completes (.flashProgramDone sd pulses 0) s fun t =>
      t.flashOp sd = none ∧ t.rd (R.FLASHC.STATUS.DONE sd) = 1 ∧ t.rd (R.FLASHC.LAST_PULSES.PROG sd) = pulses ∧
      (∀ i ∈ List.range 8, (t.byte (physOf sd o.addr + i)).toNat = o.data.getD i 0) ∧ SameMemoryOutside (physOf sd o.addr) 8 s t) ∧
  (∀ (sd : Side) (pulses : Nat) (header : Bool) (o : FlashOp) (s : State), s.flashOp sd = some o → o.erase = true → o.addr % 0x1000 = 0 → flashArray sd o.addr = some o.arr → pulses ≤ 6 → s.update.due = [] → Completes (.flashEraseDone sd pulses true header) s fun t =>
      t.flashOp sd = none ∧ t.rd (R.FLASHC.STATUS.DONE sd) = 1 ∧ t.rd (R.FLASHC.LAST_PULSES.ERASE sd) = pulses ∧
      (∀ i ∈ List.range 0x1000, t.byte (physOf sd o.addr + i) = 0xFF#8) ∧ SameMemoryOutside (physOf sd o.addr) 0x1000 s t) ∧
  (∀ (sd : Side) (o : FlashOp) (s : State), s.flashOp sd = some o → o.erase = true → s.railPowered sd = true → s.flag (R.PWR.PACE_STATUS.UNDER sd) = false → Completes (.flashAbort sd) s fun t =>
      t.flashOp sd = some { o with aborting := true } ∧ t.rd (R.FLASHC.STATUS.OP sd) = 4) ∧
  (∀ (sd : Side) (o : FlashOp) (s : State), s.flashOp sd = some o → o.erase = true → o.aborting = true → s.update.due = [] → Completes (.flashEraseStopped sd) s fun t =>
      t.flashOp sd = none ∧ t.rd (R.FLASHC.STATUS.ABORTED sd) = 1 ∧ t.rd (R.FLASHC.STATUS.BUSY sd) = 0)

/-- A protection entry waits for its check in the URGENT context of CMACE, with nothing lifted yet; when the check has ended with no password stored, no lockout and the map whole, the entry lifts its regions, clears PW0 to PW3 and is logged; a relock with its key clears LIFTED; an advance with its key queues its burns in order and one without is refused; a burn that ends steps its counter or seals; the switch shows its level and breaks a seal when it opens; SEAL and RESEAL under their conditions queue the burn of the next S pair; MPROT.LOCK only gains bits. -/
def Obligations.ProtectionCountersAndSeal : Prop :=
  (∀ (req mask : Nat) (s : State), s.power.app.st = .on → s.protEntry = none → Completes (.protectionEntry req mask) s fun t =>
      t.protEntry = some (req, mask % 512) ∧ t.cmac.urgent = s.cmac.urgent ++ [engineJob 5 1] ∧ (s.appFlash = none → t.rd (R.FLASHC.STATUS.OP .app) = 3) ∧
      t.rd R.CMACE.STATUS.URG_BUSY = 1 ∧ t.rd R.FLASHC.PROT_STATUS.LIFTED = s.rd R.FLASHC.PROT_STATUS.LIFTED) ∧
  (∀ (req mask : Nat) (s : State), s.protEntry = some (req, mask) → s.flag R.FLASHC.PROT_STATUS.LOCKOUT = false →
      s.flag R.FLASHC.PROT_STATUS.MAP_LOST = false → s.tagBlank = true →
      s.endEntry.protEntry = none ∧
        s.endEntry.rd R.FLASHC.PROT_STATUS.LIFTED = (s.rd R.FLASHC.PROT_STATUS.LIFTED ||| (mask % 512)) % 512 ∧
        s.endEntry.rd R.FLASHC.PROT_STATUS.LIFT_OK = 1 ∧ (∀ n ∈ List.range 4, s.endEntry.rd (R.FLASHC.PW.PW n) = 0) ∧
        Logged s s.endEntry 0x0730 []) ∧
  (∀ (mask : Nat) (s : State), s.rd R.FLASHC.PROT_STATUS.LIFTED < 512 → s.power.app.st = .on → Completes (.protRelock mask 0xD2) s fun t =>
      t.rd R.FLASHC.PROT_STATUS.LIFTED = clearBits (s.rd R.FLASHC.PROT_STATUS.LIFTED) (mask % 512) ∧ Logged s t 0x0733 []) ∧
  (∀ (idx target : Nat) (s : State), idx < 2 → target ≤ 64 → (idx = 0 → target ≤ s.rd R.AON.BOOT_STATUS.ROLLBACK) → s.arb idx < target → s.railPowered .app = true → s.awaitsBurn .app 1 = false → Completes (.arbAdvance .app 0x9B idx target) s fun t =>
      t.burns = s.burns ++ advanceBurns .app 1 idx (s.arb idx) target ∧ t.rd R.FLASHC.ARB_STATUS.BURN = 1 ∧ t.otp = s.otp) ∧
  (∀ (key idx target : Nat) (s : State), key ≠ 0x9B → s.railPowered .app = true → s.awaitsBurn .app 1 = false → Completes (.arbAdvance .app key idx target) s fun t =>
      t.rd R.FLASHC.ARB_STATUS.REFUSED = 1 ∧ t.burns = s.burns ∧ t.otp = s.otp) ∧
  (∀ (b : Burn) (r : List Burn) (s : State), s.burns = b :: r → b.item < 3 → s.otp.arb.length = 3 → s.resetHold ≠ 1 → s.resetHold ≠ 3 → s.power.ship = false → Completes (.fuseBurnDone false) s fun t =>
      t.burns = r ∧ t.arb b.item = max (s.arb b.item) (b.pair + 1)) ∧
  (∀ (k : Nat) (reseal : Bool) (r : List Burn) (s : State), s.burns = { item := 3, pair := 2 * k, before := 0, last := true, reseal := reseal, sd := .met, req := 1 } :: r → s.otp.sealS.length = 8 → k < 8 → s.resetHold ≠ 1 → s.resetHold ≠ 3 → s.power.ship = false → Completes (.fuseBurnDone false) s fun t =>
      t.burns = r ∧ t.otp.sealS.getD k 0 = 2 ∧ t.rd R.MPWR.SEAL_STATUS.STATE = 1 ∧ Logged s t (if reseal then 0x0722 else 0x0720) []) ∧
  (∀ (level : Bool) (s : State), s.power.ship = false → s.resetHold = 0 → s.variant ≠ .c → Completes (.sealswChange level) s fun t =>
      t.rd R.MPWR.SEAL_STATUS.SW = b2n level ∧ t.rd R.MPWR.SEAL_STATUS.SW_VALID = 1 ∧
      (level = false → s.rd R.MPWR.SEAL_STATUS.STATE = 1 → t.rd R.MPWR.SEAL_STATUS.STATE = 2 ∧ t.rd R.MPWR.SEAL_STATUS.BROKE = 1)) ∧
  (∀ (s : State), s.variant ≠ .c → s.rd R.MPWR.SEAL_STATUS.STATE = 0 → s.inService = true → s.flag R.MPWR.SEAL_STATUS.SW = true → 1 ≤ s.sealRemain → s.level ≤ 4 → s.power.met.st = .on → s.awaitsBurn .met 1 = false → Completes (.sealSet 0x5E) s fun t =>
      t.burns = s.burns ++ [{ item := 3, pair := 2 * ((s.highestSeal.map (fun h => h + 1)).getD 0), before := 0, last := true, reseal := false, sd := .met, req := 1 }]) ∧
  (∀ (s : State), s.variant ≠ .c → s.rd R.MPWR.SEAL_STATUS.STATE = 2 → s.inService = true → s.flag R.MPWR.SEAL_STATUS.SW = true → 1 ≤ s.sealRemain → s.level ≤ 4 → s.power.met.st = .on → s.awaitsBurn .met 1 = false → Completes (.sealReseal 0x5E) s fun t =>
      t.burns = s.burns ++ [{ item := 3, pair := 2 * ((s.highestSeal.map (fun h => h + 1)).getD 0), before := 0, last := true, reseal := true, sd := .met, req := 1 }]) ∧
  (∀ (mask : Nat) (s : State), s.power.met.st = .on → s.rd R.MFLASHC.MPROT.LOCK < 32 → Completes (.mprotLock mask) s fun t =>
      t.rd R.MFLASHC.MPROT.LOCK = s.rd R.MFLASHC.MPROT.LOCK ||| (mask % 32))

/-- PROT_RELOCK changes LIFTED and the log alone, MPROT_LOCK its own field, a seal command REFUSED, the queue of burns with its flags and the logs, a flash abort the operation and the bits of STATUS that show it; fuses and memory are unchanged by all of them. -/
def Obligations.ProtectionFrames : Prop :=
  (∀ (mask key : Nat) (s : State), Always (.protRelock mask key) s fun t =>
      Frame (R.FLASHC.PROT_STATUS.LIFTED :: logFields) putLogs s t) ∧
  (∀ (mask : Nat) (s : State), Always (.mprotLock mask) s fun t =>
      Frame [R.MFLASHC.MPROT.LOCK] putRegs s t) ∧
  (∀ (key : Nat) (s : State), Always (.sealSet key) s fun t =>
      Frame ([R.MPWR.SEAL_STATUS.REFUSED, R.FLASHC.ARB_STATUS.BURN, R.MPWR.ARB2.BURN, R.MPWR.SEAL_STATUS.BURN] ++ bothLogFields) (fun s t => { putLogs s t with burns := s.burns }) s t) ∧
  (∀ (key : Nat) (s : State), Always (.sealReseal key) s fun t =>
      Frame ([R.MPWR.SEAL_STATUS.REFUSED, R.FLASHC.ARB_STATUS.BURN, R.MPWR.ARB2.BURN, R.MPWR.SEAL_STATUS.BURN] ++ bothLogFields) (fun s t => { putLogs s t with burns := s.burns }) s t) ∧
  (∀ (sd : Side) (s : State), Always (.flashAbort sd) s fun t =>
      Frame [R.FLASHC.STATUS.BUSY sd, R.FLASHC.STATUS.BUSY0 sd, R.FLASHC.STATUS.BUSY1 sd, R.FLASHC.STATUS.BUSYB sd, R.FLASHC.STATUS.OP sd, R.FLASHC.STATUS.ARMED sd] (fun s t => { t with regs := s.regs, appFlash := s.appFlash, metFlash := s.metFlash }) s t)

/-- A party the reserve rule lets claim gets a FREE slot empty and unpublished, by number or the lowest; a slot given to MET, APP, DMA or LINK passes with its giver, its count of hands and its length; publish, unpublish and free act on the owner's slot; each shows OK; a copy latches its order and moves its words, ends with ERR at once where AS is neither 2 nor 3, and where its party has lost the slot stops at the next word with LOFT_OWNER; a FREE that meets a copy of its slot leaves the words served before it; FREE_MIN takes the present count; alarm M set ahead is armed, one not ahead is missed and fires; an alarm reached fires or wakes APP. -/
def Obligations.LoftOwnersAndDoorbells : Prop :=
  (∀ (sd : Side) (party slot : Nat) (s : State), s.slots.length = 32 → actsAs sd party = true → (s.slot (slot % 32)).owner = 0 → s.mayClaim (actingParty sd party) = true → s.railPowered sd = true → Completes (.claim sd party slot) s fun t =>
      t.slot (slot % 32) = { emptySlot with owner := actingParty sd party } ∧ t.rd (R.LOFTC.CMD_STATUS.RESULT sd) = loftOk ∧
      t.rd (R.LOFTC.CMD_STATUS.SLOT sd) = slot % 32 ∧ SameMemoryOutside (slotAddr (slot % 32)) 0x200 s t) ∧
  (∀ (sd : Side) (party n : Nat) (s : State), s.slots.length = 32 → actsAs sd party = true → s.lowestFree = some n → s.mayClaim (actingParty sd party) = true → s.railPowered sd = true → Completes (.claimAny sd party) s fun t =>
      t.slot n = { emptySlot with owner := actingParty sd party } ∧ t.rd (R.LOFTC.CMD_STATUS.RESULT sd) = loftOk ∧ t.rd (R.LOFTC.CMD_STATUS.SLOT sd) = n) ∧
  (∀ (sd : Side) (party slot target len : Nat) (s : State), s.slots.length = 32 → actsAs sd party = true → (s.slot (slot % 32)).owner = actingParty sd party → actingParty sd party ≠ 0 → target ∈ [ownMet, ownApp, ownDma, ownLink] → target ≠ actingParty sd party → s.hasParty target = true → s.railPowered sd = true → Completes (.give sd party slot target len) s fun t =>
      t.slot (slot % 32) = handOver (s.slot (slot % 32)) target len ∧ t.rd (R.LOFTC.CMD_STATUS.RESULT sd) = loftOk ∧
      (target = ownMet → t.rdBit (R.LOFTC.BELL.BELL .met) (slot % 32) = true) ∧ (target = ownApp → t.rdBit (R.LOFTC.BELL.BELL .app) (slot % 32) = true)) ∧
  (∀ (sd : Side) (party slot len : Nat) (s : State), s.slots.length = 32 → actsAs sd party = true → (s.slot (slot % 32)).owner = actingParty sd party → actingParty sd party ≠ 0 → s.railPowered sd = true → Completes (.publish sd party slot len) s fun t =>
      (t.slot (slot % 32)).publish = true ∧ (t.slot (slot % 32)).len = newLen (s.slot (slot % 32)).len len ∧ t.rd (R.LOFTC.CMD_STATUS.RESULT sd) = loftOk ∧ SameMemory s t) ∧
  (∀ (sd : Side) (party slot : Nat) (s : State), s.slots.length = 32 → actsAs sd party = true → (s.slot (slot % 32)).owner = actingParty sd party → actingParty sd party ≠ 0 → (s.slot (slot % 32)).frozen = false → s.railPowered sd = true → s.copy = none → Completes (.unpublish sd party slot) s fun t =>
      t.slot (slot % 32) = { (s.slot (slot % 32)) with publish := false } ∧ t.rd (R.LOFTC.CMD_STATUS.RESULT sd) = loftOk ∧ SameMemory s t) ∧
  (∀ (sd : Side) (party slot : Nat) (s : State), s.slots.length = 32 → actsAs sd party = true → (s.slot (slot % 32)).owner = actingParty sd party → actingParty sd party ≠ 0 → s.railPowered sd = true → s.copy = none → Completes (.free sd party slot) s fun t =>
      (t.slot (slot % 32)).owner = 0 ∧ (t.slot (slot % 32)).publish = false ∧ (t.slot (slot % 32)).frozen = false ∧ t.rd (R.LOFTC.CMD_STATUS.RESULT sd) = loftOk ∧ SameMemory s t) ∧
  (∀ (s : State), s.flag R.LOFTC.COPY_STATUS.BUSY = false → s.rd R.LOFTC.COPY_CTL.AS ≠ 2 → s.rd R.LOFTC.COPY_CTL.AS ≠ 3 → s.railPowered .app = true → Completes (.loftCopy) s fun t =>
      t = (s.clear R.LOFTC.COPY_STATUS.WORDS_DONE).raise R.LOFTC.COPY_STATUS.ERR) ∧
  (∀ (s : State), s.flag R.LOFTC.COPY_STATUS.BUSY = false → s.rd R.LOFTC.COPY_CTL.AS = 2 ∨ s.rd R.LOFTC.COPY_CTL.AS = 3 → 1 ≤ s.rd R.LOFTC.COPY_CTL.WORDS → s.rd R.LOFTC.COPY_CTL.WORDS ≤ 128 → s.railPowered .app = true → Completes (.loftCopy) s fun t =>
      t.copy = some { slot := s.rd R.LOFTC.COPY_CTL.SLOT, toSlot := s.flag R.LOFTC.COPY_CTL.DIR, words := s.rd R.LOFTC.COPY_CTL.WORDS, party := s.rd R.LOFTC.COPY_CTL.AS, sram := s.rd R.LOFTC.COPY_SRAM.ADDR } ∧ t.rd R.LOFTC.COPY_STATUS.BUSY = 1 ∧ t.rd R.LOFTC.COPY_STATUS.WORDS_DONE = 0) ∧
  (∀ (j : CopyJob) (s : State), s.copy = some j → j.party = 2 ∨ j.party = 3 → j.toSlot = true → 1 ≤ j.words → j.words ≤ 128 → j.slot < 32 → j.sram % 4 = 0 → 0x20000000 ≤ j.sram → j.sram + 4 * j.words ≤ 0x20020000 → (s.slot j.slot).writableBy j.party = true → s.flag (R.PWR.PACE_STATUS.UNDER .app) = false → j.served = 0 → j.fault = none → Completes (.loftCopyEnd) s fun t =>
      (∀ i ∈ List.range (4 * j.words), t.byte (slotAddr j.slot + i) = s.byte (j.sram + i)) ∧ SameMemoryOutside (slotAddr j.slot) (4 * j.words) s t ∧
      t.rd R.LOFTC.COPY_STATUS.DONE = 1 ∧ t.rd R.LOFTC.COPY_STATUS.WORDS_DONE = j.words ∧ t.copy = none) ∧
  (∀ (j : CopyJob) (s : State), s.copy = some j → j.toSlot = true → j.fault = none → j.served < j.words → j.served < 256 → j.sram % 4 = 0 → 0x20000000 ≤ j.sram → j.sram + 4 * j.words ≤ 0x20020000 → (s.slot j.slot).writableBy j.party = false → s.flag (R.PWR.PACE_STATUS.UNDER .app) = false → Completes (.loftCopyEnd) s fun t =>
      t.rd R.LOFTC.COPY_STATUS.ERR = 1 ∧ t.rd R.LOFTC.COPY_STATUS.DONE = s.rd R.LOFTC.COPY_STATUS.DONE ∧ t.rd R.LOFTC.COPY_STATUS.CAUSE = causeLoftOwner ∧ t.rd R.LOFTC.COPY_STATUS.WORDS_DONE = j.served ∧ t.copy = none ∧ SameMemory s t) ∧
  (∀ (party slot : Nat) (j : CopyJob) (s : State), s.copy = some j → j.slot = slot % 32 → j.fault = none → j.served ≤ j.words → s.slots.length = 32 → party = 2 ∨ party = 3 → (s.slot (slot % 32)).owner = party → s.railPowered .app = true → Completes (.free .app party slot) s fun t =>
      (t.slot (slot % 32)).owner = 0 ∧ t.rd (R.LOFTC.CMD_STATUS.RESULT .app) = loftOk ∧ (∃ k, t.copy = some k ∧ j.served ≤ k.served ∧ k.served ≤ j.words ∧ k.slot = j.slot ∧ k.words = j.words)) ∧
  (∀ (sd : Side) (s : State), s.railPowered sd = true → Completes (.freeMinWrite sd) s fun t =>
      t.rd (R.LOFTC.STATS.FREE_MIN sd) = s.freeNow % 64) ∧
  (∀ (time : Nat) (s : State), s.utime < time → time < 2 ^ 32 → s.power.met.st = .on → Completes (.alarmMArm time 1) s fun t =>
      t.rd R.MAON.ALARM_M.AT = time ∧ t.rd R.MAON.ALARM_M_CTL.EN = 1 ∧ t.rd R.MAON.ALARM_M_CTL.FIRED = s.rd R.MAON.ALARM_M_CTL.FIRED) ∧
  (∀ (time : Nat) (s : State), time ≤ s.utime → time < 2 ^ 32 → s.power.met.st = .on → Completes (.alarmMArm time 1) s fun t =>
      t.rd R.MAON.ALARM_M.AT = time ∧ t.rd R.MAON.ALARM_M_CTL.EN = 0 ∧ t.rd R.MAON.ALARM_M_CTL.FIRED = 1 ∧ t.rd R.MAON.ALARM_M_CTL.MISSED = 1) ∧
  (∀ (s : State), s.flag R.MAON.ALARM_M_CTL.EN = true → s.awake = true → Completes (.rtcAlarm .met) s fun t =>
      t.rd R.MAON.ALARM_M_CTL.EN = 0 ∧ t.rd R.MAON.ALARM_M_CTL.FIRED = 1) ∧
  (∀ (s : State), s.power.frozen = false → s.power.ship = false → s.wakeEnabled .app 1 = true → 1 ∉ s.wakeList .app → s.rd (R.PWR.WAKE_CAUSE.COUNT .app) < 4 → s.resetHold = 0 → s.power.shipping = false → Completes (.rtcAlarm .app) s fun t =>
      t.rd (R.PWR.WAKE_CAUSE.COUNT .app) = s.rd (R.PWR.WAKE_CAUSE.COUNT .app) + 1 ∧ t.rd (wakeSlot .app (s.rd (R.PWR.WAKE_CAUSE.COUNT .app))) = 1)

/-- PUBLISH, UNPUBLISH and FREE change only the slot, the status of the command, the least free count, and for a refusal the violation record and the logs; FREE_MIN_WRITE its own field; LOFT_COPY the order and the status of the copy; memory is unchanged by all of them, UNPUBLISH and FREE where no copy runs that they could meet. -/
def Obligations.LoftFrames : Prop :=
  (∀ (sd : Side) (party slot len : Nat) (s : State), Always (.publish sd party slot len) s fun t =>
      Frame ([R.LOFTC.CMD_STATUS.RESULT sd, R.LOFTC.CMD_STATUS.SLOT sd, R.LOFTC.STATS.FREE_MIN .app, R.LOFTC.STATS.FREE_MIN .met] ++
        [Side.app, Side.met].flatMap (fun d => [R.LOFTC.VIOLATION.COUNT d, R.LOFTC.VIOLATION.FLAG d, R.LOFTC.VIOLATION.MULTI d, R.LOFTC.VIOLATION.SLOT d, R.LOFTC.VIOLATION.PARTY d, R.LOFTC.VIOLATION.KIND d]) ++ bothLogFields) (fun s t => { putLogs s t with slots := s.slots }) s t) ∧
  (∀ (sd : Side) (party slot : Nat) (s : State), s.copy = none → Always (.unpublish sd party slot) s fun t =>
      Frame ([R.LOFTC.CMD_STATUS.RESULT sd, R.LOFTC.CMD_STATUS.SLOT sd, R.LOFTC.STATS.FREE_MIN .app, R.LOFTC.STATS.FREE_MIN .met] ++
        [Side.app, Side.met].flatMap (fun d => [R.LOFTC.VIOLATION.COUNT d, R.LOFTC.VIOLATION.FLAG d, R.LOFTC.VIOLATION.MULTI d, R.LOFTC.VIOLATION.SLOT d, R.LOFTC.VIOLATION.PARTY d, R.LOFTC.VIOLATION.KIND d]) ++ bothLogFields) (fun s t => { putLogs s t with slots := s.slots }) s t) ∧
  (∀ (sd : Side) (party slot : Nat) (s : State), s.copy = none → Always (.free sd party slot) s fun t =>
      Frame ([R.LOFTC.CMD_STATUS.RESULT sd, R.LOFTC.CMD_STATUS.SLOT sd, R.LOFTC.STATS.FREE_MIN .app, R.LOFTC.STATS.FREE_MIN .met] ++
        [Side.app, Side.met].flatMap (fun d => [R.LOFTC.VIOLATION.COUNT d, R.LOFTC.VIOLATION.FLAG d, R.LOFTC.VIOLATION.MULTI d, R.LOFTC.VIOLATION.SLOT d, R.LOFTC.VIOLATION.PARTY d, R.LOFTC.VIOLATION.KIND d]) ++ bothLogFields) (fun s t => { putLogs s t with slots := s.slots }) s t) ∧
  (∀ (sd : Side) (s : State), Always (.freeMinWrite sd) s fun t =>
      Frame [R.LOFTC.STATS.FREE_MIN sd] putRegs s t) ∧
  (∀ (s : State), Always (.loftCopy) s fun t =>
      Frame [R.LOFTC.COPY_CTL.START, R.LOFTC.COPY_STATUS.BUSY, R.LOFTC.COPY_STATUS.ERR, R.LOFTC.COPY_STATUS.WORDS_DONE] (fun s t => { t with regs := s.regs, copy := s.copy }) s t)

/-- A start takes its turn behind the jobs that run and wait, and shows BUSY; a strip scan that ends stores each code clipped, sets VALID for every cell, DONE, and class 0 where every cell is plausible; without current it marks every cell implausible and sets FAULT; on a BST420H a scan ends with no current and class 3; a continuity test shows the open taps, those above N among them; a Pt scan stores the enabled channels' codes and DONE, and shows an open loop; an abort withdraws the scanner's jobs and sets ABORTED. A channel with CHOP gives the mean of two conversions of opposite polarity, rounded, and without it the one; where a reading clips, the nearest ratio is taken. -/
def Obligations.StripAndPtScans : Prop :=
  (∀ (s : State), s.metRuns = true → s.flag R.STRIP.STATUS.BUSY = false → Completes (.stripStart) s fun t =>
      t.madcRun.toList ++ t.madcQueue = s.madcRun.toList ++ s.madcQueue ++ [s.stripScan] ∧ t.rd R.STRIP.STATUS.BUSY = 1 ∧ t.rd R.STRIP.STATUS.VALID = 0 ∧ t.rd R.STRIP.STATUS.IMPL = 0) ∧
  (∀ (current n : Nat) (sa : Bool) (ch : Channel) (cells spans : List Reading) (taps : List Nat) (s : State), s.madcRun = some (.strip n sa ch) → 1 ≤ n → n ≤ 8 → 25 ≤ current → s.variant ≠ .h → Completes (.stripScanDone current cells spans taps) s fun t =>
      t.rd R.STRIP.IMON.CURRENT = min 4095 current ∧ t.rd R.STRIP.IMON.LOW = 0 ∧ t.rd R.STRIP.STATUS.DONE = 1 ∧ t.rd R.STRIP.STATUS.VALID = 2 ^ n - 1 ∧
      (∀ k ∈ List.range n, t.rd (R.STRIP.CELL.CODE k) = (readingAt cells ch k).word) ∧ t.madcRun = s.madcQueue.head? ∧
      ((∀ k ∈ List.range n, (readingAt cells ch k).implausible ch.lo ch.hi = false) → t.rd R.STRIP.DIAG.CLASS = 0 ∧ t.rd R.STRIP.STATUS.IMPL = 0 ∧ t.logs = s.logs)) ∧
  (∀ (current n : Nat) (sa : Bool) (ch : Channel) (cells spans : List Reading) (taps : List Nat) (s : State), s.madcRun = some (.strip n sa ch) → 1 ≤ n → n ≤ 8 → current < 25 → Completes (.stripScanDone current cells spans taps) s fun t =>
      t.rd R.STRIP.IMON.LOW = 1 ∧ t.rd R.STRIP.STATUS.IMPL = 2 ^ n - 1 ∧ t.rd R.STRIP.STATUS.DONE = 1 ∧ t.rd R.STRIP.STATUS.FAULT = 1 ∧ t.madcRun = s.madcQueue.head?) ∧
  (∀ (current n : Nat) (sa : Bool) (ch : Channel) (cells spans : List Reading) (taps : List Nat) (s : State), s.madcRun = some (.strip n sa ch) → 1 ≤ n → n ≤ 8 → s.variant = .h → Completes (.stripScanDone current cells spans taps) s fun t =>
      t.rd R.STRIP.IMON.LOW = 1 ∧ t.rd R.STRIP.DIAG.CLASS = 3 ∧ t.rd R.STRIP.STATUS.DONE = 1 ∧ t.rd R.STRIP.STATUS.FAULT = 1) ∧
  (∀ (s : State), s.metRuns = true → s.flag R.STRIP.STATUS.BUSY = false → Completes (.stripCont) s fun t =>
      t.madcRun.toList ++ t.madcQueue = s.madcRun.toList ++ s.madcQueue ++ [.cont s.ncell] ∧ t.rd R.STRIP.STATUS.BUSY = 1) ∧
  (∀ (n : Nat) (opens : List Nat) (s : State), s.madcRun = some (.cont n) → Completes (.stripContDone opens) s fun t =>
      t.rd R.STRIP.CONT.TAP_OPEN = maskOf 9 (fun k => decide (k > n) || opens.contains k) ∧ t.rd R.STRIP.CONT.DONE = 1 ∧ t.madcRun = s.madcQueue.head?) ∧
  (∀ (cells : List Reading) (s : State), s.flag R.STRIP.STATUS.BUSY = true → Completes (.stripAbort cells) s fun t =>
      t.rd R.STRIP.STATUS.ABORTED = 1 ∧ t.rd R.STRIP.STATUS.BUSY = 0 ∧ (t.madcRun.toList ++ t.madcQueue).any MetJob.isStrip = false) ∧
  (∀ (s : State), s.metRuns = true → s.flag R.PT.STATUS.BUSY = false → Completes (.ptStart) s fun t =>
      t.madcRun.toList ++ t.madcQueue = s.madcRun.toList ++ s.madcQueue ++ [s.ptScan] ∧ t.rd R.PT.STATUS.BUSY = 1) ∧
  (∀ (current : Nat) (readA readB : Reading) (chA chB : Option Channel) (s : State), s.madcRun = some (.pt chA chB) → 8 ≤ current → Completes (.ptScanDone current readA readB) s fun t =>
      t.rd R.PT.STATUS.OPEN = 0 ∧ t.rd R.PT.STATUS.DONE = 1 ∧ t.rd R.PT.IMON.CURRENT = min 4095 current ∧ (∀ c ∈ chA, s.variant ≠ .a → t.rd R.PT.RES_A.CODE = (readingCode readA c).word) ∧
      (∀ c ∈ chB, t.rd R.PT.RES_B.CODE = (readingCode readB c).word) ∧ t.madcRun = s.madcQueue.head?) ∧
  (∀ (current : Nat) (readA readB : Reading) (chA chB : Option Channel) (s : State), s.madcRun = some (.pt chA chB) → current < 8 → Completes (.ptScanDone current readA readB) s fun t =>
      t.rd R.PT.STATUS.OPEN = 1 ∧ t.rd R.PT.STATUS.DONE = 1 ∧ t.rd R.PT.STATUS.FAULT = 1 ∧ t.rd R.PT.RES_A.CODE = s.rd R.PT.RES_A.CODE ∧ t.rd R.PT.RES_B.CODE = s.rd R.PT.RES_B.CODE) ∧
  (∀ (reads : List Reading) (s : State), s.flag R.PT.STATUS.BUSY = true → Completes (.ptAbort reads) s fun t =>
      t.rd R.PT.STATUS.ABORTED = 1 ∧ t.rd R.PT.STATUS.BUSY = 0 ∧ (t.madcRun.toList ++ t.madcQueue).any MetJob.isPt = false) ∧
  (∀ (r : Reading) (ch : Channel), ch.chop = true → r.first.ref ≠ 0 → r.second.ref ≠ 0 → r.first.sensor = 0 → r.second.sensor = 0 →
      (readingCode r ch).value = 0 ∧ (readingCode r ch).clipped = false) ∧
  (∀ (r : Reading) (ch : Channel), ch.chop = false → r.first.ref ≠ 0 →
      (readingCode r ch).value = clip22 (openRound 16 (2 ^ 21 * r.first.sensor) (r.first.ref * fullScale ch.fs)) ∧
        ((readingCode r ch).clipped = true ↔ clip22 (openRound 16 (2 ^ 21 * r.first.sensor) (r.first.ref * fullScale ch.fs)) ≠
          openRound 16 (2 ^ 21 * r.first.sensor) (r.first.ref * fullScale ch.fs))) ∧
  (∀ (r : Reading) (ch : Channel), ch.chop = true →
      (readingCode r ch).value = openDiv 15 (clip22 (convCode r.first ch.fs) + clip22 (convCode r.second ch.fs)) 2 ∧
        ((readingCode r ch).clipped = false → clip22 (convCode r.first ch.fs) = convCode r.first ch.fs))

/-- A start on a BST420H whose MET domain runs latches the configuration and, with EXCL, takes its turn at the MADC; a calibration count within 7,000 to 8,600 while LFXO runs lets the first shot begin, any other ends the sequence with CAL_FAIL; a low VUS ends it with VUS_LOW; an echo that is detected and is no slip is recorded as good, becomes the expected time of flight of its direction, and begins the next shot, from the other channel within a pair; a missing echo is counted; an open or shorted driver ends the sequence; the end writes the number of good pairs, sets DONE and counts the sequence; an abort sets ABORTED. -/
def Obligations.FlowSequences : Prop :=
  (∀ (s : State), s.variant = .h → s.metRuns = true → s.flow.cfg = none → Completes (.flowStart) s fun t =>
      t.flow.cfg = some s.flowCfg ∧ t.flow.shots = [] ∧ t.flow.calibrated = false ∧ t.rd R.FLOW.STATUS.BUSY = 1 ∧
      t.madcRun.toList ++ t.madcQueue = s.madcRun.toList ++ s.madcQueue ++ (if s.flowCfg.excl then [.flow] else [])) ∧
  (∀ (count : Nat) (c : FlowCfg) (s : State), s.flow.cfg = some c → s.flowWaits = false → s.flow.calibrated = false → s.flow.shots = [] → 1 ≤ c.npair → 7000 ≤ count → count ≤ 8600 → s.flag (R.BRIDGE.CLKSTAT.LFXO_RUN .app) = true → Completes (.flowCalibration count) s fun t =>
      t.flow = { s.flow with calibrated := true, sending := some (if c.order then 2 else 1) } ∧ t.rd R.FLOW.CAL.FOSC_CNT = count) ∧
  (∀ (count : Nat) (s : State), s.flow.cfg ≠ none → s.flowWaits = false → s.flow.calibrated = false → count < 7000 → Completes (.flowCalibration count) s fun t =>
      t.flow.cfg = none ∧ t.rd R.FLOW.STATUS.CAL_FAIL = 1 ∧ t.rd R.FLOW.STATUS.FAULT = 1 ∧ t.rd R.FLOW.STATUS.DONE = 1 ∧ t.rd R.FLOW.STATUS.GOOD = 0) ∧
  (∀ (s : State), s.flow.cfg ≠ none → s.flowWaits = false → s.flow.shots = [] → Completes (.flowVusLow) s fun t =>
      t.flow.cfg = none ∧ t.rd R.FLOW.STATUS.VUS_LOW = 1 ∧ t.rd R.FLOW.STATUS.FAULT = 1 ∧ t.rd R.FLOW.STATUS.DONE = 1) ∧
  (∀ (rises peaks : List Nat) (ch : Nat) (x : FlowShot) (c : FlowCfg) (s : State), s.flow.cfg = some c → s.flow.sending = some ch → shotOf c (s.rd (thrFld (ch == 1))) (halfWaves rises peaks) = some x → isSlip c (s.rd (tofExpFld (ch == 1))) x.tof = false → Completes (.flowShot rises peaks false false) s fun t =>
      t.flow.shots = s.flow.shots ++ [x] ∧ x.good = true ∧ t.flow.cfg = some c ∧ t.rd (tofExpFld (ch == 1)) = x.tof ∧
      t.flow.sending = (if s.flow.shots.length + 1 < 2 * c.npair then some (if isDownstream c.order (s.flow.shots.length + 1) then 1 else 2) else none)) ∧
  (∀ (rises peaks : List Nat) (ch : Nat) (c : FlowCfg) (s : State), s.flow.cfg = some c → s.flow.sending = some ch → shotOf c (s.rd (thrFld (ch == 1))) (halfWaves rises peaks) = none → Completes (.flowShot rises peaks false false) s fun t =>
      t.flow.shots = s.flow.shots ++ [{ tof := 0, amp := 0, good := false }] ∧ t.flow.cfg = some c ∧
      (s.rd R.FLOW.COUNTS.NOECHO + 1 < 2 ^ R.FLOW.COUNTS.NOECHO.width → t.rd R.FLOW.COUNTS.NOECHO = s.rd R.FLOW.COUNTS.NOECHO + 1)) ∧
  (∀ (rises peaks : List Nat) (opened shorted : Bool) (ch : Nat) (c : FlowCfg) (s : State), s.flow.cfg = some c → s.flow.sending = some ch → (opened || shorted) = true → Completes (.flowShot rises peaks opened shorted) s fun t =>
      t.flow.cfg = none ∧ t.flow.shots = [] ∧ t.flow.sending = none ∧ t.rd R.FLOW.STATUS.DONE = 1 ∧ t.rd R.FLOW.STATUS.FAULT = 1 ∧
      t.rd R.FLOW.STATUS.DRV_CH = (if ch = 2 then 1 else 0) ∧ t.rd (if opened then R.FLOW.STATUS.DRV_OPEN else R.FLOW.STATUS.DRV_SHORT) = 1) ∧
  (∀ (c : FlowCfg) (s : State), s.flow.cfg = some c → 2 * c.npair ≤ s.flow.shots.length → s.flag (R.BRIDGE.CLKSTAT.LFXO_RUN .app) = true → Completes (.flowSequenceDone) s fun t =>
      t.flow.cfg = none ∧ t.flow.shots = [] ∧ t.rd R.FLOW.STATUS.DONE = 1 ∧ t.rd R.FLOW.STATUS.GOOD = (goodPairs c.order s.flow.shots).length % 2 ^ R.FLOW.STATUS.GOOD.width) ∧
  (∀ (c : FlowCfg) (s : State), s.flow.cfg = some c → Completes (.flowAbort) s fun t =>
      t.flow.cfg = none ∧ t.flow.shots = [] ∧ t.rd R.FLOW.STATUS.ABORTED = 1 ∧ t.rd R.FLOW.STATUS.BUSY = 0)

/-- A start of a scan, of the continuity test or of a flow sequence changes only the flags of its block, the busy and owner flags of the MADC and the jobs; the legal memory, the logs and every result register are unchanged. -/
def Obligations.SensingFrames : Prop :=
  (∀ (s : State), Always (.stripStart) s fun t =>
      Frame ([R.MADC.STATUS.BUSY, R.MADC.STATUS.OWNER, R.MADC.STATUS.QUEUED, R.STRIP.STATUS.BUSY, R.PT.STATUS.BUSY, R.FLOW.STATUS.QUEUED, R.FLOW.STATUS.BUSY] ++ [R.STRIP.STATUS.REJECT, R.STRIP.STATUS.VALID, R.STRIP.STATUS.IMPL, R.STRIP.STATUS.OVR, R.STRIP.DIAG.TAP_SUSPECT, R.STRIP.DIAG.CELL_SUSPECT, R.STRIP.DIAG.CLASS]) (fun s t => { t with regs := s.regs, madcRun := s.madcRun, madcQueue := s.madcQueue, flow := s.flow }) s t) ∧
  (∀ (s : State), Always (.stripCont) s fun t =>
      Frame ([R.MADC.STATUS.BUSY, R.MADC.STATUS.OWNER, R.MADC.STATUS.QUEUED, R.STRIP.STATUS.BUSY, R.PT.STATUS.BUSY, R.FLOW.STATUS.QUEUED, R.FLOW.STATUS.BUSY] ++ [R.STRIP.STATUS.REJECT]) (fun s t => { t with regs := s.regs, madcRun := s.madcRun, madcQueue := s.madcQueue, flow := s.flow }) s t) ∧
  (∀ (s : State), Always (.ptStart) s fun t =>
      Frame ([R.MADC.STATUS.BUSY, R.MADC.STATUS.OWNER, R.MADC.STATUS.QUEUED, R.STRIP.STATUS.BUSY, R.PT.STATUS.BUSY, R.FLOW.STATUS.QUEUED, R.FLOW.STATUS.BUSY] ++ [R.PT.STATUS.REJECT]) (fun s t => { t with regs := s.regs, madcRun := s.madcRun, madcQueue := s.madcQueue, flow := s.flow }) s t) ∧
  (∀ (s : State), Always (.flowStart) s fun t =>
      Frame ([R.MADC.STATUS.BUSY, R.MADC.STATUS.OWNER, R.MADC.STATUS.QUEUED, R.STRIP.STATUS.BUSY, R.PT.STATUS.BUSY, R.FLOW.STATUS.QUEUED, R.FLOW.STATUS.BUSY] ++ R.FLOW.STATUS.REJECT :: flowFlags) (fun s t => { t with regs := s.regs, madcRun := s.madcRun, madcQueue := s.madcQueue, flow := s.flow }) s t)

/-- A sample of a channel whose lead is not selected for it reads 65,535 and holds the channel in IDLE; of one whose lead is, a sample near the baseline of an IDLE channel moves the baseline one tracking step; the sample at which MAX_ON has passed takes a touched channel to STUCK with its flag; a recalibration is taken up for each channel named; a tamper condition that holds for DEB samples shows its level, triggers and counts; the pump becomes ready, fails with its event, or is started again; VLCD follows its target within 30 mV; SWAP is set and, at a frame boundary, cleared with the segment data shown. A start of the energy check sets BUSY and ends FRESH; its end stores VLOAD and passes at or above the threshold, below which it fails with its event; a ladder sample that falls due in a check waits, and is taken as the check ends; FRESH ends with its time; EVQ_POP drops the oldest MET event. -/
def Obligations.TouchTamperAndDisplay : Prop :=
  (∀ (n raw : Nat) (s : State), s.leadOwner n = 2 → s.seqRuns = true → n < 4 → s.rdBit R.TOUCH.CFG.EN n = true → raw < 0xFFFF → s.seqr.touch.length = 4 → (s.touchCh n).up = true → (s.touchCh n).recal = false → s.touchState n = tIdle → s.rd (R.TOUCH.BASE.BASE n) < 2 ^ 16 → s.rd (R.TOUCH.BASE.BASE n) < raw + s.negThr → raw < s.rd (R.TOUCH.BASE.BASE n) + s.onThr → Completes (.touchSample n raw) s fun t =>
      t.rd (R.TOUCH.RAW.RAW n) = raw ∧ t.rd (R.TOUCH.BASE.BASE n) = trackStep (s.rd (R.TOUCH.BASE.BASE n)) raw s.trackK ∧ t.logs = s.logs) ∧
  (∀ (n raw : Nat) (s : State), s.leadOwner n = 2 → s.seqRuns = true → n < 4 → s.rdBit R.TOUCH.CFG.EN n = true → raw < 0xFFFF → s.seqr.touch.length = 4 → (s.touchCh n).up = true → (s.touchCh n).recal = false → s.touchState n = tTouched → s.rd (R.TOUCH.BASE.BASE n) + s.offThr ≤ raw → Completes (.touchStuck n raw) s fun t =>
      t.touchState n = tStuck ∧ t.rdBit R.TOUCH.STATUS.STUCK n = true ∧ t.rd (R.TOUCH.RAW.RAW n) = raw) ∧
  (∀ (n raw : Nat) (s : State), s.leadOwner n ≠ 2 → s.seqRuns = true → n < 4 → s.rdBit R.TOUCH.CFG.EN n = true → Completes (.touchSample n raw) s fun t =>
      t.rd (R.TOUCH.RAW.RAW n) = 0xFFFF ∧ t.touchState n = tIdle ∧ t.rdBit R.TOUCH.STATUS.OVR n = true ∧ t.rd (R.TOUCH.BASE.BASE n) = s.rd (R.TOUCH.BASE.BASE n) ∧ t.logs = s.logs) ∧
  (∀ (mask : Nat) (s : State), s.seqRuns = true → s.seqr.touch.length = 4 → Completes (.touchCmdRecal mask) s fun t =>
      ∀ n ∈ List.range 4, (t.touchCh n).recal = (bit mask n || (s.touchCh n).recal)) ∧
  (∀ (n : Nat) (s : State), s.seqRuns = true → n < 2 → s.tamperMode n = 1 → s.seqr.tamper.length = 2 → (s.tamperIn n).last = some true → (s.tamperIn n).active = false → s.rd R.TAMPER.CFG.DEB ≤ min 7 ((s.tamperIn n).run + 1) → s.flag (if n = 0 then R.TAMPER.STATUS.TRIG0 else R.TAMPER.STATUS.TRIG1) = false → Completes (.tamperSample n true) s fun t =>
      t.rd (if n = 0 then R.TAMPER.STATUS.LEVEL0 else R.TAMPER.STATUS.LEVEL1) = 1 ∧ t.rd (if n = 0 then R.TAMPER.STATUS.TRIG0 else R.TAMPER.STATUS.TRIG1) = 1 ∧
      t.rd (if n = 0 then R.TAMPER.TIME0.TIME else R.TAMPER.TIME1.TIME) = (s.metMirror.find R.AON.RTC_SEC.SEC.key).getD R.AON.RTC_SEC.SEC.rst % 2 ^ 32 ∧ (t.tamperIn n).active = true) ∧
  (∀ (mv : Nat) (s : State), s.seqr.pump = .starting → Completes (.lcdReady mv) s fun t =>
      t.seqr.pump = .running ∧ t.rd R.LCD.STATUS.READY = 1 ∧ t.rd R.LCD.STATUS.VLCD_MV = mv % 2 ^ R.LCD.STATUS.VLCD_MV.width) ∧
  (∀ (mv : Nat) (s : State), s.seqr.pump = .starting ∨ s.seqr.pump = .running → Completes (.lcdPumpFail mv) s fun t =>
      t.seqr.pump = .failed ∧ t.rd R.LCD.STATUS.READY = 0 ∧ t.rd R.LCD.STATUS.PUMP_FAIL = 1 ∧ Logged s t 0x0360 []) ∧
  (∀ (s : State), s.seqr.pump = .failed → s.flag R.LCD.CFG.EN = true → Completes (.lcdPumpRetry) s fun t =>
      t.seqr.pump = .starting ∧ t.rd R.LCD.STATUS.READY = 0) ∧
  (∀ (temp err : Int) (s : State), s.seqr.pump = .running → Completes (.lcdTempSample temp err) s fun t =>
      t.rd R.LCD.STATUS.VLCD_MV ≤ s.vlcdTarget temp + 30 ∧ s.vlcdTarget temp ≤ t.rd R.LCD.STATUS.VLCD_MV + 30) ∧
  (∀ (s : State), s.seqRuns = true → Completes (.swap) s fun t =>
      t = s.wr R.LCD.CTRL.SWAP 1) ∧
  (∀ (s : State), s.seqRuns = true → s.flag R.LCD.CTRL.SWAP = true → Completes (.swapCopy) s fun t =>
      t.rd R.LCD.CTRL.SWAP = 0 ∧ t.seqr.shown = (List.range 4).map (fun n => s.rd (R.LCD.SEG_COM.SEG n))) ∧
  (∀ (s : State), s.variant ≠ .c → s.flag R.MPWR.ECHK.BUSY = false → s.metRuns = true → Completes (.echkStart) s fun t =>
      t.rd R.MPWR.ECHK.BUSY = 1 ∧ t.rd R.MPWR.ECHK.FRESH = 0) ∧
  (∀ (vload : Nat) (s : State), s.flag R.MPWR.ECHK.BUSY = true → s.vEchk ≤ min 4095 vload → s.supply.due = none → Completes (.echkDone vload) s fun t =>
      t.rd R.MPWR.ECHK.BUSY = 0 ∧ t.rd R.MPWR.ECHK.PASS = 1 ∧ t.rd R.MPWR.ECHK.FRESH = 1 ∧ t.rd R.MPWR.ECHK.VLOAD = min 4095 vload) ∧
  (∀ (vload : Nat) (s : State), s.flag R.MPWR.ECHK.BUSY = true → min 4095 vload < s.vEchk → s.supply.due = none → Completes (.echkDone vload) s fun t =>
      t.rd R.MPWR.ECHK.BUSY = 0 ∧ t.rd R.MPWR.ECHK.PASS = 0 ∧ t.rd R.MPWR.ECHK.FAIL = 1 ∧ Logged s t 0x0108 (leBytes 2 (min 4095 vload) ++ leBytes 2 s.vEchk)) ∧
  (∀ (vload : Nat) (m : MonitorSample) (s : State), s.flag R.MPWR.ECHK.BUSY = true → s.supply.due = some m → m.upsets = [] → s.vEchk ≤ min 4095 vload → s.samples = true → s.copies = [] → s.level = 0 → (∀ n ∈ List.range 7, s.threshold (n + 1) ≤ s.vComp m.vmeas) → Completes (.echkDone vload) s fun t =>
      t.rd R.MPWR.ECHK.BUSY = 0 ∧ t.rd R.MPWR.ECHK.PASS = 1 ∧ t.rd R.MPWR.ECHK.VLOAD = min 4095 vload ∧ t.rd R.PWR.LADDER.VBAT_COMP = min 4095 (s.vComp m.vmeas) ∧ t.supply.due = none ∧ t.supply.below = [0, 0, 0, 0, 0, 0, 0] ∧ t.level = 0) ∧
  (∀ (vmeas onAir : Nat) (upsets : List Upset) (s : State), s.samples = true → s.flag R.MPWR.ECHK.BUSY = true → Completes (.supplyMonitorSample vmeas upsets onAir) s fun t =>
      t = { s with supply := { s.supply with due := some { vmeas := vmeas, upsets := upsets, onAir := onAir } } }) ∧
  (∀ (s : State), Completes (.echkFreshEnd) s fun t =>
      t = s.wr R.MPWR.ECHK.FRESH 0) ∧
  (∀ (s : State), s.variant ≠ .c → s.logs.met.length ≤ 16 → s.metRuns = true → Completes (.evqPop) s fun t =>
      t.logs.met = s.logs.met.tail ∧ t.rd R.MSYSCTL.EVQ_STATUS.COUNT = s.logs.met.tail.length ∧ t.logs.sys = s.logs.sys)

/-- Each changes only its own status fields, the sequencer's state, and for a failure the logs; every other register and all memory are unchanged. The energy check, where no sample waits for its end, and EVQ_POP change their own fields and the MET queue alike. -/
def Obligations.PanelFrames : Prop :=
  (∀ (mv : Nat) (s : State), Always (.lcdReady mv) s fun t =>
      Frame ([R.LCD.STATUS.VLCD_MV, R.LCD.STATUS.READY]) (fun s t => { putLogs s t with seqr := s.seqr }) s t) ∧
  (∀ (mv : Nat) (s : State), Always (.lcdPumpFail mv) s fun t =>
      Frame ([R.LCD.STATUS.VLCD_MV, R.LCD.STATUS.READY, R.LCD.STATUS.PUMP_FAIL] ++ logFields) (fun s t => { putLogs s t with seqr := s.seqr }) s t) ∧
  (∀ (s : State), Always (.lcdPumpRetry) s fun t =>
      Frame ([R.LCD.STATUS.READY]) (fun s t => { putLogs s t with seqr := s.seqr }) s t) ∧
  (∀ (temp err : Int) (s : State), Always (.lcdTempSample temp err) s fun t =>
      Frame ([R.LCD.STATUS.VLCD_MV]) (fun s t => { putLogs s t with seqr := s.seqr }) s t) ∧
  (∀ (s : State), Always (.swapCopy) s fun t =>
      Frame ([R.LCD.CTRL.SWAP]) (fun s t => { putLogs s t with seqr := s.seqr }) s t) ∧
  (∀ (mask : Nat) (s : State), Always (.touchCmdRecal mask) s fun t =>
      Frame ([]) (fun s t => { putLogs s t with seqr := s.seqr }) s t) ∧
  (∀ (s : State), Always (.echkStart) s fun t =>
      Frame ([R.MPWR.ECHK.BUSY, R.MPWR.ECHK.FRESH]) (fun s t => { putLogs s t with seqr := s.seqr }) s t) ∧
  (∀ (vload : Nat) (s : State), s.supply.due = none → Always (.echkDone vload) s fun t =>
      Frame ([R.MPWR.ECHK.VLOAD, R.MPWR.ECHK.BUSY, R.MPWR.ECHK.PASS, R.MPWR.ECHK.FRESH, R.MPWR.ECHK.FAIL] ++ bothLogFields) (fun s t => { putLogs s t with seqr := s.seqr }) s t) ∧
  (∀ (s : State), Always (.evqPop) s fun t =>
      Frame ([R.MSYSCTL.EVQ_STATUS.COUNT]) (fun s t => { putLogs s t with seqr := s.seqr }) s t)

/-- With MCORE running and its flash idle, and no flash operation failing: the CMAC routine leaves the CMAC of its message; MF_PROGRAM programs the data at its address, MF_ERASE leaves its block 0xFF; JOURNAL_COMMIT in a blank journal writes a record with SEQ 1, MAGIC and COMMIT into slot 0; EVLOG_APPEND writes its entry at the cursor and moves it; LIMG_CHUNK writes its payload into the slot that is not active; LIMG_CHECK answers the check; LIMG_SWITCH appends an entry that names the image. Each answers 0, and what it does not write stays but for the routine area of MSRAM. Each reads its operands where the loads do not fault, and works with no command sequence under way and the level above L5. -/
def Obligations.MromRoutines : Prop :=
  (∀ (a0 a1 a2 a3 : Nat) (s : State), s.mayCall = true → s.loadFault .met a2 (if a3 % 2 = 1 then 32 else 16) = none → s.loadFault .met a0 a1 = none → Completes (.mromCmac a0 a1 a2 a3) s fun t =>
      t.mrom.tag = cmacOf (s.metBytes a2 (if a3 % 2 = 1 then 32 else 16)) (s.metBytes a0 a1) ∧ SameMemory s t ∧ SameElsewhere [0x48004000] bothLogFields s t ∧ (fun s t => { putLogs s t with mrom := s.mrom, freeCtr := s.freeCtr }) s t = s) ∧
  (∀ (a0 a1 : Nat) (s : State), s.mayCall = true → s.metFlash = none → a0 % 8 = 0 → 0x40000 ≤ a0 → a0 + 8 ≤ 0x60000 → s.mflashProtected (mflashRegion (blockOf 3 a0)) = false → s.dwordErased (metPhys + a0) = true → s.flashSeqs = [] → s.level < 5 → s.loadFault .met a1 8 = none → Completes (.mfProgram a0 a1 1 []) s fun t =>
      t.mrom.result = 0 ∧ (∀ i ∈ List.range 8, t.byte (metPhys + a0 + i) = s.byte (s.physical .met a1 + i)) ∧
      SameMemoryButRoutine (metPhys + a0) 8 s t) ∧
  (∀ (b : Nat) (s : State), s.mayCall = true → s.metFlash = none → b < 32 → s.mflashProtected (mflashRegion b) = false → s.flashSeqs = [] → s.level < 5 → Completes (.mfErase b []) s fun t =>
      t.mrom.result = 0 ∧ (∀ i ∈ List.range 0x1000, t.byte (metPhys + blockBase 3 b + i) = 0xFF#8) ∧
      SameMemoryButRoutine (metPhys + blockBase 3 b) 0x1000 s t) ∧
  (∀ (a0 a1 : Nat) (s : State), s.mayCall = true → s.metFlash = none → 0x20000000 ≤ a0 → a0 + 256 ≤ 0x20004000 → recordBounds ((s.metBytes a0 256).getD 3 0) (leNat (((s.metBytes a0 256).drop 8).take 2)) = true → s.erasedRun 0x58000 1024 = true → s.mflashProtected 2 = false → s.flashSeqs = [] → s.level < 5 → s.loadFault .met a0 256 = none → s.loadFault .met a1 32 = none → Completes (.journalCommit a0 a1 []) s fun t =>
      t.mrom.result = 0 ∧ t.mrom.journal = true ∧ t.load (metPhys + 0x58000) 2 = 0x434A ∧ t.load (metPhys + 0x58004) 4 = 1 ∧
      t.load (metPhys + 0x580F8) 8 = 0x434AA5C3) ∧
  (∀ (a0 a1 a2 a3 a4 pos seq : Nat) (s : State), s.mayCall = true → s.metFlash = none → a3 % 256 ≤ 12 → s.mrom.cursor = some (pos, seq) → pos < 512 → pos % 128 ≠ 0 → seq < 0xFFFFFFFF → s.erasedRun (logEntryBase pos) 4 = true → s.mflashProtected 3 = false → s.flashSeqs = [] → s.level < 5 → s.loadFault .met a2 (a3 % 256) = none → s.loadFault .met a4 32 = none → Completes (.evlogAppend a0 a1 a2 a3 a4 []) s fun t =>
      t.mrom.result = 0 ∧ t.mrom.cursor = some ((pos + 1) % 512, seq + 1) ∧ t.load (metPhys + logEntryBase pos) 4 = seq ∧
      t.load (metPhys + logEntryBase pos + 4) 4 = a1 % 2 ^ 32 ∧ t.load (metPhys + logEntryBase pos + 8) 2 = a0 % 2 ^ 16 ∧
      SameMemoryButRoutine (metPhys + logEntryBase pos) 32 s t) ∧
  (∀ (slot a : Nat) (h : List Nat) (s : State), s.mayCall = true → s.metFlash = none → s.mrom.noImage = false → h = s.bytes (slotAddr slot) 16 → (s.slot slot).owner = ownMet → chunkOk h (s.slot slot).len = true → bit (h.getD 3 0) 0 = false → h.getD 2 0 ≠ s.rd R.MFLASHC.MPROT.ACTIVE → leNat ((h.drop 4).take 2) = 8 → a = imgBase (h.getD 2 0) + leNat ((h.drop 8).take 4) → a ≠ imgBase (h.getD 2 0) + 0xBFF8 → s.mflashProtected (mflashRegion (blockOf 3 a)) = false → s.dwordErased (metPhys + a) = true → allOnes (s.bytes (slotAddr slot + 16) 8) = false → s.flashSeqs = [] → s.level < 5 → s.variant ≠ .c → Completes (.limgChunk slot []) s fun t =>
      t.mrom.result = 0 ∧ (∀ i ∈ List.range 8, t.byte (metPhys + a + i) = s.byte (slotAddr slot + 16 + i)) ∧
      SameMemoryButRoutine (metPhys + a) 8 s t) ∧
  (∀ (g : Nat) (s : State), s.mayCall = true → g = 1 ∨ g = 2 → s.metFlash = none → Completes (.limgCheck g) s fun t =>
      t.mrom.result = s.imgCheck g false ∧ SameElsewhere [0x48004000] (R.MPWR.WDT.REMAIN :: bothLogFields) s t) ∧
  (∀ (g i : Nat) (s : State), s.mayCall = true → s.metFlash = none → g = 1 ∨ g = 2 → s.mflashProtected 4 = false → s.freeSwitch = some i → s.imgCheck g true = 0 → s.dwordErased (metPhys + imgBase g + 0xBFF8) = false → (∀ c ∈ s.mrom.cursor, c.1 < 512) → s.flashSeqs = [] → s.level < 5 → Completes (.limgSwitch g []) s fun t =>
      t.mrom.result = 0 ∧ t.switchEntry i = some (s.imgGen g, g))

/-- IMAGE_CHECK answers whether a twin's TAG matches; PW_TAG stores the check value of a password; KEY_UNWRAP of a record that verifies loads its slot with size, attributes and unwrapped key and empties the session slots; WMB_DECRYPT of a telegram that verifies stores its plaintext; APP_SELECT answers the one valid bank and counts its trial, or 3; the loader answers INFO, UNLOCK, ERASE, WRITE and BOOT with their effects, a request with a wrong CRC only with status 1; after a minute of silence it sleeps with wake causes 3 and 4 enabled. What a routine loads with a bit error is recorded by the flash controller. -/
def Obligations.BootRomRoutinesAndLoader : Prop :=
  (∀ (twin : Nat) (s : State), s.appRuns = true → twin < 2 → (s.romCall.takesTwin twin).code = 0 → Completes (.imageCheck twin) s fun t =>
      t.boot.result = (if s.twinTag twin then 0 else 1) ∧ SameElsewhere [0x40003000] logFields s t ∧ SameMemory s t ∧ putLogs s { t with boot := s.boot, freeCtr := s.freeCtr } = s) ∧
  (∀ (a0 a1 : Nat) (s : State), s.appRuns = true → s.otp.bad = false → 0x20000000 ≤ a1 → a1 + 16 ≤ 0x20020000 → (s.romCall.takes a0 16).code = 0 → Completes (.pwTag a0 a1) s fun t =>
      t.boot.tag = s.passwordTag (s.appBytes a0 16) ∧ (∀ i ∈ List.range 16, (t.byte (a1 + i)).toNat = t.boot.tag.getD i 0) ∧ SameMemoryOutside a1 16 s t) ∧
  (∀ (a0 : Nat) (r : List Nat) (s : State), s.appRuns = true → s.otp.bad = false → s.cmac.keys.length = 10 → r = s.appBytes a0 64 → unwrapFormat r = true → cmacOf (s.rootDerive labelWmac) (s.unitIdBytes ++ r.take 0x30) = (r.drop 0x30).take 16 → (s.romCall.takes a0 64).code = 0 → Completes (.keyUnwrap a0) s fun t =>
      t.boot.result = 0 ∧ t.flag (R.CMACE.SLOT.VALID (r.getD 0 0)) = true ∧ t.rd (R.CMACE.SLOT.SIZE (r.getD 0 0)) = r.getD 1 0 ∧
      t.rd (R.CMACE.SLOT.ATTR (r.getD 0 0)) = r.getD 2 0 ∧
      t.keyBytes (r.getD 0 0) = kstream (s.rootDerive labelWrap) (unwrapTemplate r) ((r.drop 16).take (if r.getD 1 0 = 1 then 32 else 16)) ∧
      t.flag (R.CMACE.SLOT.VALID 8) = false ∧ t.flag (R.CMACE.SLOT.VALID 9) = false ∧ Logged s t 0x0761 [r.getD 0 0]) ∧
  (∀ (a0 a1 count : Nat) (p : List Nat) (s : State), s.appRuns = true → 0x20000000 ≤ a1 → a1 + 16 ≤ 0x20020000 → s.wmbOpen (s.appBytes a0 (1 + (s.appBytes a0 1).getD 0 0)) = some (p, count) → p.length = 16 → (s.romCall.takes a0 (1 + (s.appBytes a0 1).getD 0 0)).code = 0 → Completes (.wmbDecrypt a0 a1) s fun t =>
      t.boot.result = 0 ∧ t.boot.tag = leBytes 4 count ∧ (∀ i ∈ List.range 16, (t.byte (a1 + i)).toNat = p.getD i 0 % 256) ∧ SameMemoryOutside a1 16 s t) ∧
  (∀ (b : Nat) (s : State), s.appRuns = true → b < 2 → s.imageValid b = true → s.imageValid (1 - b) = false → ((s.romCall.takesImage 0).takesImage 1).code = 0 → Completes (.appSelect) s fun t =>
      t.boot.result = b ∧ (s.onTrial b = true → t.rd R.UPDATE.TRIAL.COUNT = min 15 (s.rd R.UPDATE.TRIAL.COUNT + 1)) ∧
      (s.onTrial b = false → SameElsewhere [0x40003000] logFields s t ∧ SameMemory s t ∧ putLogs s { t with boot := s.boot, freeCtr := s.freeCtr } = s)) ∧
  (∀ (s : State), s.appRuns = true → s.imageValid 0 = false → s.imageValid 1 = false → ((s.romCall.takesImage 0).takesImage 1).code = 0 → Completes (.appSelect) s fun t =>
      t.boot.result = 3 ∧ SameElsewhere [0x40003000] logFields s t ∧ SameMemory s t ∧ putLogs s { t with boot := s.boot, freeCtr := s.freeCtr } = s) ∧
  (∀ (crc : Nat) (s : State), s.boot.loader = true → s.boot.sleeping = false → s.appRuns = true → crc = loaderCrc [1, 0] → Completes (.loaderInfo [] crc) s fun t =>
      t = s.loaderReply 1 0 (leBytes 4 (typeId s.variant + 2 ^ 16 * s.rd R.SYSCTL.ID.REV) ++ leBytes 8 s.otp.unitId ++ leBytes 4 (wordOf s.rd (regFields R.AON.BOOT_STATUS.TWIN.addr)))) ∧
  (∀ (crc mask : Nat) (pw : List Nat) (s : State), s.boot.loader = true → s.boot.sleeping = false → s.appRuns = true → pw.length = 16 → mask < 512 → crc = loaderCrc ([2, 18] ++ pw ++ leBytes 2 mask) → s.flag R.FLASHC.PROT_STATUS.LOCKOUT = false → s.flag R.FLASHC.PROT_STATUS.MAP_LOST = false → s.tagBlank = true → s.rd R.FLASHC.PROT_STATUS.LIFTED < 512 → Completes (.loaderUnlock (pw ++ leBytes 2 mask) crc) s fun t =>
      t.rd R.FLASHC.PROT_STATUS.LIFTED = s.rd R.FLASHC.PROT_STATUS.LIFTED ||| mask ∧ (∀ n ∈ List.range 4, t.rd (R.FLASHC.PW.PW n) = 0) ∧ Logged s t 0x0730 [] ∧
      t.boot.reply = [0xAA, 2, 0, 0] ++ beBytes 2 (loaderCrc [2, 0, 0])) ∧
  (∀ (crc n : Nat) (s : State), s.boot.loader = true → s.boot.sleeping = false → s.appRuns = true → n < 2 → crc = loaderCrc [3, 1, n] → s.regionWritable n = true → s.flashClosed .app = false → s.flashSeq 2 = none → Completes (.loaderErase [n] crc []) s fun t =>
      (∀ i ∈ List.range 0x4000, t.byte (twinBase n + i) = 0xFF#8) ∧ SameMemoryOutside (twinBase n) 0x4000 s t ∧ t.boot.reply = [0xAA, 3, 0, 0] ++ beBytes 2 (loaderCrc [3, 0, 0])) ∧
  (∀ (crc n off : Nat) (d : List Nat) (s : State), s.boot.loader = true → s.boot.sleeping = false → s.appRuns = true → n < 2 → off % 8 = 0 → off + 8 ≤ 0x4000 → d.length = 8 → (∀ b ∈ d, b < 256) → crc = loaderCrc ([4, 12, n, 0] ++ leBytes 2 off ++ d) → s.regionWritable n = true → s.flashClosed .app = false → s.dwordErased (twinBase n + off) = true → s.flashSeq 2 = none → Completes (.loaderWrite ([n, 0] ++ leBytes 2 off ++ d) crc []) s fun t =>
      (∀ i ∈ List.range 8, (t.byte (twinBase n + off + i)).toNat = d.getD i 0) ∧ SameMemoryOutside (twinBase n + off) 8 s t ∧ t.boot.reply = [0xAA, 4, 0, 0] ++ beBytes 2 (loaderCrc [4, 0, 0])) ∧
  (∀ (crc : Nat) (s : State), s.boot.loader = true → s.boot.sleeping = false → s.appRuns = true → crc = loaderCrc [5, 0] → s.trailerOk 0 = false → s.trailerOk 1 = false → Completes (.loaderBoot [] crc) s fun t =>
      t.rd R.AON.BOOT_STATUS.TWIN = 3 ∧ t.rd R.AON.BOOT_STATUS.LOADER = 1 ∧ t.rd R.AON.BOOT_STATUS.A_STATE = 2 ∧ t.rd R.AON.BOOT_STATUS.B_STATE = 2 ∧ t.boot.loader = true ∧ t.boot.reply = [0xAA, 5, 0, 0] ++ beBytes 2 (loaderCrc [5, 0, 0])) ∧
  (∀ (s : State), s.boot.loader = true → s.boot.sleeping = false → s.appRuns = true → Completes (.loaderIdleTimeout) s fun t =>
      t.boot.sleeping = true ∧ t.rd (R.PWR.WAKE_EN.EN .app) = (s.rd (R.PWR.WAKE_EN.EN .app) ||| 12) % 2 ^ (R.PWR.WAKE_EN.EN .app).width ∧ t.rd R.PWR.REST.APP_OFF = 1) ∧
  (∀ (crc : Nat) (p : List Nat) (s : State), s.boot.loader = true → s.boot.sleeping = false → s.appRuns = true → crc ≠ loaderCrc ([1, p.length] ++ p) → Completes (.loaderInfo p crc) s fun t =>
      t = s.loaderReply 1 1 []) ∧
  (∀ (crc : Nat) (p : List Nat) (s : State), s.boot.loader = true → s.boot.sleeping = false → s.appRuns = true → crc ≠ loaderCrc ([5, p.length] ++ p) → Completes (.loaderBoot p crc) s fun t =>
      t = s.loaderReply 5 1 []) ∧
  (∀ (crc : Nat) (p : List Nat) (s : State), s.boot.loader = true → s.boot.sleeping = false → s.appRuns = true → crc ≠ loaderCrc ([2, p.length] ++ p) → Completes (.loaderUnlock p crc) s fun t =>
      t = s.loaderReply 2 1 []) ∧
  (∀ (crc : Nat) (p ops : List Nat) (s : State), s.boot.loader = true → s.boot.sleeping = false → s.appRuns = true → crc ≠ loaderCrc ([3, p.length] ++ p) → Completes (.loaderErase p crc ops) s fun t =>
      t = s.loaderReply 3 1 []) ∧
  (∀ (crc : Nat) (p ops : List Nat) (s : State), s.boot.loader = true → s.boot.sleeping = false → s.appRuns = true → crc ≠ loaderCrc ([4, p.length] ++ p) → Completes (.loaderWrite p crc ops) s fun t =>
      t = s.loaderReply 4 1 [])

/-- A load puts the bytes of KEY_DATA, unwrapped where WRAP asks, into a slot with its size and attributes, clears KEY_DATA and is logged; slot 0 is refused; an erase clears VALID; a job that passes the checks of START enters the BACKGROUND context with BUSY set, one that fails ends at once with its result; a MAC job leaves its tag, a VERIFY job PASS; a preemption suspends and counts; an abort ends with its result; a frame counter takes a value that is not below its own. -/
def Obligations.KeysAndCmacJobs : Prop :=
  (∀ (ctl : Nat) (s : State), s.cmac.keys.length = 10 → 1 ≤ bitsOf ctl 0 3 → s.railPowered .app = true → Completes (.keyLoad ctl) s fun t =>
      t.flag (R.CMACE.SLOT.VALID (bitsOf ctl 0 3)) = true ∧ t.rd (R.CMACE.SLOT.SIZE (bitsOf ctl 0 3)) = bitsOf ctl 4 1 ∧
      t.rd (R.CMACE.SLOT.ATTR (bitsOf ctl 0 3)) = bitsOf ctl 8 4 ∧ t.keyBytes (bitsOf ctl 0 3) = s.keyData.take (if bitsOf ctl 4 1 = 1 then 32 else 16) ∧
      (∀ i ∈ List.range 8, t.rd (R.CMACE.KEY_DATA.DATA i) = 0) ∧ t.rd R.CMACE.KEY_STATUS.RESULT = 0 ∧ t.rd R.CMACE.KEY_STATUS.LOADED = 1 ∧ Logged s t 0x0761 [bitsOf ctl 0 3]) ∧
  (∀ (ctl : Nat) (s : State), bitsOf ctl 0 3 = 0 → s.railPowered .app = true → Completes (.keyLoad ctl) s fun t =>
      t.rd R.CMACE.KEY_STATUS.RESULT = 1 ∧ t.rd R.CMACE.KEY_STATUS.REFUSED = 1 ∧ t.cmac = s.cmac ∧ Logged s t 0x0762 []) ∧
  (∀ (ctl : Nat) (s : State), s.cmac.keys.length = 10 → 1 ≤ bitsOf ctl 0 3 → s.keyHas (8 + bitsOf ctl 13 1) attrPrf = true → 0x20 ≤ s.ivBytes.getD 0 0 → s.ivBytes.getD 0 0 ≤ 0x2F → s.railPowered .app = true → Completes (.keyWrappedLoad ctl) s fun t =>
      t.flag (R.CMACE.SLOT.VALID (bitsOf ctl 0 3)) = true ∧ t.rd (R.CMACE.SLOT.SIZE (bitsOf ctl 0 3)) = bitsOf ctl 4 1 ∧
      t.rd (R.CMACE.SLOT.ATTR (bitsOf ctl 0 3)) = bitsOf ctl 8 4 ∧ t.keyBytes (bitsOf ctl 0 3) = kstream (s.keyBytes (8 + bitsOf ctl 13 1)) s.ivBytes (s.keyData.take (if bitsOf ctl 4 1 = 1 then 32 else 16)) ∧
      (∀ i ∈ List.range 8, t.rd (R.CMACE.KEY_DATA.DATA i) = 0) ∧ t.rd R.CMACE.KEY_STATUS.RESULT = 0 ∧ t.rd R.CMACE.KEY_STATUS.LOADED = 1 ∧ Logged s t 0x0761 [bitsOf ctl 0 3]) ∧
  (∀ (ctl : Nat) (s : State), 1 ≤ bitsOf ctl 0 3 → s.railPowered .app = true → Completes (.keyErase ctl) s fun t =>
      t.rd (R.CMACE.SLOT.VALID (bitsOf ctl 0 3)) = 0 ∧ Frame [R.CMACE.SLOT.VALID (bitsOf ctl 0 3)] putRegs s t) ∧
  (∀ (s : State), s.flag R.CMACE.STATUS.BUSY = false → s.checkJob (s.registerJob 1 opMac) = (cmacOk, none) → s.railPowered .app = true → Completes (.jobMac 1) s fun t =>
      t.cmac.background = s.cmac.background ++ [s.registerJob 1 opMac] ∧ t.cmac.urgent = s.cmac.urgent ∧ t.rd R.CMACE.JOB_CTL.START = 1 ∧
      t.rd R.CMACE.JOB_CTL.OP = opMac ∧ t.rd R.CMACE.STATUS.BUSY = 1 ∧ t.rd R.CMACE.PROGRESS.BLOCKS = 0 ∧ SameMemory s t) ∧
  (∀ (s : State), s.flag R.CMACE.STATUS.BUSY = false → s.checkJob (s.registerJob 1 opVerify) = (cmacOk, none) → s.railPowered .app = true → Completes (.jobVerify 1) s fun t =>
      t.cmac.background = s.cmac.background ++ [s.registerJob 1 opVerify] ∧ t.cmac.urgent = s.cmac.urgent ∧ t.rd R.CMACE.JOB_CTL.START = 1 ∧
      t.rd R.CMACE.JOB_CTL.OP = opVerify ∧ t.rd R.CMACE.STATUS.BUSY = 1 ∧ t.rd R.CMACE.PROGRESS.BLOCKS = 0 ∧ SameMemory s t) ∧
  (∀ (s : State), s.flag R.CMACE.STATUS.BUSY = false → s.checkJob (s.registerJob 1 opChain) = (cmacOk, none) → s.railPowered .app = true → Completes (.jobChain 1) s fun t =>
      t.cmac.background = s.cmac.background ++ [s.registerJob 1 opChain] ∧ t.cmac.urgent = s.cmac.urgent ∧ t.rd R.CMACE.JOB_CTL.START = 1 ∧
      t.rd R.CMACE.JOB_CTL.OP = opChain ∧ t.rd R.CMACE.STATUS.BUSY = 1 ∧ t.rd R.CMACE.PROGRESS.BLOCKS = 0 ∧ SameMemory s t) ∧
  (∀ (s : State), s.flag R.CMACE.STATUS.BUSY = false → s.checkJob (s.registerJob 1 opKstream) = (cmacOk, none) → s.railPowered .app = true → Completes (.jobKstream 1) s fun t =>
      t.cmac.background = s.cmac.background ++ [s.registerJob 1 opKstream] ∧ t.cmac.urgent = s.cmac.urgent ∧ t.rd R.CMACE.JOB_CTL.START = 1 ∧
      t.rd R.CMACE.JOB_CTL.OP = opKstream ∧ t.rd R.CMACE.STATUS.BUSY = 1 ∧ t.rd R.CMACE.PROGRESS.BLOCKS = 0 ∧ SameMemory s t) ∧
  (∀ (s : State), s.flag R.CMACE.STATUS.BUSY = false → s.checkJob (s.registerJob 1 opDerive) = (cmacOk, none) → s.railPowered .app = true → Completes (.jobDerive 1) s fun t =>
      t.cmac.background = s.cmac.background ++ [s.registerJob 1 opDerive] ∧ t.cmac.urgent = s.cmac.urgent ∧ t.rd R.CMACE.JOB_CTL.START = 1 ∧
      t.rd R.CMACE.JOB_CTL.OP = opDerive ∧ t.rd R.CMACE.STATUS.BUSY = 1 ∧ t.rd R.CMACE.PROGRESS.BLOCKS = 0 ∧ SameMemory s t) ∧
  (∀ (r : Nat) (s : State), s.flag R.CMACE.STATUS.BUSY = false → s.checkJob (s.registerJob 1 opMac) = (r, none) → r ≠ cmacOk → s.railPowered .app = true → Completes (.jobMac 1) s fun t =>
      t.rd R.CMACE.STATUS.RESULT = r % 16 ∧ t.rd R.CMACE.STATUS.DONE = 1 ∧ t.rd R.CMACE.STATUS.ERR = 1 ∧ t.cmac = s.cmac) ∧
  (∀ (j : CmacJob) (r : List CmacJob) (s : State), s.cmac.urgent = [] → s.cmac.background = j :: r → j.user = 1 → s.jobReadFault j = none → j.op = opMac → s.flag (R.PWR.PACE_STATUS.UNDER .app) = false → Completes (.cmacJobEnd) s fun t =>
      (∀ n ∈ List.range 4, t.rd (R.CMACE.TAG.TAG n) = leNat (((cmacBlocks j.key (s.jobInput j) j.final).drop (4 * n)).take 4) % 2 ^ 32) ∧
      t.cmac.background = r ∧ t.rd R.CMACE.STATUS.RESULT = 0 ∧ t.rd R.CMACE.STATUS.DONE = 1 ∧ t.rd R.CMACE.JOB_CTL.START = 0 ∧ SameMemory s t) ∧
  (∀ (j : CmacJob) (r : List CmacJob) (s : State), s.cmac.urgent = [] → s.cmac.background = j :: r → j.user = 1 → s.jobReadFault j = none → j.op = opVerify → s.flag (R.PWR.PACE_STATUS.UNDER .app) = false → Completes (.cmacJobEnd) s fun t =>
      t.flag R.CMACE.STATUS.PASS = ((cmacBlocks j.key (s.jobInput j) j.final).take j.tlen == j.tag.take j.tlen) ∧
      (∀ n ∈ List.range 4, t.rd (R.CMACE.TAG.TAG n) = 0) ∧ t.cmac.background = r ∧ t.rd R.CMACE.STATUS.RESULT = 0 ∧ SameMemory s t) ∧
  (∀ (j u : CmacJob) (r us : List CmacJob) (s : State), s.cmac.background = j :: r → s.cmac.urgent = u :: us → s.cmac.suspended = false → s.rd R.CMACE.COUNTS.PREEMPTS + 1 < 2 ^ R.CMACE.COUNTS.PREEMPTS.width → s.flag (R.PWR.PACE_STATUS.UNDER .app) = false → Completes (.cmacPreempt) s fun t =>
      t.cmac.suspended = true ∧ t.cmac.background = s.cmac.background ∧ t.cmac.urgent = s.cmac.urgent ∧ t.rd R.CMACE.COUNTS.PREEMPTS = s.rd R.CMACE.COUNTS.PREEMPTS + 1 ∧
      t.flag R.CMACE.STATUS.SUSP = isRegisters j.user) ∧
  (∀ (blocks : Nat) (j : CmacJob) (s : State), s.cmac.background = [j] → j.user = 1 → j.op = opMac → s.flag (R.PWR.PACE_STATUS.UNDER .app) = false → Completes (.cmacAbort blocks) s fun t =>
      t.cmac.background = [] ∧ t.rd R.CMACE.STATUS.RESULT = 8 ∧ t.rd R.CMACE.STATUS.ERR = 1 ∧ t.rd R.CMACE.STATUS.DONE = 1 ∧ t.rd R.CMACE.STATUS.BUSY = 0 ∧ SameMemory s t) ∧
  (∀ (slot v : Nat) (s : State), slot = 2 ∨ slot = 5 → v < 2 ^ 32 → s.rd (fcntOf slot) ≤ v → s.railPowered .app = true → Completes (.fcntWrite slot v) s fun t =>
      t.rd (fcntOf slot) = v ∧ SameFields (fcntOf slot :: logFields) s t) ∧
  (∀ (slot v : Nat) (s : State), slot = 2 ∨ slot = 5 → v < s.rd (fcntOf slot) → Completes (.fcntWrite slot v) s fun t =>
      t = s)

/-- A channel enabled with a sound descriptor and no trigger runs, one with an unsound descriptor ends with cause 7; disabling, pausing and resuming show in its state and leave its registers, and with a unit outstanding only the bit of CFG changes; a trigger starts a waiting descriptor; a unit moves its bytes from source to destination and counts; a ring record moves whole into the ring and RING_WR follows; RING_RD takes a value inside the ring and ignores another. -/
def Obligations.DmaChannelsAndRing : Prop :=
  (∀ (ch : Nat) (s : State), ch < 8 → s.appOn = true → s.flag (R.DMA.CFG.EN ch) = false → s.flag (R.DMA.CFG.PAUSE ch) = false → s.ringMode ch = false → s.dmaCount ch ≠ 0 → s.dmaTrig ch = 0 → s.descRefused ch = false → s.unitOut ch = false → Completes (.dmaEnable ch) s fun t =>
      t.rd (R.DMA.CFG.EN ch) = 1 ∧ t.rd (R.DMA.STAT.STATE ch) = 2 ∧ ch ∈ t.dma.loaded ∧ (ch ∉ s.dma.started → ch ∈ t.dma.started) ∧ SameMemory s t) ∧
  (∀ (ch : Nat) (s : State), ch < 8 → s.appOn = true → s.flag (R.DMA.CFG.EN ch) = false → s.flag (R.DMA.CFG.PAUSE ch) = false → s.ringMode ch = false → s.dmaCount ch ≠ 0 → s.descRefused ch = true → s.unitOut ch = false → Completes (.dmaEnable ch) s fun t =>
      t.rd (R.DMA.CFG.EN ch) = 0 ∧ t.rd (R.DMA.STAT.STATE ch) = 0 ∧ t.rd (R.DMA.STAT.CAUSE ch) = 7 ∧ t.rdBit R.DMA.IRQ.ERR ch = true ∧ SameMemory s t) ∧
  (∀ (ch : Nat) (s : State), ch < 8 → s.appOn = true → s.unitOut ch = false → Completes (.dmaDisable ch) s fun t =>
      t.rd (R.DMA.CFG.EN ch) = 0 ∧ t.rd (R.DMA.STAT.STATE ch) = 0 ∧ ch ∉ t.dma.loaded ∧ ch ∉ t.dma.started ∧
      Frame [R.DMA.CFG.EN ch, R.DMA.STAT.STATE ch] (fun s t => { t with regs := s.regs, dma := s.dma }) s t) ∧
  (∀ (ch : Nat) (s : State), ch < 8 → s.appOn = true → s.flag (R.DMA.CFG.EN ch) = true → s.unitOut ch = false → Completes (.dmaPause ch) s fun t =>
      t.rd (R.DMA.CFG.PAUSE ch) = 1 ∧ t.rd (R.DMA.STAT.STATE ch) = 3 ∧
      Frame [R.DMA.CFG.PAUSE ch, R.DMA.STAT.STATE ch] putRegs s t) ∧
  (∀ (ch : Nat) (s : State), ch < 8 → s.appOn = true → s.flag (R.DMA.CFG.EN ch) = true → s.flag (R.DMA.CFG.PAUSE ch) = true → s.ringMode ch = false → ch ∈ s.dma.loaded → ch ∈ s.dma.started → s.descRefused ch = false → Completes (.dmaResume ch) s fun t =>
      t.rd (R.DMA.CFG.PAUSE ch) = 0 ∧ t.rd (R.DMA.STAT.STATE ch) = 2 ∧
      Frame [R.DMA.CFG.PAUSE ch, R.DMA.STAT.STATE ch] putRegs s t) ∧
  (∀ (ch : Nat) (s : State), ch < 8 → s.appOn = true → s.flag (R.DMA.CFG.EN ch) = true → s.rd (R.DMA.STAT.STATE ch) = 1 → ch ∈ s.dma.loaded → s.ringMode ch = false → 1 ≤ s.dmaTrig ch → s.dmaTrig ch ≤ 8 → s.unitLine (s.dmaTrig ch) = true → Completes (.dmaTrigger ch) s fun t =>
      t.rd (R.DMA.STAT.STATE ch) = 2 ∧ t.dma.started = s.dma.started ++ [ch] ∧ Frame [R.DMA.STAT.STATE ch] (fun s t => { t with regs := s.regs, dma := s.dma }) s t) ∧
  (∀ (ch : Nat) (s : State), ch < 8 → s.appOn = true → s.flag (R.DMA.CFG.EN ch) = true → s.rd (R.DMA.STAT.STATE ch) = 1 → ch ∈ s.dma.loaded → s.ringMode ch = false → s.dmaTrig ch = 9 → s.dmaSlot ch ∈ s.dma.given → (s.slot (s.dmaSlot ch)).owner = ownDma → (∀ c ∈ List.range ch, s.waitsSlot (s.dmaSlot ch) c = false) → Completes (.dmaTrigger ch) s fun t =>
      t.rd (R.DMA.STAT.STATE ch) = 2 ∧ ch ∈ t.dma.started ∧ s.dmaSlot ch ∉ t.dma.given) ∧
  (∀ (ch n src dst : Nat) (env : List Nat) (s : State), ch < 8 → s.power.app.st = .on → s.quiet = true → s.flag (R.PWR.PACE_STATUS.UNDER .app) = false → s.flag (R.DMA.CFG.EN ch) = true → s.flag (R.DMA.CFG.PAUSE ch) = false → s.ringMode ch = false → ch ∈ s.dma.loaded → ch ∈ s.dma.started → s.dmaTrig ch = 0 → 2 ≤ s.dmaCount ch → n = s.dmaSize ch → n ≤ 4 → src = s.rd (R.DMA.SRC.ADDR ch) → dst = s.rd (R.DMA.DST.ADDR ch) → src % n = 0 → dst % n = 0 → 0x20000000 ≤ src → src < 0x20020000 → 0x20000000 ≤ dst → dst < 0x20020000 → s.engaged .app (2 + ch) = false → Completes (.dmaUnit ch env) s fun t =>
      t.load dst n = s.load src n ∧ SameMemoryOutside dst n s t ∧ t.rd (R.DMA.CTL.CTL ch) = s.rd (R.DMA.CTL.CTL ch) - 1 ∧
      t.rd (R.DMA.SRC.ADDR ch) = src + (if bit (s.dmaCtl ch) 18 then n else 0) ∧ t.rd (R.DMA.DST.ADDR ch) = dst + (if bit (s.dmaCtl ch) 19 then n else 0) ∧
      SameFields [R.DMA.CTL.CTL ch, R.DMA.SRC.ADDR ch, R.DMA.DST.ADDR ch, R.DMA.STAT.STATE ch] s t) ∧
  (∀ (ws : List Nat) (r : List (List Nat)) (s : State), s.ringReady = true → s.link.rx = ws :: r → (∀ x ∈ ws, x < 2 ^ 32) → ws.length = 3 + (ws.headD 0 % 1024 + 3) / 4 → ws.length ≤ s.ringFree → s.rd R.DMA.RING_BASE.ADDR % 4 = 0 → 0x20000000 ≤ s.rd R.DMA.RING_BASE.ADDR → s.rd R.DMA.RING_BASE.ADDR + 4 * s.ringWords ≤ 0x20020000 → s.rd R.DMA.RING_WR.WR < s.ringWords → Completes (.dmaRingRecord) s fun t =>
      t.rd R.DMA.RING_WR.WR = (s.rd R.DMA.RING_WR.WR + ws.length) % s.ringWords ∧ t.rd R.DMA.IRQ.RING = 1 ∧ t.link.rx = r ∧
      (∀ i ∈ List.range ws.length, t.load (s.rd R.DMA.RING_BASE.ADDR + 4 * ((s.rd R.DMA.RING_WR.WR + i) % s.ringWords)) 4 = ws.getD i 0)) ∧
  (∀ (v : Nat) (s : State), s.appOn = true → v < s.ringWords → Completes (.ringRdWrite v) s fun t =>
      t.rd R.DMA.RING_RD.RD = v ∧ Frame [R.DMA.RING_RD.RD] putRegs s t) ∧
  (∀ (v : Nat) (s : State), s.appOn = true → s.ringWords ≤ v → Completes (.ringRdWrite v) s fun t =>
      t = s) ∧
  (∀ (ch : Nat) (s : State), ch < 8 → s.appOn = true → s.unitOut ch = true → Completes (.dmaDisable ch) s fun t =>
      t = s.clear (R.DMA.CFG.EN ch)) ∧
  (∀ (ch : Nat) (s : State), ch < 8 → s.appOn = true → s.unitOut ch = true → Completes (.dmaPause ch) s fun t =>
      t = s.raise (R.DMA.CFG.PAUSE ch))

/-- A calibration makes line timing valid; a byte received joins the receive FIFO unless it is full, which sets OVR; the shifter takes the next byte as one ends; DATA is written behind and read before the others; a claim waits, is sent as 0xC5 and the unit ID, ends as role 1 on its confirmation, yields to one received as role 0 with the confirmation sent, and after a collision backs off, until after round 15 it fails. -/
def Obligations.UartsAndServiceLink : Prop :=
  (∀ (count : Nat) (s : State), s.ports.posc = true → s.ports.ready = false → Completes (.portCalibration count) s fun t =>
      t.ports.ready = true ∧ t.ports.scale = max 1 count ∧ t.rd (R.UART.STATUS.PORT_UNCAL 0) = 0 ∧ t.rd (R.UART.STATUS.PORT_UNCAL 1) = 0) ∧
  (∀ (u byte : Nat) (s : State), s.uartWorks u = true → s.ports.uarts.length = 2 → u = 0 ∨ s.rd R.UART1.SVC.FORM ≠ 2 → u = 0 → s.leadHeld 3 = false → (s.uart u).rx.length < 16 → s.flag (R.UART.CFG.DATA7 u) = false → Completes (.uartRxByte u byte false false) s fun t =>
      t.uart u = { s.uart u with rx := (s.uart u).rx ++ [byte % 256] } ∧ t.rd (R.UART.STATUS.RXCNT u) = (s.uart u).rx.length + 1 ∧ t.logs = s.logs) ∧
  (∀ (u byte : Nat) (s : State), s.uartWorks u = true → s.ports.uarts.length = 2 → u = 0 ∨ s.rd R.UART1.SVC.FORM ≠ 2 → u = 0 → s.leadHeld 3 = false → 16 ≤ (s.uart u).rx.length → Completes (.uartRxByte u byte false false) s fun t =>
      t.rd (R.UART.STATUS.OVR u) = 1 ∧ t.uart u = s.uart u) ∧
  (∀ (u : Nat) (s : State), s.uartWorks u = true → s.ports.uarts.length = 2 → (s.uart u).shifter.isSome = true → Completes (.uartTxByte u) s fun t =>
      t.uart u = { s.uart u with shifter := (s.uart u).tx.head?, tx := (s.uart u).tx.tail } ∧ SameMemory s t) ∧
  (∀ (u byte : Nat) (s : State), u < 2 → s.ports.uarts.length = 2 → (s.uart u).tx.length < 16 → (s.uart u).shifter.isSome = true → Completes (.uartDataWrite u byte) s fun t =>
      t.uart u = { s.uart u with tx := (s.uart u).tx ++ [byte % 256] } ∧ t.rd (R.UART.STATUS.TXCNT u) = (s.uart u).tx.length + 1 ∧ t.rd (R.UART.STATUS.TXIDLE u) = 0) ∧
  (∀ (u b : Nat) (r : List Nat) (s : State), u < 2 → s.ports.uarts.length = 2 → (s.uart u).rx = b :: r → r.length < 16 → Completes (.uartDataRead u) s fun t =>
      t.last.data = b ∧ t.last.cause = 0 ∧ t.uart u = { s.uart u with rx := r } ∧ t.rd (R.UART.STATUS.RXCNT u) = r.length) ∧
  (∀ (s : State), s.svcWorks = true → s.ports.svc = .idle → Completes (.svcClaim) s fun t =>
      t.ports.svc = .waiting ∧ t.ports.round = none ∧ t.rd R.UART1.SVC_CTL.CLAIM = 1) ∧
  (∀ (s : State), s.svcWorks = true → s.ports.svc = .waiting → Completes (.svcClaimSend) s fun t =>
      t.ports.svc = .claiming ∧ t.ports.svcSent = 0xC5 :: leBytes 8 s.otp.unitId ∧ { t with ports := s.ports } = s) ∧
  (∀ (id : Nat) (s : State), s.svcWorks = true → s.ports.svc ≠ .claiming → id < 2 ^ 64 → Completes (.svcClaimReceived id) s fun t =>
      t.ports.svc = .idle ∧ t.ports.svcSent = [0x3A] ∧ t.rd R.UART1.SVC_STAT.ROLE = 0 ∧ t.rd R.UART1.SVC_STAT.ROLE_CHG = 1 ∧ t.rd R.UART1.SVC_CTL.CLAIM = 0 ∧ Logged s t 0x0901 [0]) ∧
  (∀ (s : State), s.svcWorks = true → s.ports.svc = .claiming → Completes (.svcConfirmReceived) s fun t =>
      t.ports.svc = .idle ∧ t.rd R.UART1.SVC_STAT.ROLE = 1 ∧ t.rd R.UART1.SVC_STAT.ROLE_CHG = 1 ∧ t.rd R.UART1.SVC_CTL.CLAIM = 0 ∧ Logged s t 0x0901 [1]) ∧
  (∀ (s : State), s.svcWorks = true → s.ports.svc = .claiming → s.ports.round = none → Completes (.svcCollision) s fun t =>
      t.ports.svc = .backoff ∧ t.ports.round = some 0 ∧ Logged s t 0x0900 []) ∧
  (∀ (k : Nat) (s : State), s.svcWorks = true → s.ports.svc = .claiming → s.ports.round = some k → k < 15 → Completes (.svcCollision) s fun t =>
      t.ports.svc = .backoff ∧ t.ports.round = some (k + 1) ∧ Logged s t 0x0900 []) ∧
  (∀ (k : Nat) (s : State), s.svcWorks = true → s.ports.svc = .claiming → s.ports.round = some k → 15 ≤ k → Completes (.svcCollision) s fun t =>
      t.ports.svc = .idle ∧ t.rd R.UART1.SVC_STAT.FAIL = 1 ∧ t.rd R.UART1.SVC_STAT.ROLE = 0 ∧ t.rd R.UART1.SVC_CTL.CLAIM = 0) ∧
  (∀ (s : State), s.svcWorks = true → s.ports.svc = .backoff → Completes (.svcBackoffEnd) s fun t =>
      t.ports.svc = .claiming ∧ t.ports.round = s.ports.round ∧ t.ports.svcSent = 0xC5 :: leBytes 8 s.otp.unitId ∧ { t with ports := s.ports } = s)

/-- A frame moves one byte out and one in; an I2C transfer starts with its address, direction and length and ends with DONE, NACK or ARB_LOST, or stuck with its event; a contending output sets its bit once and is logged; a driven pin read high latches off with its short counted, and a retry that reads low drives again; a thermal shutdown ends a pulse and is logged until it ends; an input is debounced and its falling edge counted; pulses added pend, run for their width and gap, and count down. -/
def Obligations.SpiI2cGpioAndFieldPins : Prop :=
  (∀ (byte b : Nat) (r : List Nat) (s : State), s.appOn = true → s.flag R.SPI.CFG.EN = true → s.flag R.SPI.CFG.ROLE = false → s.ports.ready = true → s.ports.spiTx = b :: r → s.ports.spiRx.length < 8 → s.leadHeld 7 = false → Completes (.spiFrame byte) s fun t =>
      t.ports.spiTx = r ∧ t.ports.spiRx = s.ports.spiRx ++ [byte % 256] ∧ t.rd R.SPI.STATUS.RXCNT = s.ports.spiRx.length + 1 ∧ SameMemory s t) ∧
  (∀ (cmd : Nat) (s : State), s.appOn = true → s.flag R.I2C.CFG.EN = true → s.ports.i2c = none → Completes (.i2cTransfer cmd) s fun t =>
      t.ports.i2c = some { addr := bitsOf cmd 0 7, read := bit cmd 7, len := max 1 (bitsOf cmd 8 8), stop := bit cmd 16 } ∧ t.rd R.I2C.STATUS.BUSY = 1) ∧
  (∀ (data : List Nat) (x : I2cXfer) (s : State), s.ports.i2c = some x → s.leadHeld 9 = false → s.leadHeld 10 = false → Completes (.i2cTransferEnd 0 data) s fun t =>
      t.ports.i2c = none ∧ t.rd R.I2C.STATUS.BUSY = 0 ∧ t.rd R.I2C.STATUS.DONE = 1 ∧ t.logs = s.logs) ∧
  (∀ (data : List Nat) (x : I2cXfer) (s : State), s.ports.i2c = some x → s.leadHeld 9 = false → s.leadHeld 10 = false → Completes (.i2cTransferEnd 1 data) s fun t =>
      t.ports.i2c = none ∧ t.rd R.I2C.STATUS.BUSY = 0 ∧ t.rd R.I2C.STATUS.NACK = 1 ∧ t.logs = s.logs) ∧
  (∀ (data : List Nat) (x : I2cXfer) (s : State), s.ports.i2c = some x → s.leadHeld 9 = false → s.leadHeld 10 = false → Completes (.i2cTransferEnd 2 data) s fun t =>
      t.ports.i2c = none ∧ t.rd R.I2C.STATUS.BUSY = 0 ∧ t.rd R.I2C.STATUS.ARB_LOST = 1 ∧ Logged s t 0x0930 []) ∧
  (∀ (x : I2cXfer) (s : State), s.ports.i2c = some x → s.leadHeld 9 = false → Completes (.i2cStuck) s fun t =>
      t.ports.i2c = none ∧ t.rd R.I2C.STATUS.STUCK = 1 ∧ t.rd R.I2C.STATUS.BUSY = 0 ∧ Logged s t 0x0931 []) ∧
  (∀ (pin : Nat) (s : State), s.appOn = true → pin < 12 → s.rdBit R.GPIO.DIR.OUT pin = true → s.rdBit R.GPIO.OD.OD pin = false → s.rdBit R.GPIO.CONTEND.CONTEND pin = false → s.leadHeld pin = false → Completes (.gpioContend pin) s fun t =>
      t.rdBit R.GPIO.CONTEND.CONTEND pin = true ∧ Logged s t 0x0920 [] ∧ Frame (R.GPIO.CONTEND.CONTEND :: logFields) putLogs s t) ∧
  (∀ (pin : Nat) (s : State), pin < 4 → s.ports.fio.length = 4 → 2 ≤ s.fioMode pin → s.fioDriven pin = true → s.rdBit R.FIO.STATUS.SHORT pin = false → Completes (.fioReadback pin true) s fun t =>
      t.rdBit R.FIO.STATUS.LATCHED pin = true ∧ t.rdBit R.FIO.STATUS.SHORT pin = true ∧ t.fioDriven pin = false ∧ Logged s t 0x0910 []) ∧
  (∀ (pin : Nat) (s : State), pin < 4 → s.ports.fio.length = 4 → 2 ≤ s.fioMode pin → s.fioDriven pin = true → Completes (.fioReadback pin false) s fun t =>
      t.rdBit R.FIO.STATUS.LEVEL pin = false ∧ SameFields [R.FIO.STATUS.LEVEL] s t) ∧
  (∀ (pin : Nat) (s : State), pin < 4 → s.ports.fio.length = 4 → 2 ≤ s.fioMode pin → s.fioMode pin ≠ 3 → s.rdBit R.FIO.STATUS.LATCHED pin = true → (s.fioPin pin).therm = false → Completes (.fioRetry pin false) s fun t =>
      t.rdBit R.FIO.STATUS.LATCHED pin = false ∧ t.rdBit R.FIO.STATUS.LEVEL pin = false ∧ t.ports = s.ports) ∧
  (∀ (pin : Nat) (s : State), pin < 4 → s.ports.fio.length = 4 → Completes (.fioThermal pin) s fun t =>
      (t.fioPin pin).therm = true ∧ (t.fioPin pin).pulse = false ∧ t.rdBit R.FIO.STATUS.THERM pin = true ∧ t.fioDriven pin = false ∧ Logged s t 0x0912 []) ∧
  (∀ (pin : Nat) (s : State), pin < 4 → s.ports.fio.length = 4 → s.fioMode pin ≠ 3 → Completes (.fioThermalEnd pin) s fun t =>
      t.fioPin pin = { s.fioPin pin with therm := false } ∧ { t with ports := s.ports } = s) ∧
  (∀ (pin : Nat) (s : State), pin < 4 → s.ports.fio.length = 4 → s.fioMode pin = 1 → s.power.ship = false → (s.fioPin pin).level = some true → (s.fioPin pin).last = some false → s.rd (R.FIO.CFG.DEB pin) ≤ (s.fioPin pin).run + 1 → (s.fioPin pin).run < 15 → s.rd (R.FIO.CNT.CNT pin) < 2 ^ 32 - 1 → s.rd (R.FIO.CNT.CNT pin) + 1 ≠ s.rd (R.FIO.THR.THR pin) → Completes (.fioSample pin false) s fun t =>
      t.rd (R.FIO.CNT.CNT pin) = s.rd (R.FIO.CNT.CNT pin) + 1 ∧ (t.fioPin pin).level = some false ∧ t.rdBit R.FIO.STATUS.LEVEL pin = false ∧ SameFields [R.FIO.CNT.CNT pin, R.FIO.STATUS.LEVEL] s t) ∧
  (∀ (pin : Nat) (s : State), pin < 4 → s.ports.fio.length = 4 → s.fioMode pin = 1 → s.power.ship = false → (s.fioPin pin).level = some true → (s.fioPin pin).last = some true → Completes (.fioSample pin true) s fun t =>
      (t.fioPin pin).level = some true ∧ t.rd (R.FIO.CNT.CNT pin) = s.rd (R.FIO.CNT.CNT pin)) ∧
  (∀ (pin n : Nat) (s : State), pin < 4 → s.ports.fio.length = 4 → s.fioMode pin = 3 → n < 0x10000 → 1 ≤ n → s.rd (R.FIO.PEND.PEND pin) + n < 2 ^ (R.FIO.PEND.PEND pin).width → s.fioFree pin = true → (s.fioPin pin).gap = false → Completes (.fioAdd pin n) s fun t =>
      t.rd (R.FIO.PEND.PEND pin) = s.rd (R.FIO.PEND.PEND pin) + n ∧ (t.fioPin pin).pulse = true ∧ t.fioDriven pin = true ∧ SameFields [R.FIO.PEND.PEND pin] s t) ∧
  (∀ (pin : Nat) (s : State), pin < 4 → s.ports.fio.length = 4 → (s.fioPin pin).pulse = true → 1 ≤ s.rd (R.FIO.PEND.PEND pin) → Completes (.fioPulseEnd pin) s fun t =>
      t.rd (R.FIO.PEND.PEND pin) = s.rd (R.FIO.PEND.PEND pin) - 1 ∧ (t.fioPin pin).pulse = false ∧ (t.fioPin pin).gap = true) ∧
  (∀ (pin : Nat) (s : State), pin < 4 → s.ports.fio.length = 4 → s.fioMode pin = 3 → s.fioFree pin = true → (s.fioPin pin).gap = true → (s.fioPin pin).pulse = false → 1 ≤ s.rd (R.FIO.PEND.PEND pin) → Completes (.fioGapEnd pin) s fun t =>
      (t.fioPin pin).gap = false ∧ (t.fioPin pin).pulse = true ∧ { t with ports := s.ports } = s)

/-- A lead is the island's where MET is not Off and its PINSEL selection names a segment line, or a touch channel for GPIO0 to GPIO3; while it is held, its bit of GPIO.IN reads 0, no contention is recorded for it, UART0 receives nothing through GPIO3's lead, a peripheral SPI sees no frame without its clock or select, a controller SPI reads mark, an I2C transfer ends without an acknowledgement, and wake causes 0x5 and 0xD do not arise from it; while MET is Off no lead is held. -/
def Obligations.LeadsHeldByTheIsland : Prop :=
  (∀ (s : State) (n : Nat), (s.leadHeld n = true ↔ s.variant ≠ .c ∧ n < 12 ∧ s.power.met.st ≠ .off ∧ (s.rd (R.LCD.PINSEL.SEL n) = 1 ∨ s.rd (R.LCD.PINSEL.SEL n) = 2 ∧ n < 4))) ∧
  (∀ (s : State) (n : Nat), s.leadHeld n = true → bit s.readPins.1 n = false) ∧
  (∀ (pin : Nat) (s : State), s.leadHeld pin = true → Completes (.gpioContend pin) s fun t =>
      t = s) ∧
  (∀ (byte : Nat) (fe pe : Bool) (s : State), s.leadHeld 3 = true → Completes (.uartRxByte 0 byte fe pe) s fun t =>
      t = s) ∧
  (∀ (byte : Nat) (s : State), s.flag R.SPI.CFG.ROLE = true → s.leadHeld 5 = true ∨ s.leadHeld 8 = true → Completes (.spiFrame byte) s fun t =>
      t = s) ∧
  (∀ (byte b : Nat) (r : List Nat) (s : State), s.appOn = true → s.flag R.SPI.CFG.EN = true → s.flag R.SPI.CFG.ROLE = false → s.ports.ready = true → s.ports.spiTx = b :: r → s.ports.spiRx.length < 8 → s.leadHeld 7 = true → Completes (.spiFrame byte) s fun t =>
      t.ports.spiRx = s.ports.spiRx ++ [0xFF]) ∧
  (∀ (outcome : Nat) (data : List Nat) (x : I2cXfer) (s : State), s.ports.i2c = some x → s.leadHeld 10 = true → Completes (.i2cTransferEnd outcome data) s fun t =>
      t.ports.i2c = none ∧ t.rd R.I2C.STATUS.NACK = 1 ∧ t.logs = s.logs) ∧
  (∀ (c : Nat) (s : State), c = 5 ∧ (∀ n ∈ List.range 4, bitsOf (s.rd R.GPIO.WAKE_EDGE.EDGE) (2 * n) 2 = 0 ∨ s.leadHeld n = true) ∨ c = 0xD ∧ s.leadHeld 3 = true → s.boot.sleeping = false → Completes (.wakeEvent .app [c]) s fun t =>
      t = s)

/-- A sheaf that is authentic, new and not the last one missing is stored with its mark; one that is not authentic is counted and dropped; an apply of a whole container whose header passes starts, and its end with a matching tag leaves the image with its trailer and COMMIT, APPLIED; any other APPLY is refused; a confirmation programs TRIAL and clears COUNT; a decryption writes the plain stream; abandoning erases staging; the first write of ACTIVE after a reset takes effect, a later one none. -/
def Obligations.UpdateReceptionAndApply : Prop :=
  (∀ (d : List Nat) (i : Nat) (s : State), s.update.sheaf = some d → s.updKeyOk = true → s.stagOk d = true → s.updState = 1 → s.rd R.UPDATE.CID.CID = leNat (d.take 4) → i = leNat ((d.drop 4).take 2) → 1 ≤ i → i < 469 → i < s.rd R.UPDATE.RX.TOTAL → d.length = 112 → (∀ b ∈ d, b < 256) → (∃ k ∈ List.range (s.rd R.UPDATE.RX.TOTAL), k ≠ i ∧ k < 469 ∧ s.marked s.bankT k = false) → s.regionWritable (protRegion s.bankT 80) = true → s.level < 5 → s.dwordErased (markAddr s.bankT i) = true → (∀ k ∈ List.range 12, s.dwordErased (stagingBase s.bankT + 96 * i + 8 * k) = true) → s.updFree = true → s.flashSeqs = [] → Completes (.sheafReceived []) s fun t =>
      t.update.sheaf = none ∧ t.marked s.bankT i = true ∧ t.updState = 1 ∧
      (∀ k ∈ List.range 96, (t.byte (stagingBase s.bankT + 96 * i + k)).toNat = d.getD (8 + k) 0)) ∧
  (∀ (d ops : List Nat) (s : State), s.update.sheaf = some d → s.updKeyOk = true → s.stagOk d = false → s.rd R.UPDATE.COUNTS.BAD + 1 < 2 ^ R.UPDATE.COUNTS.BAD.width → s.updFree = true → Completes (.sheafReceived ops) s fun t =>
      t.update.sheaf = none ∧ t.rd R.UPDATE.COUNTS.BAD = s.rd R.UPDATE.COUNTS.BAD + 1 ∧ t.updState = s.updState ∧ SameMemory s t) ∧
  (∀ (s : State), s.mayApply = true → s.headerReason s.storedHeader = 0 → s.closedRegions (hdRegions s.storedHeader) = 0 → s.railPowered .app = true → Completes (.updApply) s fun t =>
      t.updState = 3 ∧ t.rd R.UPDATE.PROGRESS.BYTES = 0 ∧ t.update.lifted = s.update.lifted ∧ SameMemory s t) ∧
  (∀ (s : State), s.mayApply = false → s.railPowered .app = true → Completes (.updApply) s fun t =>
      t = s.wr R.UPDATE.STATUS.CMD_REF 1) ∧
  (∀ (h out : List Nat) (s : State), s.updState = 3 → h = s.storedHeader → hdKind h = kindDirect → hdPart h = 0 → hdParts h = 1 → 1 ≤ hdLen h → hdLen h % 8 = 0 → hdLen h ≤ 0x4FFC0 → hdStream h = hdLen h → s.regionWritable (protRegion s.bankT 0) = true → s.level < 5 → out = s.plainStream h → cmacOf s.kImg (out ++ (trailerBytes h).take 32) = hdItag h → s.updFree = true → s.flashSeqs = [] → s.headerReason h = 0 → s.closedRegions (hdRegions h) = 0 → Completes (.updApplyEnd []) s fun t =>
      t.updState = 4 ∧ t.rd R.UPDATE.STATUS.DONE = 1 ∧ t.imageField s.bankT 0x38 8 = 0x4150A5C3 ∧ t.imageField s.bankT 4 4 = hdGen h ∧
      t.bytes (slotBase s.bankT) (hdLen h) = out) ∧
  (∀ (s : State), s.rd R.UPDATE.ACTIVE.BANK < 2 → s.onTrial (s.rd R.UPDATE.ACTIVE.BANK) = true → s.regionWritable (protRegion (s.rd R.UPDATE.ACTIVE.BANK) 79) = true → s.level < 5 → s.updFree = true → s.update.due = [] → s.flashSeqs = [] → s.railPowered .app = true → Completes (.updConfirm []) s fun t =>
      t.rd R.UPDATE.TRIAL.COUNT = 0 ∧ t.imageField (s.rd R.UPDATE.ACTIVE.BANK) 0x30 8 = 0x5452A5C3 ∧ t.onTrial (s.rd R.UPDATE.ACTIVE.BANK) = false ∧
      SameMemoryOutside (slotBase (s.rd R.UPDATE.ACTIVE.BANK) + 0x4FFF0) 8 s t) ∧
  (∀ (h : List Nat) (ofs len dst : Nat) (s : State), s.updState = 2 → h = s.storedHeader → ofs = s.rd R.UPDATE.DEC_OFS.VALUE → len = s.rd R.UPDATE.DEC_LEN.VALUE → dst = s.rd R.UPDATE.DEC_DST.VALUE → ofs + len ≤ hdStream h → 0x20000000 ≤ dst → dst + len ≤ 0x20020000 → s.updFree = true → s.update.due = [] → (s.plainStream h).length = hdStream h → (∀ b ∈ s.plainStream h, b < 256) → Completes (.updDecrypt) s fun t =>
      (∀ i ∈ List.range len, (t.byte (dst + i)).toNat = (s.plainStream h).getD (ofs + i) 0) ∧ SameMemoryOutside dst len s t ∧ SameElsewhere [0x40003000, 0x4000A000] logFields s t) ∧
  (∀ (s : State), s.updState ≠ 3 → s.regionWritable (protRegion s.bankT 80) = true → s.level < 5 → s.railPowered .app = true → s.updFree = true → s.update.due = [] → s.flashSeqs = [] → Completes (.updAbandon []) s fun t =>
      t.updState = 0 ∧ t.rd R.UPDATE.PART_GEN.GEN = 0 ∧ t.rd R.UPDATE.RX.TOTAL = 0 ∧ (∀ i ∈ List.range 0xC000, t.byte (stagingBase s.bankT + i) = 0xFF#8) ∧ SameMemoryOutside (stagingBase s.bankT) 0xC000 s t) ∧
  (∀ (bank : Nat) (s : State), s.update.activeSet = false → bank < 4 → s.updState ≠ 1 → s.updState ≠ 2 → s.railPowered .app = true → Completes (.updActiveWrite bank []) s fun t =>
      t.rd R.UPDATE.ACTIVE.BANK = bank ∧ t.update.activeSet = true ∧ SameMemory s t) ∧
  (∀ (bank : Nat) (ops : List Nat) (s : State), s.update.activeSet = true → Completes (.updActiveWrite bank ops) s fun t =>
      t = s)

/-- A test with its key, RF held, no operation in progress and a carrier inside a band starts, calibrating first where it must, at L4 and deeper ends at once with reason 3, and any other key changes nothing; it ends with its reason logged; a calibration that locks sets CAL_VALID and LOCKED and lets its operation go on; the first time-out retries it, the second refuses it; loss of lock or of HFXO ends what is in progress; a retune command shows DIRTY; FORGET clears VALID; the end of a search stores its codes. A test that transmits ends in TURN, one that receives in IDLE, where no continuous reception goes on. -/
def Obligations.RadioTestsCalibrationAndTuner : Prop :=
  (∀ (key : Nat) (temp : Int) (s : State), key = 0xB4 → s.radio.test = 0 → s.power.rf.st = .on → s.flag R.PWR.DOMAIN_REQ.RF_HOLD = true → s.linkBusy = false → (bandOf s.ownCarrier).isSome = true → s.level < 4 → Completes (.testCarrier key temp) s fun t =>
      t.radio.test = 1 ∧ t.rd R.RADIO.TEST.MODE = 1 ∧ (t.rd R.RADIO.STATUS.STATE = 6 ∨ t.rd R.RADIO.STATUS.STATE = 1 ∧ t.radio.calFor = some .test) ∧ SameMemory s t) ∧
  (∀ (key : Nat) (temp : Int) (s : State), key ≠ 0xB4 → Completes (.testCarrier key temp) s fun t =>
      t = s) ∧
  (∀ (key : Nat) (temp : Int) (s : State), key = 0xB4 → s.radio.test = 0 → s.power.rf.st = .on → s.flag R.PWR.DOMAIN_REQ.RF_HOLD = true → s.linkBusy = false → (bandOf s.ownCarrier).isSome = true → s.level < 4 → Completes (.testModulated key temp) s fun t =>
      t.radio.test = 2 ∧ t.rd R.RADIO.TEST.MODE = 2 ∧ (t.rd R.RADIO.STATUS.STATE = 6 ∨ t.rd R.RADIO.STATUS.STATE = 1 ∧ t.radio.calFor = some .test) ∧ SameMemory s t) ∧
  (∀ (key : Nat) (temp : Int) (s : State), key ≠ 0xB4 → Completes (.testModulated key temp) s fun t =>
      t = s) ∧
  (∀ (key : Nat) (temp : Int) (s : State), key = 0xB4 → s.radio.test = 0 → s.power.rf.st = .on → s.flag R.PWR.DOMAIN_REQ.RF_HOLD = true → s.linkBusy = false → (bandOf s.ownCarrier).isSome = true → s.level < 4 → Completes (.testRx key temp) s fun t =>
      t.radio.test = 3 ∧ t.rd R.RADIO.TEST.MODE = 3 ∧ (t.rd R.RADIO.STATUS.STATE = 6 ∨ t.rd R.RADIO.STATUS.STATE = 1 ∧ t.radio.calFor = some .test) ∧ SameMemory s t) ∧
  (∀ (key : Nat) (temp : Int) (s : State), key = 0xB4 → s.radio.test = 0 → s.power.rf.st = .on → s.flag R.PWR.DOMAIN_REQ.RF_HOLD = true → s.linkBusy = false → 4 ≤ s.level → Completes (.testCarrier key temp) s fun t =>
      t.radio.test = 0 ∧ t.rd R.RADIO.TEST.MODE = 0 ∧ t.rd R.RADIO.EVENTS.TEST_END = 1 ∧ t.rd R.RADIO.EVENTS.TEST_WHY = 3 ∧ t.link.duty = s.link.duty ∧ Logged s t 0x0443 [3]) ∧
  (∀ (key : Nat) (temp : Int) (s : State), key ≠ 0xB4 → Completes (.testRx key temp) s fun t =>
      t = s) ∧
  (∀ (onAir : Nat) (s : State), s.radio.test ≠ 0 → s.listensOn = false → Completes (.testStop onAir) s fun t =>
      t.radio.test = 0 ∧ t.rd R.RADIO.TEST.MODE = 0 ∧ t.rd R.RADIO.EVENTS.TEST_END = 1 ∧ t.rd R.RADIO.EVENTS.TEST_WHY = 1 ∧ t.rd R.RADIO.STATUS.STATE = (if s.testOnAir then 4 else 0) ∧ Logged s t 0x0443 [1]) ∧
  (∀ (onAir : Nat) (s : State), s.testOnAir = true → Completes (.testDutyExhausted onAir) s fun t =>
      t.radio.test = 0 ∧ t.rd R.RADIO.EVENTS.TEST_WHY = 2 ∧ t.rd R.RADIO.STATUS.STATE = 4 ∧ Logged s t 0x0443 [2]) ∧
  (∀ (s : State), s.radio.calFor = some .test → Completes (.synthCalDone) s fun t =>
      t.rd R.RADIO.STATUS.CAL_VALID = 1 ∧ t.rd R.RADIO.STATUS.LOCKED = 1 ∧ t.radio.calFor = none ∧ t.rd R.RADIO.STATUS.STATE = 6) ∧
  (∀ (a : Attempt) (s : State), s.radio.calFor = some .tx → s.link.att = some a → a.phase = .cal → Completes (.synthCalDone) s fun t =>
      t.rd R.RADIO.STATUS.CAL_VALID = 1 ∧ t.rd R.RADIO.STATUS.LOCKED = 1 ∧ t.radio.calFor = none ∧ t.link.att = some { a with phase := .ready }) ∧
  (∀ (s : State), s.radio.calFor = some .glean → s.link.glean = 1 → Completes (.synthCalDone) s fun t =>
      t.rd R.RADIO.STATUS.CAL_VALID = 1 ∧ t.rd R.RADIO.STATUS.LOCKED = 1 ∧ t.radio.calFor = none ∧ t.link.glean = 2 ∧ t.rd R.RADIO.STATUS.STATE = 2) ∧
  (∀ (c : CalFor) (s : State), s.radio.calFor = some c → s.radio.calRetry = false → s.rd R.RADIO.COUNTS.CALS + 1 < 2 ^ R.RADIO.COUNTS.CALS.width → Completes (.synthCalTimeout) s fun t =>
      t.radio.calRetry = true ∧ t.radio.calFor = some c ∧ t.rd R.RADIO.COUNTS.CALS = s.rd R.RADIO.COUNTS.CALS + 1 ∧
      Frame [R.RADIO.COUNTS.CALS] (fun s t => { t with regs := s.regs, radio := s.radio }) s t) ∧
  (∀ (s : State), s.radio.calFor = some .glean → s.radio.calRetry = true → Completes (.synthCalTimeout) s fun t =>
      t.rd R.RADIO.EVENTS.CAL_FAIL = 1 ∧ t.rd R.RADIO.STATUS.CAL_VALID = 0 ∧ t.radio.calFor = none ∧ t.link.glean = 0 ∧ Logged s t 0x0441 []) ∧
  (∀ (onAir : Nat) (s : State), s.power.rf.st = .on → s.radio.test ≠ 0 → s.link.att = none → s.listensOn = false → Completes (.rfSynthUnlock onAir) s fun t =>
      t.rd R.RADIO.EVENTS.UNLOCK = 1 ∧ t.rd R.RADIO.STATUS.CAL_VALID = 0 ∧ t.rd R.RADIO.STATUS.LOCKED = 0 ∧ t.radio.test = 0 ∧ t.rd R.RADIO.STATUS.STATE = (if s.testOnAir then 4 else 0) ∧ t.rd R.RADIO.EVENTS.TEST_END = 1) ∧
  (∀ (onAir : Nat) (s : State), s.power.rf.st = .on → Completes (.rfHfxoFail onAir) s fun t =>
      t.rd R.RADIO.EVENTS.HFXO_FAIL = 1 ∧ t.rd R.RADIO.STATUS.STATE = 0 ∧ t.rd R.RADIO.STATUS.CAL_VALID = 0 ∧ t.rd R.RADIO.STATUS.LOCKED = 0 ∧ t.rd R.RADIO.RSSI.NOW = 0xFF ∧ t.link.ack = none ∧ t.link.glean = 0 ∧ t.radio.test = 0) ∧
  (∀ (s : State), Completes (.tunerRetuneCmd) s fun t =>
      t.radio.retuneCmd = true ∧ t.rd R.TUNER.STATUS.DIRTY = 1 ∧ Frame [R.TUNER.STATUS.DIRTY, R.TUNER.STATUS.HELD] (fun s t => { t with regs := s.regs, radio := s.radio }) s t) ∧
  (∀ (s : State), Completes (.tunerForget) s fun t =>
      (∀ b ∈ List.range 4, t.rd (R.TUNER.BAND.VALID b) = 0) ∧ Frame ((List.range 4).map R.TUNER.BAND.VALID) putRegs s t) ∧
  (∀ (b : Nat) (s : State), b ∈ s.radio.held → Completes (.retuneHoldEnd b) s fun t =>
      t.radio.held = s.radio.held.filter (fun x => x != b) ∧ b ∈ t.radio.dirty ∧ b ∉ t.radio.recent ∧ (s.radio.held = [b] → t.rd R.TUNER.STATUS.HELD = 0)) ∧
  (∀ (losses : List Nat) (vres vbat b : Nat) (a : Attempt) (s : State), s.link.att = some a → a.phase = .tune → bandOf a.freq = some b → Completes (.tuneDone losses vres vbat) s fun t =>
      t.rd (R.TUNER.BAND.VALID b) = 1 ∧ t.rd (R.TUNER.BAND.CS b) = (s.search b losses).cs % 64 ∧ t.rd (R.TUNER.BAND.CP b) = (s.search b losses).cp % 64 ∧ b ∉ t.radio.dirty ∧ t.rd R.TUNER.EVENTS.RETUNED = 1)

/-- A sound submission joins the transmit queue and one to a disabled engine ends DISABLED; an attempt of the frame that is next counts, builds and enters its backoff; at its end with budget, energy and a calibrated carrier it is ready; an attempt admitted while RF is not On waits for it, and calibrates once it is ready; an attempt goes on air, and its end charges the sub-band and reports SENT in DONE with the slot freed; a missing acknowledgement retries or ends NO_ACK; an acknowledgement owed is sent and counted; DONE and the RX FIFO give their oldest entry; an alarm frame due is queued. A sent telegram opens its response window, whose end reports it SENT; WMB_MCNT takes a value that is not below its own. -/
def Obligations.LinkSubmissionsAndAttempts : Prop :=
  (∀ (slot : Nat) (s : State), (s.slot (slot % 32)).owner = ownLink → s.knowsSlot (slot % 32) = false → s.flag R.LINK.CTRL.EN = true → s.level < 4 → (s.slot (slot % 32)).giver ≠ ownDict → s.txqDepth < 8 → s.submitBad (slot % 32) = false → s.goesUp (s.slotFrame (slot % 32)) = false → Completes (.frameSubmit slot) s fun t =>
      t.link.txq = enqueue { s.slotFrame (slot % 32) with seq := s.link.nextSeq } s.link.txq ∧ t.link.nextSeq = s.link.nextSeq + 1 ∧ t.link.done = s.link.done ∧ t.slots = s.slots ∧ SameMemory s t) ∧
  (∀ (slot : Nat) (s : State), (s.slot (slot % 32)).owner = ownLink → s.knowsSlot (slot % 32) = false → s.flag R.LINK.CTRL.EN = false → Completes (.frameSubmit slot) s fun t =>
      t.link.done.getLast? = some { slot := slot % 32, giver := (s.slot (slot % 32)).giver, result := 10, attempts := 0 } ∧ t.link.txq = s.link.txq ∧ t.rd R.LINK.IRQ.TX_DONE = 1) ∧
  (∀ (k : Nat) (f : TxFrame) (s : State), s.mayStart = true → s.level < 4 → s.link.att = none → s.link.yielded = none → s.pickFrom s.txOrder [] = some f → f.wait ≠ some 0 → f.src = .slot → f.form = 3 → k < s.backoffRange f.attempts → Completes (.attemptStart k) s fun t =>
      t.link.att.map Attempt.phase = some .backoff ∧ t.link.att.map (fun a => a.frame.slot) = some f.slot ∧ t.link.att.map (fun a => a.frame.attempts) = some (f.attempts + 1) ∧
      t.link.att.map (fun a => a.frame.bytes) = some (if f.built then f.bytes else s.payloadOf f) ∧ (∀ g ∈ t.link.txq, g.seq ≠ f.seq)) ∧
  (∀ (vres vbat : Nat) (temp : Int) (a : Attempt) (s : State), s.link.att = some a → a.phase = .backoff → s.rfReady = true → s.frameOutside a.frame = false → s.dutyCheck (s.latch a temp).freq (airUs ((s.latch a temp).bits * 1000000) (s.latch a temp).rate + 100) = .passes → s.admission (s.pRes (s.latchPower (s.latch a temp)).ext (s.latchPower (s.latch a temp)).dbm) ((s.latch a temp).bits * 1000000) (s.latch a temp).rate vres vbat = .admitted → a.tuned = true ∨ s.flag R.TUNER.CFG.EN = false → Completes (.backoffEnd vres vbat temp) s fun t =>
      t.link.att.map (fun b => b.frame) = some a.frame ∧ t.link.att.map (fun b => b.freq) = some (s.frameFreq a.frame) ∧
      (t.link.att.map Attempt.phase = some .ready ∨ t.link.att.map Attempt.phase = some .cal ∧ t.radio.calFor = some .tx ∧ t.rd R.RADIO.STATUS.STATE = 1)) ∧
  (∀ (vres vbat : Nat) (temp : Int) (a : Attempt) (s : State), s.link.att = some a → a.phase = .energy → s.awake = true → s.power.rf.st ≠ .on → s.admission (s.pRes (s.latchPower a).ext (s.latchPower a).dbm) (a.bits * 1000000) a.rate vres vbat = .admitted → Completes (.vresMeasurement vres vbat temp) s fun t =>
      t.link.att.map (fun b => b.frame) = some a.frame ∧ t.link.att.map Attempt.phase = some .admitted ∧ t.power.exchange = true ∧ t.radio.calFor = s.radio.calFor) ∧
  (∀ (ops : List Nat) (a : Attempt) (s : State), s.link.att = some a → a.phase = .admitted → s.power.rf.exiting = true → s.power.rf.entering = none → s.awake = true → s.radio.calAt = none → a.tuned = true ∨ s.flag R.TUNER.CFG.EN = false → Completes (.exitComplete .rf ops) s fun t =>
      t.power.rf.st = .on ∧ t.link.att.map (fun b => b.frame) = some a.frame ∧ t.link.att.map Attempt.phase = some .cal ∧ t.radio.calFor = some .tx ∧ t.rd R.RADIO.STATUS.STATE = 1) ∧
  (∀ (a : Attempt) (s : State), s.link.att = some a → a.phase = .ready → s.rfReady = true → a.frame.src = .slot → Completes (.txStart) s fun t =>
      t.link.att = some { a with phase := .tx } ∧ t.rd R.RADIO.STATUS.STATE = 3 ∧ t.link.glean = 0) ∧
  (∀ (rl n : Nat) (a : Attempt) (s : State), s.link.att = some a → a.phase = .tx → a.frame.src = .slot → a.frame.form = 3 → subBand a.freq = some n → s.link.duty.length = 8 → s.slots.length = 32 → a.frame.slot < 32 → Completes (.txEnd rl) s fun t =>
      t.link.att = s.link.yielded ∧ t.link.done.getLast? = some { slot := a.frame.slot, giver := a.frame.giver, result := 1, attempts := a.frame.attempts } ∧
      t.usedUs n = s.usedUs n + (airUs (a.bits * 1000000) a.rate + 100) ∧ (t.slot a.frame.slot).owner = 0 ∧ t.rd R.LINK.IRQ.TX_DONE = 1) ∧
  (∀ (a : Attempt) (s : State), s.link.att = some a → a.phase = .ackWait → a.frame.wmbus = false → s.level < 4 → a.frame.attempts ≤ s.retries a.frame → Completes (.ackTimeout) s fun t =>
      t.link.att = some { a with phase := .again, frame := { a.frame with lastFail := 2 } } ∧ t.link.done = s.link.done) ∧
  (∀ (a : Attempt) (s : State), s.link.att = some a → a.phase = .ackWait → a.frame.wmbus = false → s.level < 4 → a.frame.src = .slot → s.retries a.frame < a.frame.attempts → Completes (.ackTimeout) s fun t =>
      t.link.att = s.link.yielded ∧ t.link.done.getLast? = some { slot := a.frame.slot, giver := a.frame.giver, result := 2, attempts := a.frame.attempts }) ∧
  (∀ (vres vbat rl : Nat) (k : AckOwed) (s : State), s.link.ack = some k → s.rfReady = true → s.ackDuty k.freq = true → s.flag R.LINK.ACKCFG.EXT = false → s.admission (s.pRes false (s.txPower false (some (s.srd R.LINK.ACKCFG.DBM)))) (160 * 1000000) s.rate vres vbat = .admitted → s.rd R.LINK.COUNT3.ACKS_SENT + 1 < 2 ^ R.LINK.COUNT3.ACKS_SENT.width → s.mayAck = true → Completes (.ackSend vres vbat rl) s fun t =>
      t.link.ack = none ∧ t.rd R.LINK.COUNT3.ACKS_SENT = s.rd R.LINK.COUNT3.ACKS_SENT + 1) ∧
  (∀ (e : DoneEntry) (r : List DoneEntry) (s : State), s.link.done = e :: r → r.length < 8 → Completes (.donePop) s fun t =>
      t.link.done = r ∧ t.rd R.LINK.DONE_CTL.COUNT = r.length ∧ t.flag R.LINK.DONE.VALID = !r.isEmpty ∧ SameMemory s t) ∧
  (∀ (w v : Nat) (ws : List Nat) (r : List (List Nat)) (s : State), s.link.rx = (w :: v :: ws) :: r → Completes (.rxdataRead) s fun t =>
      t.last.data = w ∧ t.last.cause = 0 ∧ t.link.rx = (v :: ws) :: r ∧ t.rd R.LINK.RXDATA.DATA = w % 2 ^ 32 ∧ SameMemory s t) ∧
  (∀ (s : State), s.alarmDue = true → s.inStead = true → Completes (.alarmFrame) s fun t =>
      t.link.alarm = some { alarmFrame with seq := s.link.nextSeq } ∧ t.rd R.LINK.STATUS.ALARM_DAY = s.rd R.LINK.STATUS.ALARM_DAY) ∧
  (∀ (a : Attempt) (s : State), s.link.att = some a → a.phase = .ackWait → a.frame.wmbus = true → s.radio.calFor = none → Completes (.responseWindowOpen) s fun t =>
      t.link.att = some { a with phase := .window } ∧ t.rd R.RADIO.STATUS.STATE = 2) ∧
  (∀ (a : Attempt) (s : State), s.link.att = some a → a.phase = .window → a.frame.src = .slot → Completes (.responseWindowClose) s fun t =>
      t.link.att = s.link.yielded ∧ t.rd R.RADIO.STATUS.STATE = 0 ∧ t.link.done.getLast? = some { slot := a.frame.slot, giver := a.frame.giver, result := 1, attempts := a.frame.attempts }) ∧
  (∀ (v : Nat) (s : State), s.rd R.LINK.WMB_MCNT.MCNT ≤ v → v < 2 ^ 32 → Completes (.wmbMcntWrite v) s fun t =>
      t.rd R.LINK.WMB_MCNT.MCNT = v ∧ t.rd R.LINK.WMB_STAT.MCNT_UNSET = 0) ∧
  (∀ (v : Nat) (s : State), v < s.rd R.LINK.WMB_MCNT.MCNT → Completes (.wmbMcntWrite v) s fun t =>
      t = s)

/-- The acknowledgement of the frame in play ends it ACKED; a frame whose FCS fails is counted; a frame up received by its collector joins the RX FIFO with RX_OK counted; a window opens where nothing else runs and RF is ready, waits for RF where it is not and calibrates once it is, and closes after its time; a rescue listen opens without a parent and ends; each minute the oldest bucket of every sub-band drops. -/
def Obligations.LinkReceptionAndGleaning : Prop :=
  (∀ (rssi : Nat) (bytes : List Nat) (a : Attempt) (s : State), s.link.att = some a → a.phase = .ackWait → a.frame.wmbus = false → a.frame.src = .slot → acksAttempt a (bytes.map (fun x => x % 256)) = true → Completes (.frameReceived 0 rssi bytes) s fun t =>
      t.link.att = s.link.yielded ∧ t.rd R.RADIO.STATUS.STATE = 0 ∧ t.link.done.getLast? = some { slot := a.frame.slot, giver := a.frame.giver, result := 0, attempts := a.frame.attempts }) ∧
  (∀ (rssi : Nat) (bytes : List Nat) (s : State), s.link.att = none → s.hearsStook = true → 5 ≤ bytes.length → bytes.length ≤ 510 → (∀ b ∈ bytes, b < 256) → bytes.drop (bytes.length - 4) ≠ leBytes 4 (fcsOf (bytes.take (bytes.length - 4))) → s.rd R.LINK.COUNT1.RX_FCS + 1 < 2 ^ R.LINK.COUNT1.RX_FCS.width → Completes (.frameReceived 0 rssi bytes) s fun t =>
      t.rd R.LINK.COUNT1.RX_FCS = s.rd R.LINK.COUNT1.RX_FCS + 1 ∧ t.link.rx = s.link.rx ∧ SameMemory s t) ∧
  (∀ (rssi : Nat) (b : List Nat) (s : State), s.link.att = none → s.hearsStook = true → 1 ≤ b.length → b.length ≤ 506 → (∀ x ∈ b, x < 256) → s.flag R.LINK.CTRL.EN = true → s.flag R.LINK.CTRL.STOOK_RX = true → s.judge b = .take true false false false → s.level < 2 → isBusyNotice b = false → s.isDuplicate b = false → s.toUpdate b = false → s.rxFits b = true → s.owesAck b = false → s.rd R.LINK.COUNT1.RX_OK + 1 < 2 ^ R.LINK.COUNT1.RX_OK.width → Completes (.frameReceived 0 rssi (b ++ leBytes 4 (fcsOf b))) s fun t =>
      t.link.rx = s.link.rx ++ [s.rxRecord b (rssiCode rssi) 1] ∧ t.rd R.LINK.COUNT1.RX_OK = s.rd R.LINK.COUNT1.RX_OK + 1 ∧ t.rd R.LINK.IRQ.RX_FRAME = 1 ∧ t.rd R.RADIO.RSSI.LAST = rssiCode rssi ∧ SameMemory s t) ∧
  (∀ (temp : Int) (s : State), s.gleanArmed = true → s.level ≤ 3 → s.link.glean = 0 → s.wmbListens = false → s.receiverFree = true → (bandOf s.ownCarrier).isSome = true → s.rfReady = true → Completes (.gleanWindow temp) s fun t =>
      (t.link.glean = 2 ∧ t.rd R.RADIO.STATUS.STATE = 2) ∨ (t.link.glean = 1 ∧ t.rd R.RADIO.STATUS.STATE = 1 ∧ t.radio.calFor = some .glean)) ∧
  (∀ (temp : Int) (s : State), s.gleanArmed = true → s.level ≤ 3 → s.link.glean = 0 → s.wmbListens = false → s.receiverFree = true → (bandOf s.ownCarrier).isSome = true → s.power.rf.st ≠ .on → Completes (.gleanWindow temp) s fun t =>
      t.link.glean = 1 ∧ t.power.gleanOpen = true ∧ t.radio.calFor = s.radio.calFor ∧ t.rd R.RADIO.STATUS.STATE = s.rd R.RADIO.STATUS.STATE) ∧
  (∀ (ops : List Nat) (s : State), s.power.rf.exiting = true → s.awake = true → s.link.att = none → s.link.glean = 1 ∨ s.link.glean = 3 → s.radio.calFor = none → Completes (.exitComplete .rf ops) s fun t =>
      t.power.rf.st = .on ∧ t.rd R.PWR.MODE_STATUS.RF_READY = 1 ∧ t.link.glean = s.link.glean ∧ t.radio.calFor = some .glean ∧ t.rd R.RADIO.STATUS.STATE = 1) ∧
  (∀ (s : State), s.link.glean = 1 ∨ s.link.glean = 2 → s.contListens = false → Completes (.gleanWindowClose) s fun t =>
      t.link.glean = 0 ∧ t.rd R.RADIO.STATUS.STATE = 0 ∧ t.radio.calFor ≠ some .glean) ∧
  (∀ (temp : Int) (s : State), s.flag R.LINK.MESH_STATE.NO_PARENT = true → s.inStead = true → s.isCollector = false → s.level ≤ 2 → s.flag R.LINK.CTRL.EN = true → s.link.glean < 3 → s.receiverFree = true → (bandOf s.ownCarrier).isSome = true → s.rfReady = true → Completes (.rescueListen temp) s fun t =>
      (t.link.glean = 4 ∧ t.rd R.RADIO.STATUS.STATE = 2) ∨ (t.link.glean = 3 ∧ t.rd R.RADIO.STATUS.STATE = 1 ∧ t.radio.calFor = some .glean)) ∧
  (∀ (s : State), 3 ≤ s.link.glean → Completes (.rescueListenEnd) s fun t =>
      t.link.glean = 0 ∧ t.rd R.RADIO.STATUS.STATE = 0 ∧ t.radio.calFor ≠ some .glean) ∧
  (∀ (s : State), (∀ f ∈ s.txOrder, f.wait = none) → s.awake = true → Completes (.dutyMinuteTick) s fun t =>
      t.link.duty = s.link.duty.map (fun b => b.drop 1 ++ [0]) ∧ t.link.txq = s.link.txq ∧ SameMemory s t)

/-- A relaying node places one beacon of its own in the forward queue; the first parent gives its ring plus one and ends NO_PARENT, and a beacon that fails its MIC sets AUTH_FAIL; an entry ages, and is removed at PARENT_TTL; a generation written is taken unless it is below; a PEAK field takes the present fill; the UTC day starts the time budget, the alarm frame and the refusal event afresh. -/
def Obligations.MeshBeaconsParentsAndGenerations : Prop :=
  (∀ (s : State), s.relaying = true → s.inStead = true → s.fcExhausted 2 = false → s.fwdDepth < 16 → Completes (.beaconSend) s fun t =>
      (t.link.fwd.filter (fun f => t.isBeacon f)).length = 1 ∧ t.link.nextSeq = s.link.nextSeq + 1 ∧ SameMemory s t) ∧
  (∀ (b : BeaconIn) (r : List BeaconIn) (s : State), s.link.beacons = b :: r → s.level < 4 → hKeys b.bytes = 2 → s.micPasses b.bytes = true → (stookData b.bytes).length = 34 → b.rssi ≤ s.rd R.LINK.MESH_BCN.PARENT_RSSI → s.isCollector = false → s.link.parents = [] → Completes (.beaconProcess) s fun t =>
      t.link.parents = [beaconParent b] ∧ t.link.beacons = r ∧ t.rd R.LINK.MESH_STATE.RING = min 0xFF (min 0xFF (hSring b.bytes) + 1) ∧ t.rd R.LINK.MESH_STATE.NO_PARENT = 0 ∧ t.rd R.LINK.MESH_STATE.NPAR = 1) ∧
  (∀ (b : BeaconIn) (r : List BeaconIn) (s : State), s.link.beacons = b :: r → s.level < 4 → hKeys b.bytes ≠ 2 ∨ s.micPasses b.bytes = false → Completes (.beaconProcess) s fun t =>
      t.link.beacons = r ∧ t.link.parents = s.link.parents ∧ t.rd R.LINK.MESH_EVT.AUTH_FAIL = 1 ∧ Logged s t 0x0504 []) ∧
  (∀ (n : Nat) (p : Parent) (s : State), s.link.parents[n]? = some p → s.level < 4 → p.age + 1 < s.parentTtl → Completes (.parentAge n) s fun t =>
      t.link.parents = s.link.parents.set n { p with age := p.age + 1 }) ∧
  (∀ (n : Nat) (p : Parent) (s : State), s.link.parents[n]? = some p → s.level < 4 → s.parentTtl ≤ p.age + 1 → Completes (.parentAge n) s fun t =>
      t.link.parents = s.link.parents.eraseIdx n) ∧
  (∀ (v : Nat) (s : State), v < 2 ^ 32 → s.rd R.LINK.MESH_GEN.GEN ≤ v → Completes (.meshGenWrite v) s fun t =>
      t.rd R.LINK.MESH_GEN.GEN = v ∧ Frame [R.LINK.MESH_GEN.GEN] putRegs s t) ∧
  (∀ (v : Nat) (s : State), v < s.rd R.LINK.MESH_GEN.GEN → Completes (.meshGenWrite v) s fun t =>
      t = s) ∧
  (∀ (s : State), Completes (.fwdPeakWrite 0) s fun t =>
      t.rd R.LINK.FWD_STAT.PEAK = s.fwdDepth % 2 ^ R.LINK.FWD_STAT.PEAK.width ∧ Frame [R.LINK.FWD_STAT.PEAK] putRegs s t) ∧
  (∀ (which : Nat) (s : State), which ≠ 0 → Completes (.fwdPeakWrite which) s fun t =>
      t.rd R.LINK.RX_STAT.PEAK = s.rxBytes % 2 ^ R.LINK.RX_STAT.PEAK.width ∧ Frame [R.LINK.RX_STAT.PEAK] putRegs s t) ∧
  (∀ (s : State), Completes (.utcDayBoundary) s fun t =>
      t.link.budget = 0 ∧ t.link.refusedToday = false ∧ t.rd R.LINK.TIME_BUDGET.USED_MS = 0 ∧ t.rd R.LINK.STATUS.ALARM_DAY = 0 ∧
      Frame [R.LINK.TIME_BUDGET.USED_MS, R.LINK.STATUS.ALARM_DAY] (fun s t => { t with regs := s.regs, link := s.link }) s t)

/-- A local request that verifies and reads entries no table holds takes its floor, is counted, and its slot goes back to APP with status NO_ENTRY; a callback that returns, or does not within its time, or a fire that does not complete, ends the request with that status; a watched pair found equal ends its watch with DICT_CONVERGED, one found different when its settle time has passed is marked DIVERGED; a floor takes a value that is not below its own and clears UNSET. -/
def Obligations.DictRequestsCallbacksAndWatches : Prop :=
  (∀ (n : Nat) (b : List Nat) (ops : List DictOp) (rest : List (List Nat)) (s : State), s.fabricIdle = true → s.dictBridged = false → s.dict.polling = none → s.appOn = true → s.level < 5 → s.flag (R.PWR.PACE_STATUS.UNDER .app) = false → s.dict.job = none → s.requests = [0x100 + n] :: rest → n < 32 → s.slots.length = 32 → (s.slot n).writableBy ownDict = true → b = s.bytes (slotAddr n) (s.slot n).len → 8 ≤ b.length → le16 b 0 = 0x444C → le16 b 2 = 0 → requestOps (b.drop 8) = some ops → s.tag8 (b.getD 8 0 % 4) 0xFFFE (le32 b 4) ((b.drop 8).take ((b.drop 8).length - 8)) = some ((b.drop 8).drop ((b.drop 8).length - 8)) → s.aboveFloor 4 (le32 b 4) = true → (∀ o ∈ ops, o.op = opRead ∧ s.entry o.index o.sub = none) → s.rd R.DICT.COUNTS.REQS + 1 < 2 ^ R.DICT.COUNTS.REQS.width → Completes (.dictRequestServe) s fun t =>
      t.requests = rest ∧ t.dict.job = none ∧ t.rd (R.DICT.FLOOR.FC 4) = le32 b 4 ∧ t.rdBit R.DICT.FLOOR_STAT.UNSET 4 = false ∧
      t.rd R.DICT.COUNTS.REQS = s.rd R.DICT.COUNTS.REQS + 1 ∧ (t.slot n).owner = ownApp ∧ (t.byte (slotAddr n + 12)).toNat = dictStatus.noEntry) ∧
  (∀ (n m : Nat) (j : DictJob) (o : DictOp) (d : Desc) (s : State), s.fabricIdle = true → s.dictBridged = false → s.dict.polling = none → s.appOn = true → s.dict.job = some j → j.slot = some m → j.config = false → m < 32 → n < 32 → m ≠ n → s.slots.length = 32 → (s.slot m).writableBy ownDict = true → j.call = some n → (s.slot n).owner = ownDict → j.next = 0 → j.ops = [o] → o.op = opWrite → o.desc = some d → d.pair = false → Completes (.dictCallbackReturn n) s fun t =>
      (t.slot n).owner = 0 ∧ (t.byte (slotAddr m + 12)).toNat = (s.byte (slotAddr n + 2)).toNat ∧ (t.slot m).owner = ownApp ∧ t.dict.job = none) ∧
  (∀ (n m : Nat) (j : DictJob) (o : DictOp) (s : State), s.fabricIdle = true → s.dictBridged = false → s.dict.polling = none → s.appOn = true → s.dict.job = some j → j.slot = some m → j.config = false → m < 32 → n < 32 → m ≠ n → s.slots.length = 32 → (s.slot m).writableBy ownDict = true → j.call = some n → (s.slot n).owner ≠ ownDict → j.next = 0 → j.ops = [o] → o.op = opWrite → o.desc.isSome = true → Completes (.dictCbTimeout) s fun t =>
      n ∈ t.dict.stale ∧ (t.byte (slotAddr m + 12)).toNat = dictStatus.timeout ∧ (t.slot m).owner = ownApp ∧ t.dict.job = none) ∧
  (∀ (m : Nat) (j : DictJob) (o : DictOp) (s : State), s.appOn = true → s.dict.job = some j → j.phase = .fire → s.dict.fired = none → s.fabric.writes = [] → s.fabric.held = [] → s.fabric.units = [] → s.dictBridged = false → s.dict.polling = none → (∀ x ∈ s.fabric.fires, x.dict = true ∧ x.applied = false) → j.slot = some m → j.config = false → m < 32 → s.slots.length = 32 → (s.slot m).writableBy ownDict = true → j.ops = [o] → o.direct = true → Completes (.dictLockTimeout) s fun t =>
      t.dict.locks = [] ∧ t.rd R.SYSCTL.COMMIT_STATUS.DICT_LOCK = 0 ∧ t.fabric.fires = [] ∧ (t.byte (slotAddr m + 12)).toNat = dictStatus.fireFail ∧ (t.slot m).owner = ownApp ∧ t.dict.job = none) ∧
  (∀ (n : Nat) (w : WatchedPair) (d : Desc) (s : State), s.appOn = true → s.dict.watch[n]? = some w → w.diverged = false → s.dictBridged = false → s.entry w.index w.eff = some d → s.reach d false false 0 .fresh = .here → (s.entryRead d).1 = some w.value → Completes (.dictWatchPoll n) s fun t =>
      t.dict.watch = s.dict.watch.filter (fun x => !(x.index == w.index && x.sub == w.sub)) ∧ ∃ e ∈ t.logs.sys.getLast?, e.code = 0x0621) ∧
  (∀ (n : Nat) (w : WatchedPair) (s : State), s.appOn = true → s.dict.watch[n]? = some w → w.diverged = false → s.entry w.index w.eff = none → s.rd R.DICT.COUNTS2.DIVERGES + 1 < 2 ^ R.DICT.COUNTS2.DIVERGES.width → s.dictBridged = false → Completes (.dictSettleExpire n) s fun t =>
      t.dict.watch.any (fun x => x.index == w.index && x.sub == w.sub && x.diverged) = true ∧ t.rd R.DICT.COUNTS2.DIVERGES = s.rd R.DICT.COUNTS2.DIVERGES + 1 ∧
      Logged s t 0x0620 (leBytes 2 w.index ++ [w.sub, 0] ++ divergedValue (s.entry w.index w.sub) w.value ++ leBytes 4 0)) ∧
  (∀ (n v : Nat) (s : State), s.appOn = true → n < 5 → v < 2 ^ 32 → s.rd (R.DICT.FLOOR.FC n) ≤ v → Completes (.floorWrite n v) s fun t =>
      t.rd (R.DICT.FLOOR.FC n) = v ∧ t.rdBit R.DICT.FLOOR_STAT.UNSET n = false ∧ Frame [R.DICT.FLOOR.FC n, R.DICT.FLOOR_STAT.UNSET] putRegs s t) ∧
  (∀ (n v : Nat) (s : State), s.appOn = true → n < 5 → v < s.rd (R.DICT.FLOOR.FC n) → Completes (.floorWrite n v) s fun t =>
      t = s)

/-- Every event of a UART, of the service link, of SPI, of I2C and of a field pin changes only the ports' own state and the status fields named for it (and the system event log where it logs): every other register, memory and every other component are as before. -/
def Obligations.PortFrames : Prop :=
  (∀ (u byte : Nat) (fe pe : Bool) (s : State), Always (.uartRxByte u byte fe pe) s fun t =>
      Frame ([R.UART.STATUS.RXCNT u, R.UART.STATUS.TXCNT u, R.UART.STATUS.TXIDLE u, R.UART.STATUS.OVR u, R.UART.STATUS.FE u, R.UART.STATUS.PE u] ++ logFields) (fun s t => { putLogs s t with ports := s.ports }) s t) ∧
  (∀ (u : Nat) (s : State), Always (.uartTxByte u) s fun t =>
      Frame ([R.UART.STATUS.RXCNT u, R.UART.STATUS.TXCNT u, R.UART.STATUS.TXIDLE u]) (fun s t => { t with regs := s.regs, ports := s.ports }) s t) ∧
  (∀ (u byte : Nat) (s : State), Always (.uartDataWrite u byte) s fun t =>
      Frame ([R.UART.STATUS.RXCNT u, R.UART.STATUS.TXCNT u, R.UART.STATUS.TXIDLE u]) (fun s t => { t with regs := s.regs, ports := s.ports }) s t) ∧
  (∀ (u : Nat) (s : State), Always (.uartDataRead u) s fun t =>
      Frame ([R.UART.STATUS.RXCNT u, R.UART.STATUS.TXCNT u, R.UART.STATUS.TXIDLE u]) (fun s t => { t with regs := s.regs, ports := s.ports, last := s.last, freeCtr := s.freeCtr }) s t) ∧
  (∀ (count : Nat) (s : State), Always (.portCalibration count) s fun t =>
      Frame ([0, 1].flatMap (fun u => [R.UART.STATUS.RXCNT u, R.UART.STATUS.TXCNT u, R.UART.STATUS.TXIDLE u, R.UART.STATUS.PORT_UNCAL u])) (fun s t => { t with regs := s.regs, ports := s.ports }) s t) ∧
  (∀ (byte : Nat) (s : State), Always (.spiFrame byte) s fun t =>
      Frame ([R.SPI.STATUS.BUSY, R.SPI.STATUS.OVR, R.SPI.STATUS.UNDR, R.SPI.STATUS.RXCNT, R.SPI.STATUS.TXCNT]) (fun s t => { t with regs := s.regs, ports := s.ports }) s t) ∧
  (∀ (cmd : Nat) (s : State), Always (.i2cTransfer cmd) s fun t =>
      Frame ([R.I2C.STATUS.BUSY]) (fun s t => { t with regs := s.regs, ports := s.ports }) s t) ∧
  (∀ (outcome : Nat) (data : List Nat) (s : State), Always (.i2cTransferEnd outcome data) s fun t =>
      Frame ([R.I2C.STATUS.BUSY, R.I2C.STATUS.DONE, R.I2C.STATUS.NACK, R.I2C.STATUS.ARB_LOST] ++ logFields) (fun s t => { putLogs s t with ports := s.ports }) s t) ∧
  (∀ (s : State), Always (.i2cStuck) s fun t =>
      Frame ([R.I2C.STATUS.BUSY, R.I2C.STATUS.STUCK] ++ logFields) (fun s t => { putLogs s t with ports := s.ports }) s t) ∧
  (∀ (pin : Nat) (level : Bool) (s : State), Always (.fioRetry pin level) s fun t =>
      Frame ([R.FIO.STATUS.LEVEL, R.FIO.STATUS.LATCHED, R.FIO.STATUS.SHORT, R.FIO.SHORTS.SHORTS pin] ++ logFields) (fun s t => { putLogs s t with ports := s.ports }) s t) ∧
  (∀ (pin : Nat) (s : State), Always (.fioThermal pin) s fun t =>
      Frame (R.FIO.STATUS.THERM :: logFields) (fun s t => { putLogs s t with ports := s.ports }) s t) ∧
  (∀ (pin : Nat) (s : State), Always (.fioThermalEnd pin) s fun t =>
      Frame ([]) (fun s t => { t with regs := s.regs, ports := s.ports }) s t) ∧
  (∀ (pin : Nat) (s : State), Always (.fioGapEnd pin) s fun t =>
      Frame ([]) (fun s t => { t with regs := s.regs, ports := s.ports }) s t) ∧
  (∀ (pin : Nat) (s : State), Always (.fioPulseEnd pin) s fun t =>
      Frame ([R.FIO.PEND.PEND pin]) (fun s t => { t with regs := s.regs, ports := s.ports }) s t) ∧
  (∀ (s : State), Always (.svcClaim) s fun t =>
      Frame ([R.UART1.SVC_CTL.CLAIM]) (fun s t => { t with regs := s.regs, ports := s.ports }) s t) ∧
  (∀ (s : State), Always (.svcClaimSend) s fun t =>
      Frame ([]) (fun s t => { t with regs := s.regs, ports := s.ports }) s t) ∧
  (∀ (s : State), Always (.svcBackoffEnd) s fun t =>
      Frame ([]) (fun s t => { t with regs := s.regs, ports := s.ports }) s t) ∧
  (∀ (id : Nat) (s : State), Always (.svcClaimReceived id) s fun t =>
      Frame ([R.UART1.SVC_CTL.CLAIM, R.UART1.SVC_STAT.ROLE, R.UART1.SVC_STAT.ROLE_CHG, R.UART1.SVC_STAT.ROUND] ++ logFields) (fun s t => { putLogs s t with ports := s.ports }) s t) ∧
  (∀ (s : State), Always (.svcConfirmReceived) s fun t =>
      Frame ([R.UART1.SVC_CTL.CLAIM, R.UART1.SVC_STAT.ROLE, R.UART1.SVC_STAT.ROLE_CHG, R.UART1.SVC_STAT.ROUND] ++ logFields) (fun s t => { putLogs s t with ports := s.ports }) s t) ∧
  (∀ (s : State), Always (.svcCollision) s fun t =>
      Frame ([R.UART1.SVC_CTL.CLAIM, R.UART1.SVC_STAT.ROLE, R.UART1.SVC_STAT.COLL, R.UART1.SVC_STAT.FAIL, R.UART1.SVC_STAT.ROUND] ++ logFields) (fun s t => { putLogs s t with ports := s.ports }) s t)

/-- The end of a test changes only the test and state fields of the radio, the charge to the duty window and the event log; the end of a retune hold only DIRTY and HELD and the radio's own state; memory and every other register and component are as before. -/
def Obligations.RadioTestAndTunerFrames : Prop :=
  (∀ (onAir : Nat) (s : State), Always (.testStop onAir) s fun t =>
      Frame ([R.RADIO.EVENTS.TEST_END, R.RADIO.EVENTS.TEST_WHY, R.RADIO.STATUS.STATE, R.RADIO.TEST.MODE] ++ logFields) (fun s t => { putLogs s t with radio := s.radio, link := s.link }) s t) ∧
  (∀ (onAir : Nat) (s : State), Always (.testDutyExhausted onAir) s fun t =>
      Frame ([R.RADIO.EVENTS.TEST_END, R.RADIO.EVENTS.TEST_WHY, R.RADIO.STATUS.STATE, R.RADIO.TEST.MODE] ++ logFields) (fun s t => { putLogs s t with radio := s.radio, link := s.link }) s t) ∧
  (∀ (band : Nat) (s : State), Always (.retuneHoldEnd band) s fun t =>
      Frame [R.TUNER.STATUS.DIRTY, R.TUNER.STATUS.HELD] (fun s t => { t with regs := s.regs, radio := s.radio }) s t)

/-- ACORE_WFI, RF_HOLD and SERVICE_GRANT change only MODE_STATUS, their own demand or grant, what the end of a test changes, the bias loops of a domain that leaves or enters, and the logs; the idle timeout of the loader changes the wake causes enabled and its own state; ARB_ADVANCE only the burn and refusal marks of the counter and the logs; the fuses and memory are as before. -/
def Obligations.ModeAndBurnFrames : Prop :=
  (∀ (onAir : Nat) (s : State), Always (.acoreWfi onAir) s fun t =>
      Frame ([R.PWR.DOMAIN_REQ.RF_HOLD, R.RADIO.EVENTS.TEST_END, R.RADIO.EVENTS.TEST_WHY, R.RADIO.STATUS.STATE, R.RADIO.TEST.MODE] ++ modeFields ++ logFields) (fun s t => { putLogs s t with power := s.power, copies := s.copies, appRail := s.appRail, metRail := s.metRail, freeCtr := s.freeCtr, radio := s.radio, link := s.link }) s t) ∧
  (∀ (v : Bool) (onAir : Nat) (s : State), Always (.rfHold v onAir) s fun t =>
      Frame ([R.PWR.DOMAIN_REQ.RF_HOLD, R.RADIO.EVENTS.TEST_END, R.RADIO.EVENTS.TEST_WHY, R.RADIO.STATUS.STATE, R.RADIO.TEST.MODE] ++ modeFields ++ logFields) (fun s t => { putModeLogs s t with radio := s.radio, link := s.link }) s t) ∧
  (∀ (v : Bool) (s : State), Always (.serviceGrant v) s fun t =>
      Frame (R.MPWR.MCTL.SERVICE :: modeFields ++ bothLogFields) (fun s t => { putLogs s t with power := s.power, copies := s.copies, appRail := s.appRail, metRail := s.metRail, freeCtr := s.freeCtr }) s t) ∧
  (∀ (s : State), Always (.loaderIdleTimeout) s fun t =>
      Frame ([R.PWR.DOMAIN_REQ.RF_HOLD, R.PWR.REST.APP_OFF, R.PWR.WAKE_EN.EN .app] ++ modeFields) (fun s t => { t with regs := s.regs, power := s.power, copies := s.copies, appRail := s.appRail, metRail := s.metRail, freeCtr := s.freeCtr, boot := s.boot }) s t) ∧
  (∀ (sd : Side) (key idx target : Nat) (s : State), Always (.arbAdvance sd key idx target) s fun t =>
      Frame ([R.FLASHC.ARB_STATUS.BURN, R.FLASHC.ARB_STATUS.REFUSED, R.MPWR.ARB2.BURN, R.MPWR.ARB2.REFUSED, R.MPWR.SEAL_STATUS.BURN] ++ bothLogFields) (fun s t => { putLogs s t with burns := s.burns }) s t) ∧
  (∀ (split : Bool) (s : State), Always (.fuseBurnDone split) s fun t =>
      SameMemory s t ∧ t.opt = s.opt ∧ t.slots = s.slots ∧ t.power = s.power ∧ t.cmac = s.cmac ∧ t.link = s.link ∧ t.bridges = s.bridges)

/-- The ends and aborts of scans, of the continuity test and of flow sequences, and each shot, change only registers of MADC, STRIP, PT and FLOW, the jobs of the analogue converter, the flow sequence and the logs: no register of any other block, no memory and no other component. -/
def Obligations.SensingResultFrames : Prop :=
  (∀ (current : Nat) (cells spans : List Reading) (taps : List Nat) (s : State), Always (.stripScanDone current cells spans taps) s fun t =>
      SameElsewhere [0x48005000, 0x48006000, 0x48007000, 0x48008000] (bothLogFields) s t ∧ SameMemory s t ∧ (fun s t => { t with flow := s.flow, freeCtr := s.freeCtr, logs := s.logs, madcQueue := s.madcQueue, madcRun := s.madcRun, regs := s.regs }) s t = s) ∧
  (∀ (opens : List Nat) (s : State), Always (.stripContDone opens) s fun t =>
      SameElsewhere [0x48005000, 0x48006000, 0x48007000, 0x48008000] (bothLogFields) s t ∧ SameMemory s t ∧ (fun s t => { t with flow := s.flow, freeCtr := s.freeCtr, logs := s.logs, madcQueue := s.madcQueue, madcRun := s.madcRun, regs := s.regs }) s t = s) ∧
  (∀ (cells : List Reading) (s : State), Always (.stripAbort cells) s fun t =>
      SameElsewhere [0x48005000, 0x48006000, 0x48007000, 0x48008000] (bothLogFields) s t ∧ SameMemory s t ∧ (fun s t => { t with flow := s.flow, freeCtr := s.freeCtr, logs := s.logs, madcQueue := s.madcQueue, madcRun := s.madcRun, regs := s.regs }) s t = s) ∧
  (∀ (current : Nat) (readA readB : Reading) (s : State), Always (.ptScanDone current readA readB) s fun t =>
      SameElsewhere [0x48005000, 0x48006000, 0x48007000, 0x48008000] (bothLogFields) s t ∧ SameMemory s t ∧ (fun s t => { t with flow := s.flow, freeCtr := s.freeCtr, logs := s.logs, madcQueue := s.madcQueue, madcRun := s.madcRun, regs := s.regs }) s t = s) ∧
  (∀ (reads : List Reading) (s : State), Always (.ptAbort reads) s fun t =>
      SameElsewhere [0x48005000, 0x48006000, 0x48007000, 0x48008000] (bothLogFields) s t ∧ SameMemory s t ∧ (fun s t => { t with flow := s.flow, freeCtr := s.freeCtr, logs := s.logs, madcQueue := s.madcQueue, madcRun := s.madcRun, regs := s.regs }) s t = s) ∧
  (∀ (count : Nat) (s : State), Always (.flowCalibration count) s fun t =>
      SameElsewhere [0x48005000, 0x48006000, 0x48007000, 0x48008000] (bothLogFields) s t ∧ SameMemory s t ∧ (fun s t => { t with flow := s.flow, freeCtr := s.freeCtr, logs := s.logs, madcQueue := s.madcQueue, madcRun := s.madcRun, regs := s.regs }) s t = s) ∧
  (∀ (s : State), Always (.flowVusLow) s fun t =>
      SameElsewhere [0x48005000, 0x48006000, 0x48007000, 0x48008000] (bothLogFields) s t ∧ SameMemory s t ∧ (fun s t => { t with flow := s.flow, freeCtr := s.freeCtr, logs := s.logs, madcQueue := s.madcQueue, madcRun := s.madcRun, regs := s.regs }) s t = s) ∧
  (∀ (rises peaks : List Nat) (opened shorted : Bool) (s : State), Always (.flowShot rises peaks opened shorted) s fun t =>
      SameElsewhere [0x48005000, 0x48006000, 0x48007000, 0x48008000] (bothLogFields) s t ∧ SameMemory s t ∧ (fun s t => { t with flow := s.flow, freeCtr := s.freeCtr, logs := s.logs, madcQueue := s.madcQueue, madcRun := s.madcRun, regs := s.regs }) s t = s) ∧
  (∀ (s : State), Always (.flowSequenceDone) s fun t =>
      SameElsewhere [0x48005000, 0x48006000, 0x48007000, 0x48008000] (bothLogFields) s t ∧ SameMemory s t ∧ (fun s t => { t with flow := s.flow, freeCtr := s.freeCtr, logs := s.logs, madcQueue := s.madcQueue, madcRun := s.madcRun, regs := s.regs }) s t = s) ∧
  (∀ (s : State), Always (.flowAbort) s fun t =>
      SameElsewhere [0x48005000, 0x48006000, 0x48007000, 0x48008000] (bothLogFields) s t ∧ SameMemory s t ∧ (fun s t => { t with flow := s.flow, freeCtr := s.freeCtr, logs := s.logs, madcQueue := s.madcQueue, madcRun := s.madcRun, regs := s.regs }) s t = s)

/-- Touch and tamper samples change only registers of the panel block and of the two power blocks (the wake), the service UART's wake mark, the panel's sequencers, the wakes and the logs: memory, the measurements and every other component are as before. -/
def Obligations.TouchAndTamperFrames : Prop :=
  (∀ (ch raw : Nat) (s : State), Always (.touchSample ch raw) s fun t =>
      SameElsewhere [0x40001000, 0x4000C000, 0x4000D000, 0x48001000, 0x48009000, 0x4800A000, 0x4800B000] (bothLogFields) s t ∧ SameMemory s t ∧ (fun s t => { t with logs := s.logs, power := s.power, copies := s.copies, appRail := s.appRail, metRail := s.metRail, freeCtr := s.freeCtr, regs := s.regs, seqr := s.seqr }) s t = s) ∧
  (∀ (ch raw : Nat) (s : State), Always (.touchStuck ch raw) s fun t =>
      SameElsewhere [0x40001000, 0x4000C000, 0x4000D000, 0x48001000, 0x48009000, 0x4800A000, 0x4800B000] (bothLogFields) s t ∧ SameMemory s t ∧ (fun s t => { t with logs := s.logs, power := s.power, copies := s.copies, appRail := s.appRail, metRail := s.metRail, freeCtr := s.freeCtr, regs := s.regs, seqr := s.seqr }) s t = s) ∧
  (∀ (n : Nat) (level : Bool) (s : State), Always (.tamperSample n level) s fun t =>
      SameElsewhere [0x40001000, 0x4000C000, 0x4000D000, 0x48001000, 0x48009000, 0x4800A000, 0x4800B000] (bothLogFields) s t ∧ SameMemory s t ∧ (fun s t => { t with logs := s.logs, power := s.power, copies := s.copies, appRail := s.appRail, metRail := s.metRail, freeCtr := s.freeCtr, regs := s.regs, seqr := s.seqr }) s t = s)

/-- KEY_LOAD, a wrapped load and KEY_UNWRAP change only registers of CMACE, DICT and LINK, the event log and the keys; memory, the Loft, the fuses and the power state are as before. The window of the boot side that KEY_UNWRAP also changes is FLASHC, by the record of a bit error that its loads meet; SYSCTL changes by the logs alone. -/
def Obligations.KeyFrames : Prop :=
  (∀ (ctl : Nat) (s : State), Always (.keyLoad ctl) s fun t =>
      SameElsewhere [0x40000000, 0x40006000, 0x40007000, 0x40009000] (logFields) s t ∧ SameMemory s t ∧ (fun s t => { t with boot := s.boot, cmac := s.cmac, freeCtr := s.freeCtr, logs := s.logs, regs := s.regs }) s t = s) ∧
  (∀ (ctl : Nat) (s : State), Always (.keyWrappedLoad ctl) s fun t =>
      SameElsewhere [0x40000000, 0x40006000, 0x40007000, 0x40009000] (logFields) s t ∧ SameMemory s t ∧ (fun s t => { t with boot := s.boot, cmac := s.cmac, freeCtr := s.freeCtr, logs := s.logs, regs := s.regs }) s t = s) ∧
  (∀ (a0 : Nat) (s : State), Always (.keyUnwrap a0) s fun t =>
      SameElsewhere [0x40003000, 0x40000000, 0x40005000, 0x40006000, 0x40007000, 0x40009000] (logFields) s t ∧ SameMemory s t ∧ (fun s t => { t with boot := s.boot, cmac := s.cmac, freeCtr := s.freeCtr, last := s.last, logs := s.logs, regs := s.regs }) s t = s)

/-- Each submission, attempt, reception window, beacon, radio failure and reservoir event changes registers of the windows listed for it alone and, where it logs, of the logs; none touches a measuring block or, beyond the logs and the voters' record, SYSCTL, and none but those listed with it a flash controller, DMA or UPDATE; memory is unchanged but for a slot that the time of a beacon fills; and every component of the state not listed is as before. -/
def Obligations.RadioAndLinkIsolation : Prop :=
  (∀ (s : State), Always (.synthCalDone) s fun t =>
      SameElsewhere [0x40000000, 0x40001000, 0x40007000, 0x40008000, 0x40009000, 0x4000A000, 0x4000B000, 0x4800C000] (bothLogFields) s t ∧ SameMemory s t ∧ (fun s t => { t with regs := s.regs, last := s.last, link := s.link, logs := s.logs, power := s.power, radio := s.radio, slots := s.slots, freeCtr := s.freeCtr, supply := s.supply, copies := s.copies, votes := s.votes, appRail := s.appRail, metRail := s.metRail }) s t = s) ∧
  (∀ (onAir : Nat) (s : State), Always (.rfSynthUnlock onAir) s fun t =>
      SameElsewhere [0x40000000, 0x40001000, 0x40007000, 0x40008000, 0x40009000, 0x4000A000, 0x4000B000, 0x4000C000, 0x4000D000, 0x48001000, 0x4800C000] (bothLogFields) s t ∧ SameMemory s t ∧ (fun s t => { t with regs := s.regs, dict := s.dict, dma := s.dma, freeCtr := s.freeCtr, last := s.last, link := s.link, logs := s.logs, power := s.power, radio := s.radio, requests := s.requests, slots := s.slots, supply := s.supply, copies := s.copies, votes := s.votes, appRail := s.appRail, metRail := s.metRail }) s t = s) ∧
  (∀ (onAir : Nat) (s : State), Always (.rfHfxoFail onAir) s fun t =>
      SameElsewhere [0x40000000, 0x40001000, 0x40007000, 0x40008000, 0x40009000, 0x4000A000, 0x4000B000, 0x4000C000, 0x4000D000, 0x40012000, 0x48001000, 0x48002000, 0x4800C000] (bothLogFields) s t ∧ SameMemory s t ∧ (fun s t => { t with regs := s.regs, dict := s.dict, dma := s.dma, freeCtr := s.freeCtr, last := s.last, link := s.link, logs := s.logs, power := s.power, radio := s.radio, requests := s.requests, slots := s.slots, supply := s.supply, copies := s.copies, votes := s.votes, appRail := s.appRail, metRail := s.metRail }) s t = s) ∧
  (∀ (losses : List Nat) (vres vbat : Nat) (s : State), Always (.tuneDone losses vres vbat) s fun t =>
      SameElsewhere [0x40000000, 0x40001000, 0x40002000, 0x40007000, 0x40008000, 0x40009000, 0x4000A000, 0x4000B000, 0x4000C000, 0x4000D000, 0x48001000, 0x4800C000] (bothLogFields) s t ∧ SameMemory s t ∧ (fun s t => { t with regs := s.regs, dict := s.dict, dma := s.dma, last := s.last, link := s.link, logs := s.logs, mirror := s.mirror, power := s.power, radio := s.radio, requests := s.requests, slots := s.slots, freeCtr := s.freeCtr, supply := s.supply, copies := s.copies, votes := s.votes, appRail := s.appRail, metRail := s.metRail }) s t = s) ∧
  (∀ (vres vbat : Nat) (temp : Int) (s : State), Always (.vresMeasurement vres vbat temp) s fun t =>
      SameElsewhere [0x40000000, 0x40001000, 0x40007000, 0x40008000, 0x40009000, 0x4000A000, 0x4000B000, 0x4000C000, 0x4000D000, 0x48001000, 0x4800C000] (bothLogFields) s t ∧ SameMemory s t ∧ (fun s t => { t with regs := s.regs, dict := s.dict, dma := s.dma, last := s.last, link := s.link, logs := s.logs, power := s.power, radio := s.radio, requests := s.requests, slots := s.slots, supply := s.supply, freeCtr := s.freeCtr, copies := s.copies, votes := s.votes, appRail := s.appRail, metRail := s.metRail }) s t = s) ∧
  (∀ (s : State), Always (.resSlow) s fun t =>
      SameElsewhere [0x40000000, 0x40001000, 0x40007000, 0x40008000, 0x40009000, 0x4000A000, 0x4000B000, 0x4000C000, 0x4000D000, 0x48001000, 0x4800C000] (bothLogFields) s t ∧ SameMemory s t ∧ (fun s t => { t with regs := s.regs, dict := s.dict, dma := s.dma, last := s.last, link := s.link, logs := s.logs, power := s.power, requests := s.requests, slots := s.slots, freeCtr := s.freeCtr, radio := s.radio, supply := s.supply, copies := s.copies, votes := s.votes, appRail := s.appRail, metRail := s.metRail }) s t = s) ∧
  (∀ (tAir : Nat) (s : State), Always (.resCollapse tAir) s fun t =>
      SameElsewhere [0x40000000, 0x40001000, 0x40007000, 0x40008000, 0x40009000, 0x4000A000, 0x4000B000, 0x4000C000, 0x4000D000, 0x48001000, 0x4800C000] (bothLogFields) s t ∧ SameMemory s t ∧ (fun s t => { t with regs := s.regs, dict := s.dict, dma := s.dma, last := s.last, link := s.link, logs := s.logs, power := s.power, requests := s.requests, slots := s.slots, freeCtr := s.freeCtr, radio := s.radio, supply := s.supply, copies := s.copies, votes := s.votes, appRail := s.appRail, metRail := s.metRail }) s t = s) ∧
  (∀ (slot : Nat) (s : State), Always (.frameSubmit slot) s fun t =>
      SameElsewhere [0x40000000, 0x40001000, 0x40007000, 0x40008000, 0x40009000, 0x4000A000, 0x4000B000, 0x4000C000, 0x4000D000, 0x48001000, 0x4800C000] (bothLogFields) s t ∧ SameMemory s t ∧ (fun s t => { t with regs := s.regs, dict := s.dict, dma := s.dma, last := s.last, link := s.link, logs := s.logs, power := s.power, requests := s.requests, slots := s.slots, freeCtr := s.freeCtr, radio := s.radio, supply := s.supply, copies := s.copies, votes := s.votes, appRail := s.appRail, metRail := s.metRail }) s t = s) ∧
  (∀ (k : Nat) (s : State), Always (.attemptStart k) s fun t =>
      SameElsewhere [0x40000000, 0x40001000, 0x40006000, 0x40007000, 0x40008000, 0x40009000, 0x4000A000, 0x4000B000, 0x4000C000, 0x4000D000, 0x48001000, 0x4800C000] (bothLogFields) s t ∧ SameMemory s t ∧ (fun s t => { t with regs := s.regs, cmac := s.cmac, dict := s.dict, dma := s.dma, freeCtr := s.freeCtr, last := s.last, link := s.link, logs := s.logs, power := s.power, requests := s.requests, slots := s.slots, radio := s.radio, supply := s.supply, copies := s.copies, votes := s.votes, appRail := s.appRail, metRail := s.metRail }) s t = s) ∧
  (∀ (vres vbat : Nat) (temp : Int) (s : State), Always (.backoffEnd vres vbat temp) s fun t =>
      SameElsewhere [0x40000000, 0x40001000, 0x40007000, 0x40008000, 0x40009000, 0x4000A000, 0x4000B000, 0x4000C000, 0x4000D000, 0x48001000, 0x4800C000] (bothLogFields) s t ∧ SameMemory s t ∧ (fun s t => { t with regs := s.regs, dict := s.dict, dma := s.dma, freeCtr := s.freeCtr, last := s.last, link := s.link, logs := s.logs, power := s.power, radio := s.radio, requests := s.requests, slots := s.slots, supply := s.supply, copies := s.copies, votes := s.votes, appRail := s.appRail, metRail := s.metRail }) s t = s) ∧
  (∀ (s : State), Always (.txStart) s fun t =>
      SameElsewhere [0x40000000, 0x40001000, 0x40007000, 0x40008000, 0x40009000, 0x4000A000, 0x4000B000, 0x4800C000] (bothLogFields) s t ∧ SameMemory s t ∧ (fun s t => { t with regs := s.regs, last := s.last, link := s.link, logs := s.logs, power := s.power, slots := s.slots, freeCtr := s.freeCtr, radio := s.radio, supply := s.supply, copies := s.copies, votes := s.votes, appRail := s.appRail, metRail := s.metRail }) s t = s) ∧
  (∀ (vres vbat : Nat) (rl : Nat) (s : State), Always (.ackSend vres vbat rl) s fun t =>
      SameElsewhere [0x40000000, 0x40001000, 0x40007000, 0x40008000, 0x40009000, 0x4000A000, 0x4000B000, 0x4000C000, 0x4000D000, 0x48001000, 0x4800C000] (bothLogFields) s t ∧ SameMemory s t ∧ (fun s t => { t with regs := s.regs, last := s.last, link := s.link, logs := s.logs, power := s.power, radio := s.radio, slots := s.slots, freeCtr := s.freeCtr, supply := s.supply, copies := s.copies, votes := s.votes, appRail := s.appRail, metRail := s.metRail }) s t = s) ∧
  (∀ (s : State), Always (.donePop) s fun t =>
      SameElsewhere [0x40000000, 0x40001000, 0x40007000, 0x40008000, 0x40009000, 0x4000A000, 0x4000B000, 0x4800C000] (bothLogFields) s t ∧ SameMemory s t ∧ (fun s t => { t with regs := s.regs, last := s.last, link := s.link, logs := s.logs, power := s.power, slots := s.slots, freeCtr := s.freeCtr, radio := s.radio, supply := s.supply, copies := s.copies, votes := s.votes, appRail := s.appRail, metRail := s.metRail }) s t = s) ∧
  (∀ (s : State), Always (.rxdataRead) s fun t =>
      SameElsewhere [0x40000000, 0x40001000, 0x40007000, 0x40008000, 0x40009000, 0x4000A000, 0x4000B000, 0x4800C000] (bothLogFields) s t ∧ SameMemory s t ∧ (fun s t => { t with regs := s.regs, freeCtr := s.freeCtr, last := s.last, link := s.link, logs := s.logs, power := s.power, slots := s.slots, radio := s.radio, supply := s.supply, copies := s.copies, votes := s.votes, appRail := s.appRail, metRail := s.metRail }) s t = s) ∧
  (∀ (s : State), Always (.alarmFrame) s fun t =>
      SameElsewhere [0x40000000, 0x40001000, 0x40007000, 0x40008000, 0x40009000, 0x4000A000, 0x4000B000, 0x4000C000, 0x4000D000, 0x48001000, 0x4800C000] (bothLogFields) s t ∧ SameMemory s t ∧ (fun s t => { t with regs := s.regs, dict := s.dict, dma := s.dma, last := s.last, link := s.link, logs := s.logs, power := s.power, requests := s.requests, slots := s.slots, freeCtr := s.freeCtr, radio := s.radio, supply := s.supply, copies := s.copies, votes := s.votes, appRail := s.appRail, metRail := s.metRail }) s t = s) ∧
  (∀ (s : State), Always (.responseWindowOpen) s fun t =>
      SameElsewhere [0x40000000, 0x40001000, 0x40007000, 0x40008000, 0x40009000, 0x4000A000, 0x4000B000, 0x4800C000] (bothLogFields) s t ∧ SameMemory s t ∧ (fun s t => { t with regs := s.regs, last := s.last, link := s.link, logs := s.logs, power := s.power, slots := s.slots, freeCtr := s.freeCtr, radio := s.radio, supply := s.supply, copies := s.copies, votes := s.votes, appRail := s.appRail, metRail := s.metRail }) s t = s) ∧
  (∀ (temp : Int) (s : State), Always (.gleanWindow temp) s fun t =>
      SameElsewhere [0x40000000, 0x40001000, 0x40007000, 0x40008000, 0x40009000, 0x4000A000, 0x4000B000, 0x4800C000] (bothLogFields) s t ∧ SameMemory s t ∧ (fun s t => { t with regs := s.regs, last := s.last, link := s.link, logs := s.logs, power := s.power, radio := s.radio, slots := s.slots, freeCtr := s.freeCtr, supply := s.supply, copies := s.copies, votes := s.votes, appRail := s.appRail, metRail := s.metRail }) s t = s) ∧
  (∀ (s : State), Always (.gleanWindowClose) s fun t =>
      SameElsewhere [0x40000000, 0x40001000, 0x40007000, 0x40008000, 0x40009000, 0x4000A000, 0x4000B000, 0x4800C000] (bothLogFields) s t ∧ SameMemory s t ∧ (fun s t => { t with regs := s.regs, last := s.last, link := s.link, logs := s.logs, power := s.power, radio := s.radio, slots := s.slots, freeCtr := s.freeCtr, supply := s.supply, copies := s.copies, votes := s.votes, appRail := s.appRail, metRail := s.metRail }) s t = s) ∧
  (∀ (temp : Int) (s : State), Always (.rescueListen temp) s fun t =>
      SameElsewhere [0x40000000, 0x40001000, 0x40007000, 0x40008000, 0x40009000, 0x4000A000, 0x4000B000, 0x4800C000] (bothLogFields) s t ∧ SameMemory s t ∧ (fun s t => { t with regs := s.regs, last := s.last, link := s.link, logs := s.logs, power := s.power, radio := s.radio, slots := s.slots, freeCtr := s.freeCtr, supply := s.supply, copies := s.copies, votes := s.votes, appRail := s.appRail, metRail := s.metRail }) s t = s) ∧
  (∀ (s : State), Always (.rescueListenEnd) s fun t =>
      SameElsewhere [0x40000000, 0x40001000, 0x40007000, 0x40008000, 0x40009000, 0x4000A000, 0x4000B000, 0x4800C000] (bothLogFields) s t ∧ SameMemory s t ∧ (fun s t => { t with regs := s.regs, last := s.last, link := s.link, logs := s.logs, power := s.power, radio := s.radio, slots := s.slots, freeCtr := s.freeCtr, supply := s.supply, copies := s.copies, votes := s.votes, appRail := s.appRail, metRail := s.metRail }) s t = s) ∧
  (∀ (s : State), Always (.dutyMinuteTick) s fun t =>
      SameElsewhere [0x40000000, 0x40001000, 0x40007000, 0x40008000, 0x40009000, 0x4000A000, 0x4000B000, 0x4000C000, 0x4000D000, 0x48001000, 0x4800C000] (bothLogFields) s t ∧ SameMemory s t ∧ (fun s t => { t with regs := s.regs, dict := s.dict, dma := s.dma, freeCtr := s.freeCtr, last := s.last, link := s.link, logs := s.logs, power := s.power, requests := s.requests, slots := s.slots, radio := s.radio, supply := s.supply, copies := s.copies, votes := s.votes, appRail := s.appRail, metRail := s.metRail }) s t = s) ∧
  (∀ (s : State), Always (.beaconSend) s fun t =>
      SameElsewhere [0x40000000, 0x40001000, 0x40007000, 0x40008000, 0x40009000, 0x4000A000, 0x4000B000, 0x4800C000] (bothLogFields) s t ∧ SameMemory s t ∧ (fun s t => { t with regs := s.regs, last := s.last, link := s.link, logs := s.logs, power := s.power, slots := s.slots, freeCtr := s.freeCtr, radio := s.radio, supply := s.supply, copies := s.copies, votes := s.votes, appRail := s.appRail, metRail := s.metRail }) s t = s) ∧
  (∀ (s : State), Always (.beaconProcess) s fun t =>
      SameElsewhere [0x40000000, 0x40001000, 0x40002000, 0x40007000, 0x40008000, 0x40009000, 0x4000A000, 0x4000B000, 0x4000C000, 0x4000D000, 0x48001000, 0x4800C000, 0x4800D000] (bothLogFields) s t ∧ SameMemoryButLoft s t ∧ (fun s t => { t with regs := s.regs, dict := s.dict, dma := s.dma, last := s.last, link := s.link, logs := s.logs, power := s.power, radio := s.radio, requests := s.requests, slots := s.slots, mem := s.mem, epochs := s.epochs, freeCtr := s.freeCtr, supply := s.supply, copies := s.copies, votes := s.votes, appRail := s.appRail, metRail := s.metRail }) s t = s) ∧
  (∀ (n : Nat) (s : State), Always (.parentAge n) s fun t =>
      SameElsewhere [0x40000000, 0x40001000, 0x40007000, 0x40008000, 0x40009000, 0x4000A000] (bothLogFields) s t ∧ SameMemory s t ∧ (fun s t => { t with regs := s.regs, link := s.link, logs := s.logs, freeCtr := s.freeCtr, power := s.power, radio := s.radio, supply := s.supply, copies := s.copies, votes := s.votes, appRail := s.appRail, metRail := s.metRail }) s t = s)

/-- A load of slot 0 is refused with RESULT 1; a wrapped load whose session slot is not VALID or lacks PRF with RESULT 2; a wrapped load whose template begins outside 0x20 to 0x2F with RESULT 3, the cases in that order. REFUSED is set, the event 0x0762 logged, and nothing else changes: no slot, no key, no memory. Where none of the cases holds the load is not refused: REFUSED stands as it was. -/
def Obligations.RefusedKeyLoadsChangeNoSlot : Prop :=
  (∀ (ctl : Nat) (s : State), bitsOf ctl 0 3 = 0 → s.railPowered .app = true → Completes (.keyLoad ctl) s fun t =>
      t.rd R.CMACE.KEY_STATUS.RESULT = 1 ∧ t.rd R.CMACE.KEY_STATUS.REFUSED = 1 ∧ Logged s t 0x0762 [] ∧
      Frame ([R.CMACE.KEY_STATUS.RESULT, R.CMACE.KEY_STATUS.REFUSED] ++ logFields) putLogs s t) ∧
  (∀ (ctl : Nat) (s : State), bitsOf ctl 0 3 = 0 → s.railPowered .app = true → Completes (.keyWrappedLoad ctl) s fun t =>
      t.rd R.CMACE.KEY_STATUS.RESULT = 1 ∧ t.rd R.CMACE.KEY_STATUS.REFUSED = 1 ∧ Logged s t 0x0762 [] ∧
      Frame ([R.CMACE.KEY_STATUS.RESULT, R.CMACE.KEY_STATUS.REFUSED] ++ logFields) putLogs s t) ∧
  (∀ (ctl : Nat) (s : State), bitsOf ctl 0 3 ≠ 0 → s.flag (R.CMACE.SLOT.VALID (8 + bitsOf ctl 13 1)) = false ∨ bit (s.rd (R.CMACE.SLOT.ATTR (8 + bitsOf ctl 13 1))) 2 = false → s.railPowered .app = true → Completes (.keyWrappedLoad ctl) s fun t =>
      t.rd R.CMACE.KEY_STATUS.RESULT = 2 ∧ t.rd R.CMACE.KEY_STATUS.REFUSED = 1 ∧ Logged s t 0x0762 [] ∧
      Frame ([R.CMACE.KEY_STATUS.RESULT, R.CMACE.KEY_STATUS.REFUSED] ++ logFields) putLogs s t) ∧
  (∀ (ctl : Nat) (s : State), bitsOf ctl 0 3 ≠ 0 → s.flag (R.CMACE.SLOT.VALID (8 + bitsOf ctl 13 1)) = true → bit (s.rd (R.CMACE.SLOT.ATTR (8 + bitsOf ctl 13 1))) 2 = true → s.rd (R.CMACE.IV.IV 0) % 256 < 0x20 ∨ 0x2F < s.rd (R.CMACE.IV.IV 0) % 256 → s.railPowered .app = true → Completes (.keyWrappedLoad ctl) s fun t =>
      t.rd R.CMACE.KEY_STATUS.RESULT = 3 ∧ t.rd R.CMACE.KEY_STATUS.REFUSED = 1 ∧ Logged s t 0x0762 [] ∧
      Frame ([R.CMACE.KEY_STATUS.RESULT, R.CMACE.KEY_STATUS.REFUSED] ++ logFields) putLogs s t) ∧
  (∀ (ctl : Nat) (s : State), bitsOf ctl 0 3 ≠ 0 → Completes (.keyLoad ctl) s fun t =>
      t.rd R.CMACE.KEY_STATUS.REFUSED = s.rd R.CMACE.KEY_STATUS.REFUSED ∧ t.rd R.CMACE.KEY_STATUS.RESULT = 0) ∧
  (∀ (ctl : Nat) (s : State), bitsOf ctl 0 3 ≠ 0 → s.flag (R.CMACE.SLOT.VALID (8 + bitsOf ctl 13 1)) = true → bit (s.rd (R.CMACE.SLOT.ATTR (8 + bitsOf ctl 13 1))) 2 = true → 0x20 ≤ s.rd (R.CMACE.IV.IV 0) % 256 → s.rd (R.CMACE.IV.IV 0) % 256 ≤ 0x2F → Completes (.keyWrappedLoad ctl) s fun t =>
      t.rd R.CMACE.KEY_STATUS.REFUSED = s.rd R.CMACE.KEY_STATUS.REFUSED ∧ t.rd R.CMACE.KEY_STATUS.RESULT = 0)

/-- A channel enabled with a descriptor whose SIZE is 3, whose CTL bits 31 to 29 are not zero, whose SRC or DST is not aligned to SIZE or whose NEXT is not word-aligned sets CAUSE 7 and its IRQ.ERR bit and clears EN, and no byte of memory changes; the operation by which every load of a descriptor arms a channel does the same, whatever stood in the channel before. -/
def Obligations.RefusedDescriptorsMoveNothing : Prop :=
  (∀ (ch : Nat) (s : State), ch < 8 → s.appOn = true → s.flag (R.DMA.CFG.EN ch) = false → s.flag (R.DMA.CFG.PAUSE ch) = false → s.ringMode ch = false → s.dmaCount ch ≠ 0 → (bitsOf (s.rd (R.DMA.CTL.CTL ch)) 16 2 = 3 ∨ bitsOf (s.rd (R.DMA.CTL.CTL ch)) 29 3 ≠ 0 ∨
    s.rd (R.DMA.SRC.ADDR ch) % 2 ^ bitsOf (s.rd (R.DMA.CTL.CTL ch)) 16 2 ≠ 0 ∨ s.rd (R.DMA.DST.ADDR ch) % 2 ^ bitsOf (s.rd (R.DMA.CTL.CTL ch)) 16 2 ≠ 0 ∨ s.rd (R.DMA.NEXT.NEXT ch) % 4 ≠ 0) → s.unitOut ch = false → Completes (.dmaEnable ch) s fun t =>
      t.rd (R.DMA.STAT.CAUSE ch) = 7 ∧ t.rdBit R.DMA.IRQ.ERR ch = true ∧ t.rd (R.DMA.CFG.EN ch) = 0 ∧ SameMemory s t) ∧
  (∀ (ch : Nat) (s : State), ch < 8 → (bitsOf (s.rd (R.DMA.CTL.CTL ch)) 16 2 = 3 ∨ bitsOf (s.rd (R.DMA.CTL.CTL ch)) 29 3 ≠ 0 ∨
    s.rd (R.DMA.SRC.ADDR ch) % 2 ^ bitsOf (s.rd (R.DMA.CTL.CTL ch)) 16 2 ≠ 0 ∨ s.rd (R.DMA.DST.ADDR ch) % 2 ^ bitsOf (s.rd (R.DMA.CTL.CTL ch)) 16 2 ≠ 0 ∨ s.rd (R.DMA.NEXT.NEXT ch) % 4 ≠ 0) →
      (s.dmaArm ch).rd (R.DMA.STAT.CAUSE ch) = 7 ∧ (s.dmaArm ch).rdBit R.DMA.IRQ.ERR ch = true ∧ (s.dmaArm ch).rd (R.DMA.CFG.EN ch) = 0 ∧ SameMemory s (s.dmaArm ch))

/-- At a reset by the ACORE watchdog, by software or by a BRIDGE lockup of the application side, every slot that APP, DMA or DICT owns becomes FREE with PUBLISH cleared, and a slot of MET or LINK is unaffected. -/
def Obligations.AppResetsFreeTheirSlots : Prop :=
  (∀ (onAir : Nat) (s : State), s.slots.length = 32 → s.acoreExecuting = true → s.awdtPeriod ≠ 0 → s.awake = true → s.rd R.AON.WDT.REMAIN = 0 → Completes (.acoreWatchdog onAir) s fun t =>
      ∀ n ∈ List.range 32, ((s.slot n).owner ∈ [ownApp, ownDma, ownDict] → (t.slot n).owner = 0 ∧ (t.slot n).publish = false) ∧
        ((s.slot n).owner ∈ [ownMet, ownLink] → t.slot n = s.slot n)) ∧
  (∀ (key onAir : Nat) (s : State), s.slots.length = 32 → key % 256 = 0xA5 → s.power.app.st = .on → Completes (.softwareReset key onAir) s fun t =>
      ∀ n ∈ List.range 32, ((s.slot n).owner ∈ [ownApp, ownDma, ownDict] → (t.slot n).owner = 0 ∧ (t.slot n).publish = false) ∧
        ((s.slot n).owner ∈ [ownMet, ownLink] → t.slot n = s.slot n)) ∧
  (∀ (id : Nat) (stall : Bool) (onAir : Nat) (ops : List Nat) (s : State), s.slots.length = 32 → isWordBridge id = true ∨ isPulseBridge id = true → bridgeSide id = .app → s.awake = true → (stall = true ∧ id ∈ s.bridges.pulses) ∨ (s.rd (R.BRIDGE.LOCKUP.LOCKUP_N .app) ≠ 0 ∧ s.rd (R.BRIDGE.LOCKUP.LOCKUP_N .app) ≤ s.bridges.runs.count id) → Completes (.bridgeLockup id stall onAir ops) s fun t =>
      ∀ n ∈ List.range 32, ((s.slot n).owner ∈ [ownApp, ownDma, ownDict] → (t.slot n).owner = 0 ∧ (t.slot n).publish = false) ∧
        ((s.slot n).owner ∈ [ownMet, ownLink] → t.slot n = s.slot n))

/-- MESH_GEN reads as before after a reset by either watchdog, by software or by a BRIDGE lockup, and after POR and NRESET it reads its reset value; a write from firmware below the value in force changes nothing, and one not below it is taken. -/
def Obligations.MeshGenerationSurvivesResets : Prop :=
  (∀ (onAir : Nat) (s : State), Always (.acoreWatchdog onAir) s fun t =>
      t.rd R.LINK.MESH_GEN.GEN = s.rd R.LINK.MESH_GEN.GEN) ∧
  (∀ (ops : List Nat) (s : State), Always (.mcoreWatchdog ops) s fun t =>
      t.rd R.LINK.MESH_GEN.GEN = s.rd R.LINK.MESH_GEN.GEN) ∧
  (∀ (key onAir : Nat) (s : State), Always (.softwareReset key onAir) s fun t =>
      t.rd R.LINK.MESH_GEN.GEN = s.rd R.LINK.MESH_GEN.GEN) ∧
  (∀ (id : Nat) (stall : Bool) (onAir : Nat) (ops : List Nat) (s : State), Always (.bridgeLockup id stall onAir ops) s fun t =>
      t.rd R.LINK.MESH_GEN.GEN = s.rd R.LINK.MESH_GEN.GEN) ∧
  (∀ (s : State), Completes (.porAssert) s fun t =>
      t.rd R.LINK.MESH_GEN.GEN = 0) ∧
  (∀ (onAir : Nat) (s : State), s.power.ship = false → s.resetHold = 0 → Completes (.nresetAssert onAir) s fun t =>
      t.rd R.LINK.MESH_GEN.GEN = 0) ∧
  (∀ (v : Nat) (s : State), v < s.rd R.LINK.MESH_GEN.GEN → Completes (.meshGenWrite v) s fun t =>
      t = s) ∧
  (∀ (v : Nat) (s : State), v < 2 ^ 32 → s.rd R.LINK.MESH_GEN.GEN ≤ v → Completes (.meshGenWrite v) s fun t =>
      t.rd R.LINK.MESH_GEN.GEN = v)

/-- A claim of a FREE slot, or of any slot, by a party other than MET while no more slots are FREE than MET_RSV is refused with NONE_FREE, changes no slot and is counted on the side of APP; a claim of MET is taken while a slot is FREE. A claim changes only its slot, the buffers of the Loft, registers of the Loft, DICT's list of stale callbacks, the logs and, where a CLAIM_ANY acts on no slot, the model's count of free values; a hand-over that no copy meets changes no memory. -/
def Obligations.LoftReserveAndFrames : Prop :=
  (∀ (party slot : Nat) (s : State), actsAs .app party = true → s.freeNow ≤ min 8 (s.rd R.MLOFTC.RESERVE.MET_RSV) → s.rd (R.LOFTC.STATS.REFUSED .app) < 0xFFFF → party ≠ ownMet → (s.slot (slot % 32)).owner = 0 → s.variant ≠ .c → s.railPowered .app = true → Completes (.claim .app party slot) s fun t =>
      t.rd (R.LOFTC.CMD_STATUS.RESULT .app) = loftNoneFree ∧ t.slots = s.slots ∧ t.rd (R.LOFTC.STATS.REFUSED .app) = s.rd (R.LOFTC.STATS.REFUSED .app) + 1 ∧
      Frame [R.LOFTC.CMD_STATUS.RESULT .app, R.LOFTC.CMD_STATUS.SLOT .app, R.LOFTC.STATS.REFUSED .app] putRegs s t) ∧
  (∀ (party : Nat) (s : State), actsAs .app party = true → s.freeNow ≤ min 8 (s.rd R.MLOFTC.RESERVE.MET_RSV) → s.rd (R.LOFTC.STATS.REFUSED .app) < 0xFFFF → party ≠ ownMet → s.variant ≠ .c → s.railPowered .app = true → Completes (.claimAny .app party) s fun t =>
      t.rd (R.LOFTC.CMD_STATUS.RESULT .app) = loftNoneFree ∧ t.slots = s.slots ∧ t.rd (R.LOFTC.STATS.REFUSED .app) = s.rd (R.LOFTC.STATS.REFUSED .app) + 1 ∧
      Frame [R.LOFTC.CMD_STATUS.RESULT .app, R.LOFTC.CMD_STATUS.SLOT .app, R.LOFTC.STATS.REFUSED .app] (fun s t => { putRegs s t with freeCtr := s.freeCtr }) s t) ∧
  (∀ (party : Nat) (s : State), s.freeNow ≠ 0 → s.slots.length = 32 → actsAs .met party = true → s.railPowered .met = true → s.variant ≠ .c → Completes (.claimAny .met party) s fun t =>
      t.rd (R.LOFTC.CMD_STATUS.RESULT .met) = loftOk ∧ (t.slot (t.rd (R.LOFTC.CMD_STATUS.SLOT .met))).owner = ownMet ∧
      (s.slot (t.rd (R.LOFTC.CMD_STATUS.SLOT .met))).owner = 0) ∧
  (∀ (sd : Side) (party slot : Nat) (s : State), Always (.claim sd party slot) s fun t =>
      SameElsewhere [0x4000B000, 0x4800C000] bothLogFields s t ∧ SameMemoryButLoft s t ∧
      (fun s t => { putLogs s t with slots := s.slots, mem := s.mem, epochs := s.epochs, dict := s.dict }) s t = s) ∧
  (∀ (sd : Side) (party : Nat) (s : State), Always (.claimAny sd party) s fun t =>
      SameElsewhere [0x4000B000, 0x4800C000] bothLogFields s t ∧ SameMemoryButLoft s t ∧
      (fun s t => { putLogs s t with slots := s.slots, mem := s.mem, epochs := s.epochs, dict := s.dict, freeCtr := s.freeCtr }) s t = s) ∧
  (∀ (sd : Side) (party slot target len : Nat) (s : State), s.copy = none → Always (.give sd party slot target len) s fun t =>
      SameElsewhere [0x40001000, 0x40007000, 0x4000B000, 0x4000C000, 0x4000D000, 0x48001000, 0x4800C000] (bothLogFields) s t ∧ SameMemory s t ∧ (fun s t => { t with regs := s.regs, dict := s.dict, dma := s.dma, logs := s.logs, power := s.power, copies := s.copies, appRail := s.appRail, metRail := s.metRail, freeCtr := s.freeCtr, requests := s.requests, slots := s.slots }) s t = s)

/-- What a plain write makes of a register where hardware updates it in the same window (the update is an operand of the write, log entry 123): a W1C flag that hardware sets stays set and the others clear by the written ones; a counter takes the written value and the increments on top of it, up to its greatest value; a plain RW field and a buffered field take the written value; a field that hardware writes as well keeps what hardware left in it. -/
def Obligations.ContestedWritesFollowTheCollisionCodes : Prop :=
  (∀ (req data bits adds : Nat) (env : List Nat) (s : State), s.accepts .app req = true → Completes (.registerWrite .app req 0x40011010 data { world := env, contest := { bits := bits, adds := adds } }) s fun t =>
      t.rd R.GPIO.CONTEND.CONTEND = clearBits (s.rd R.GPIO.CONTEND.CONTEND) (clearBits (data % 2 ^ 12) (bits % 2 ^ 12)) % 2 ^ 12 ∧ SameFields [R.GPIO.CONTEND.CONTEND] s t ∧ SameMemory s t) ∧
  (∀ (req data bits adds : Nat) (env : List Nat) (s : State), s.accepts .app req = true → Completes (.registerWrite .app req 0x40012018 data { world := env, contest := { bits := bits, adds := adds } }) s fun t =>
      t.rd (R.BRIDGE.COUNTS.TO_COUNT .app) = min (data % 2 ^ 16 + adds % 2 ^ 16) 0xFFFF ∧
      t.rd (R.BRIDGE.COUNTS.OVR_COUNT .app) = min (bitsOf data 16 16 + bitsOf adds 16 16) 0xFFFF ∧
      SameFields [R.BRIDGE.COUNTS.TO_COUNT .app, R.BRIDGE.COUNTS.OVR_COUNT .app] s t) ∧
  (∀ (req data bits adds : Nat) (f : Fld) (env : List Nat) (s : State), s.accepts .app req = true → f ∈ [R.GPIO.DIR.OUT, R.GPIO.OD.OD, R.GPIO.OUT.OUT] → Completes (.registerWrite .app req f.addr data { world := env, contest := { bits := bits, adds := adds } }) s fun t =>
      t.rd f = data % 2 ^ 12 ∧ SameFields [f] s t) ∧
  (∀ (req a data bits adds : Nat) (env : List Nat) (s : State), s.accepts .app req = true → a ∈ [0x40001008, 0x40001048, 0x40001064, 0x4001200C, 0x4000300C] → s.locked (windowBase a) = false → Completes (.registerWrite .app req a data { world := env, contest := { bits := bits, adds := adds } }) s fun t =>
      (∀ f ∈ regFields a, t.shadowRd f = bitsOf data f.lsb f.width ∧ t.rd f = s.rd f)) ∧
  (∀ (req data bits adds : Nat) (env : List Nat) (s : State), s.accepts .app req = true → bits % 2 ^ 32 ≠ 0 → Completes (.registerWrite .app req 0x40006080 data { world := env, contest := { bits := bits, adds := adds } }) s fun t =>
      t.rd (R.CMACE.IV.IV 0) = s.rd (R.CMACE.IV.IV 0))

/-- The pins of the front end float while RF is not On and in SHIP, and at rest with RF On stand at the levels of their polarities, PA_MODE at its bypass level; a transmission that starts selects its path at once and enables the external PA SW_GAP later; a test with the receiver that stops while no continuous reception goes on, and RF as it leaves On, leave the pins at rest; while an ultrasonic channel sends, its driver works with its receive pin disconnected, and the other channel's driver is at ground with its receive pin connected; in SHIP every GPIO, field pin and front-end pin is undriven and WAKE is sensed. -/
def Obligations.PinsFollowModesAndRadio : Prop :=
  (∀ (s : State) (k : Nat), s.power.ship = true ∨ s.power.rf.st ≠ .on → s.pinLevel (.front k) = .float) ∧
  (∀ (s : State) (k : Nat), s.power.ship = false → s.power.rf.st = .on → s.radio.pins = { pa := false, gain := false, tx := false, lna := false } → k < 4 →
      s.pinLevel (.front k) = if ((decide (k = 1) && s.radio.op.modeByp) != bit s.radio.op.pol k) = true then .high else .low) ∧
  (∀ (s : State) (ch : Nat), s.power.ship = false → s.power.met.st = .on → s.flow.sending = some ch → ch = 1 ∨ ch = 2 →
      s.pinLevel (.drive ch) = .works ∧ s.pinLevel (.receive ch) = .highZ ∧ s.receives ch = false ∧
        s.pinLevel (.drive (3 - ch)) = .ground ∧ s.pinLevel (.receive (3 - ch)) = .input ∧ s.receives (3 - ch) = true) ∧
  (∀ (s : State) (n : Nat), s.power.ship = true → s.pinLevel (.gpio n) = .float ∧ s.pinLevel (.fio n) = .float ∧
      s.pinLevel .wakePin = .shipSensed ∧ s.pinLevel .nreset = .notSensed) ∧
  (∀ (a : Attempt) (s : State), s.link.att = some a → a.phase = .ready → s.rfReady = true → a.frame.src = .slot → Completes (.txStart) s fun t =>
      t.radio.moves = (if a.ext then [(0, { pa := false, gain := true, tx := true, lna := false }), (s.radio.op.swGap, { pa := true, gain := true, tx := true, lna := false })] else [(0, { pa := false, gain := false, tx := true, lna := false })]) ∧
      t.radio.pins = { pa := a.ext, gain := a.ext, tx := true, lna := false }) ∧
  (∀ (onAir : Nat) (s : State), s.radio.test = 3 → s.listensOn = false → Completes (.testStop onAir) s fun t =>
      t.radio.pins = { pa := false, gain := false, tx := false, lna := false }) ∧
  (∀ (s : State), s.resetHold = 0 → s.power.ship = false → s.power.shipping = false → s.power.rf.entering = none → s.power.rf.exiting = false → s.power.rf.st = .on → s.demanded .rf ≠ .on → s.blocksBusy .rf = false → Completes (.domainEntry .rf true) s fun t =>
      t.radio.pins = { pa := false, gain := false, tx := false, lna := false } ∧ t.power.rf.st = s.demanded .rf)
end

