-- ==== Sys2Proof/Laws/Registers.lean ====
section
/-! SUPPORT. The register file: what a read gives after a write, and the canonical form that every write keeps. -/

namespace Sys2Proof.Machine

open Sys2Proof

/-! ### Lists of entries by key -/

theorem RegFile.find_insert_self (r : RegFile) (k v : Nat) : RegFile.find (RegFile.insert (k, v) r) k = some v := by
  induction r with
  | nil => simp [RegFile.insert, RegFile.find]
  | cons x r ih =>
    by_cases h : x.1 < k
    · have : x.1 ≠ k := Nat.ne_of_lt h
      simp [RegFile.insert, RegFile.find, h, this, ih]
    · simp [RegFile.insert, RegFile.find, h]

theorem RegFile.find_insert_ne (r : RegFile) {k j : Nat} (v : Nat) (h : k ≠ j) :
    RegFile.find (RegFile.insert (k, v) r) j = RegFile.find r j := by
  induction r with
  | nil => simp [RegFile.insert, RegFile.find, h]
  | cons x r ih =>
    by_cases hx : x.1 < k
    · simp [RegFile.insert, RegFile.find, hx, ih]
    · simp [RegFile.insert, RegFile.find, hx, h]

theorem RegFile.find_filter (r : RegFile) (p : Nat → Bool) (j : Nat) :
    RegFile.find (r.filter (fun e => p e.1)) j = if p j then RegFile.find r j else none := by
  induction r with
  | nil => simp [RegFile.find]
  | cons x r ih =>
    by_cases hx : x.1 = j
    · subst hx
      by_cases hp : p x.1 <;> simp [RegFile.find, hp, ih]
    · by_cases hp : p x.1 <;> simp [RegFile.find, hx, hp, ih]

/-- A key reads what was put. -/
theorem RegFile.find_put_self (r : RegFile) (k v : Nat) : RegFile.find (r.put k v) k = some v :=
  RegFile.find_insert_self _ _ _

/-- Another key reads as before. -/
theorem RegFile.find_put_ne (r : RegFile) {k j : Nat} (v : Nat) (h : k ≠ j) :
    RegFile.find (r.put k v) j = RegFile.find r j := by
  have hj : (j != k) = true := by simpa using fun e : j = k => h e.symm
  simp [RegFile.put, RegFile.drop, RegFile.find_insert_ne _ _ h, RegFile.find_filter r (fun n => n != k) j, hj]

/-! ### The canonical form -/

/-- The keys of a file in order, each above a bound. -/
theorem RegFile.wf_cons (x : Nat × Nat) (r : RegFile) :
    RegFile.wf (x :: r) = true ↔ (∀ y ∈ r.head?, x.1 < y.1) ∧ RegFile.wf r = true := by
  cases r <;> simp [RegFile.wf]

theorem RegFile.wf_lt {x : Nat × Nat} {r : RegFile} (h : RegFile.wf (x :: r) = true) : ∀ y ∈ r, x.1 < y.1 := by
  induction r generalizing x with
  | nil => simp
  | cons z r ih =>
    have h2 := (RegFile.wf_cons x (z :: r)).1 h
    have hz : x.1 < z.1 := h2.1 z (by simp)
    intro y hy
    cases List.mem_cons.1 hy with
    | inl e => exact e ▸ hz
    | inr hm => exact Nat.lt_trans hz (ih h2.2 y hm)

theorem RegFile.wf_of_lt {x : Nat × Nat} {r : RegFile} (h : ∀ y ∈ r, x.1 < y.1) (hr : RegFile.wf r = true) :
    RegFile.wf (x :: r) = true := by
  refine (RegFile.wf_cons x r).2 ⟨fun y hy => h y (List.mem_of_mem_head? hy), hr⟩

theorem RegFile.wf_filter {r : RegFile} (p : Nat × Nat → Bool) (h : RegFile.wf r = true) :
    RegFile.wf (r.filter p) = true := by
  induction r with
  | nil => simp [RegFile.wf]
  | cons x r ih =>
    have hr := ((RegFile.wf_cons x r).1 h).2
    by_cases hp : p x = true
    · rw [List.filter_cons_of_pos hp]
      exact RegFile.wf_of_lt (fun y hy => RegFile.wf_lt h y ((List.mem_filter.1 hy).1)) (ih hr)
    · rw [List.filter_cons_of_neg hp]
      exact ih hr

theorem RegFile.mem_insert {e y : Nat × Nat} {r : RegFile} (h : y ∈ RegFile.insert e r) : y = e ∨ y ∈ r := by
  induction r with
  | nil => simpa [RegFile.insert] using h
  | cons x r ih =>
    by_cases hx : x.1 < e.1
    · rw [RegFile.insert, if_pos hx] at h
      rcases List.mem_cons.1 h with e' | hm
      · exact .inr (by simp [e'])
      · rcases ih hm with e' | hm'
        · exact .inl e'
        · exact .inr (by simp [hm'])
    · rw [RegFile.insert, if_neg hx] at h
      rcases List.mem_cons.1 h with e' | hm
      · exact .inl e'
      · exact .inr hm

theorem RegFile.wf_insert {r : RegFile} {k v : Nat} (h : RegFile.wf r = true) (hk : ∀ y ∈ r, y.1 ≠ k) :
    RegFile.wf (RegFile.insert (k, v) r) = true := by
  induction r with
  | nil => rfl
  | cons x r ih =>
    have hr := ((RegFile.wf_cons x r).1 h).2
    by_cases hx : x.1 < k
    · rw [RegFile.insert, if_pos hx]
      refine RegFile.wf_of_lt (fun y hy => ?_) (ih hr (fun y hy => hk y (by simp [hy])))
      rcases RegFile.mem_insert hy with e | hm
      · exact e ▸ hx
      · exact RegFile.wf_lt h y hm
    · rw [RegFile.insert, if_neg hx]
      have hxk : k < x.1 := by have := hk x (by simp); omega
      refine RegFile.wf_of_lt (fun y hy => ?_) h
      rcases List.mem_cons.1 hy with e | hm
      · exact e ▸ hxk
      · exact Nat.lt_trans hxk (RegFile.wf_lt h y hm)

/-- A file stays canonical when a key is put. -/
theorem RegFile.wf_put {r : RegFile} (k v : Nat) (h : RegFile.wf r = true) : RegFile.wf (r.put k v) = true := by
  refine RegFile.wf_insert (RegFile.wf_filter _ h) (fun y hy => ?_)
  have := (List.mem_filter.1 hy).2
  simpa using this

/-! ### Fields -/

/-- A field reads the low bits of what was written. -/
@[simp] theorem State.rd_wr_self (s : State) (f : Fld) (v : Nat) : (s.wr f v).rd f = v % 2 ^ f.width := by
  simp [State.rd, State.wr, RegFile.find_put_self]

/-- Another field reads as before. -/
theorem State.rd_wr_ne (s : State) {f g : Fld} (v : Nat) (h : f.key ≠ g.key) : (s.wr f v).rd g = s.rd g := by
  simp [State.rd, State.wr, RegFile.find_put_ne _ _ h]

/-- Fields whose places are proper: within a word. -/
def Fld.proper (f : Fld) : Prop := f.lsb < 32 ∧ f.width < 64

/-- The key tells proper fields of different addresses apart. -/
theorem Fld.key_ne {f g : Fld} (hf : Fld.proper f) (hg : Fld.proper g) (h : f.addr ≠ g.addr) : f.key ≠ g.key := by
  obtain ⟨hf1, hf2⟩ := hf
  obtain ⟨hg1, hg2⟩ := hg
  simp only [Fld.key]
  omega

theorem State.raise_eq (s : State) (f : Fld) : s.raise f = s.wr f 1 := rfl
theorem State.clear_eq (s : State) (f : Fld) : s.clear f = s.wr f 0 := rfl
theorem State.wrBool_eq (s : State) (f : Fld) (b : Bool) : s.wrBool f b = s.wr f (b2n b) := rfl
theorem State.count_eq (s : State) (f : Fld) (k : Nat) :
    s.count f k = s.wr f (satAdd (2 ^ f.width - 1) (s.rd f) k) := rfl
theorem State.wrBit_eq (s : State) (f : Fld) (n : Nat) (b : Bool) :
    s.wrBit f n b = s.wr f (s.rd f - 2 ^ n * b2n (bit (s.rd f) n) + 2 ^ n * b2n b) := rfl

/-- The file of the registers stays canonical when a field is written. -/
theorem State.wf_wr {s : State} (f : Fld) (v : Nat) (h : RegFile.wf s.regs = true) : RegFile.wf (s.wr f v).regs = true :=
  RegFile.wf_put _ _ h

end Sys2Proof.Machine
end

