-- ==== Sys2Proof/Laws/State.lean ====
section
/-! SUPPORT. What the plain updates of State leave alone.  For each update one equation says which components it touches, and
one lemma says field by field that every other component is as before: as a simp lemma it gives one rewriting for each field,
so that no later proof unfolds a record update. -/

namespace Sys2Proof.Machine

open Sys2Proof

/-- A register field written. -/
theorem State.wr_only (s : State) (f : Fld) (v : Nat) :
    s.wr f v = { s with regs := (s.wr f v).regs } := rfl

@[simp] theorem State.wr_keeps (s : State) (f : Fld) (v : Nat) :
    (s.wr f v).variant = s.variant ∧ (s.wr f v).shadow = s.shadow ∧ (s.wr f v).mirror = s.mirror ∧
    (s.wr f v).metMirror = s.metMirror ∧ (s.wr f v).rfMirror = s.rfMirror ∧ (s.wr f v).copies = s.copies ∧
    (s.wr f v).xoLost = s.xoLost ∧ (s.wr f v).mem = s.mem ∧ (s.wr f v).epochs = s.epochs ∧ (s.wr f v).freeCtr = s.freeCtr ∧
    (s.wr f v).logs = s.logs ∧ (s.wr f v).last = s.last ∧ (s.wr f v).bridges = s.bridges ∧ (s.wr f v).appRail = s.appRail ∧
    (s.wr f v).metRail = s.metRail ∧ (s.wr f v).power = s.power ∧ (s.wr f v).supply = s.supply ∧ (s.wr f v).opt = s.opt ∧
    (s.wr f v).otp = s.otp ∧ (s.wr f v).burns = s.burns ∧ (s.wr f v).lfxoArmed = s.lfxoArmed ∧
    (s.wr f v).rtcOnTosc = s.rtcOnTosc ∧ (s.wr f v).rtcMoves = s.rtcMoves ∧ (s.wr f v).flashSeqs = s.flashSeqs ∧
    (s.wr f v).protEntry = s.protEntry ∧ (s.wr f v).appFlash = s.appFlash ∧ (s.wr f v).metFlash = s.metFlash ∧
    (s.wr f v).flashMarks = s.flashMarks ∧ (s.wr f v).flashHeaders = s.flashHeaders ∧
    (s.wr f v).flashCache = s.flashCache ∧ (s.wr f v).mxoFrozen = s.mxoFrozen ∧
    (s.wr f v).activeWritten = s.activeWritten ∧ (s.wr f v).slots = s.slots ∧ (s.wr f v).copy = s.copy ∧
    (s.wr f v).madcRun = s.madcRun ∧ (s.wr f v).madcQueue = s.madcQueue ∧ (s.wr f v).flow = s.flow ∧
    (s.wr f v).seqr = s.seqr ∧ (s.wr f v).mrom = s.mrom ∧ (s.wr f v).boot = s.boot ∧ (s.wr f v).ports = s.ports ∧
    (s.wr f v).radio = s.radio ∧ (s.wr f v).link = s.link ∧ (s.wr f v).requests = s.requests ∧
    (s.wr f v).fabric = s.fabric ∧ (s.wr f v).votes = s.votes ∧ (s.wr f v).resetHold = s.resetHold ∧
    (s.wr f v).dict = s.dict ∧ (s.wr f v).cmac = s.cmac ∧ (s.wr f v).dma = s.dma ∧ (s.wr f v).update = s.update ∧
    (s.wr f v).pending = s.pending := by
  rw [State.wr_only]
  and_intros <;> rfl

/-- A byte of memory written. -/
theorem State.setByte_only (s : State) (a : Nat) (b : Byte) :
    s.setByte a b = { s with mem := (s.setByte a b).mem } := rfl

@[simp] theorem State.setByte_keeps (s : State) (a : Nat) (b : Byte) :
    (s.setByte a b).variant = s.variant ∧ (s.setByte a b).regs = s.regs ∧ (s.setByte a b).shadow = s.shadow ∧
    (s.setByte a b).mirror = s.mirror ∧ (s.setByte a b).metMirror = s.metMirror ∧ (s.setByte a b).rfMirror = s.rfMirror ∧
    (s.setByte a b).copies = s.copies ∧ (s.setByte a b).xoLost = s.xoLost ∧ (s.setByte a b).epochs = s.epochs ∧
    (s.setByte a b).freeCtr = s.freeCtr ∧ (s.setByte a b).logs = s.logs ∧ (s.setByte a b).last = s.last ∧
    (s.setByte a b).bridges = s.bridges ∧ (s.setByte a b).appRail = s.appRail ∧ (s.setByte a b).metRail = s.metRail ∧
    (s.setByte a b).power = s.power ∧ (s.setByte a b).supply = s.supply ∧ (s.setByte a b).opt = s.opt ∧
    (s.setByte a b).otp = s.otp ∧ (s.setByte a b).burns = s.burns ∧ (s.setByte a b).lfxoArmed = s.lfxoArmed ∧
    (s.setByte a b).rtcOnTosc = s.rtcOnTosc ∧ (s.setByte a b).rtcMoves = s.rtcMoves ∧
    (s.setByte a b).flashSeqs = s.flashSeqs ∧ (s.setByte a b).protEntry = s.protEntry ∧
    (s.setByte a b).appFlash = s.appFlash ∧ (s.setByte a b).metFlash = s.metFlash ∧
    (s.setByte a b).flashMarks = s.flashMarks ∧ (s.setByte a b).flashHeaders = s.flashHeaders ∧
    (s.setByte a b).flashCache = s.flashCache ∧ (s.setByte a b).mxoFrozen = s.mxoFrozen ∧
    (s.setByte a b).activeWritten = s.activeWritten ∧ (s.setByte a b).slots = s.slots ∧ (s.setByte a b).copy = s.copy ∧
    (s.setByte a b).madcRun = s.madcRun ∧ (s.setByte a b).madcQueue = s.madcQueue ∧ (s.setByte a b).flow = s.flow ∧
    (s.setByte a b).seqr = s.seqr ∧ (s.setByte a b).mrom = s.mrom ∧ (s.setByte a b).boot = s.boot ∧
    (s.setByte a b).ports = s.ports ∧ (s.setByte a b).radio = s.radio ∧ (s.setByte a b).link = s.link ∧
    (s.setByte a b).requests = s.requests ∧ (s.setByte a b).fabric = s.fabric ∧ (s.setByte a b).votes = s.votes ∧
    (s.setByte a b).resetHold = s.resetHold ∧ (s.setByte a b).dict = s.dict ∧ (s.setByte a b).cmac = s.cmac ∧
    (s.setByte a b).dma = s.dma ∧ (s.setByte a b).update = s.update ∧ (s.setByte a b).pending = s.pending := by
  rw [State.setByte_only]
  and_intros <;> rfl

/-- Bytes of memory written. -/
theorem State.setBytes_only (s : State) (a : Nat) (l : List Nat) :
    s.setBytes a l = { s with mem := (s.setBytes a l).mem } := by
  induction l generalizing s a with
  | nil => rfl
  | cons b l ih => exact ih (s.setByte a (BitVec.ofNat 8 b)) (a + 1)

@[simp] theorem State.setBytes_keeps (s : State) (a : Nat) (l : List Nat) :
    (s.setBytes a l).variant = s.variant ∧ (s.setBytes a l).regs = s.regs ∧ (s.setBytes a l).shadow = s.shadow ∧
    (s.setBytes a l).mirror = s.mirror ∧ (s.setBytes a l).metMirror = s.metMirror ∧
    (s.setBytes a l).rfMirror = s.rfMirror ∧ (s.setBytes a l).copies = s.copies ∧ (s.setBytes a l).xoLost = s.xoLost ∧
    (s.setBytes a l).epochs = s.epochs ∧ (s.setBytes a l).freeCtr = s.freeCtr ∧ (s.setBytes a l).logs = s.logs ∧
    (s.setBytes a l).last = s.last ∧ (s.setBytes a l).bridges = s.bridges ∧ (s.setBytes a l).appRail = s.appRail ∧
    (s.setBytes a l).metRail = s.metRail ∧ (s.setBytes a l).power = s.power ∧ (s.setBytes a l).supply = s.supply ∧
    (s.setBytes a l).opt = s.opt ∧ (s.setBytes a l).otp = s.otp ∧ (s.setBytes a l).burns = s.burns ∧
    (s.setBytes a l).lfxoArmed = s.lfxoArmed ∧ (s.setBytes a l).rtcOnTosc = s.rtcOnTosc ∧
    (s.setBytes a l).rtcMoves = s.rtcMoves ∧ (s.setBytes a l).flashSeqs = s.flashSeqs ∧
    (s.setBytes a l).protEntry = s.protEntry ∧ (s.setBytes a l).appFlash = s.appFlash ∧
    (s.setBytes a l).metFlash = s.metFlash ∧ (s.setBytes a l).flashMarks = s.flashMarks ∧
    (s.setBytes a l).flashHeaders = s.flashHeaders ∧ (s.setBytes a l).flashCache = s.flashCache ∧
    (s.setBytes a l).mxoFrozen = s.mxoFrozen ∧ (s.setBytes a l).activeWritten = s.activeWritten ∧
    (s.setBytes a l).slots = s.slots ∧ (s.setBytes a l).copy = s.copy ∧ (s.setBytes a l).madcRun = s.madcRun ∧
    (s.setBytes a l).madcQueue = s.madcQueue ∧ (s.setBytes a l).flow = s.flow ∧ (s.setBytes a l).seqr = s.seqr ∧
    (s.setBytes a l).mrom = s.mrom ∧ (s.setBytes a l).boot = s.boot ∧ (s.setBytes a l).ports = s.ports ∧
    (s.setBytes a l).radio = s.radio ∧ (s.setBytes a l).link = s.link ∧ (s.setBytes a l).requests = s.requests ∧
    (s.setBytes a l).fabric = s.fabric ∧ (s.setBytes a l).votes = s.votes ∧ (s.setBytes a l).resetHold = s.resetHold ∧
    (s.setBytes a l).dict = s.dict ∧ (s.setBytes a l).cmac = s.cmac ∧ (s.setBytes a l).dma = s.dma ∧
    (s.setBytes a l).update = s.update ∧ (s.setBytes a l).pending = s.pending := by
  rw [State.setBytes_only]
  and_intros <;> rfl

/-- The cells of a range dropped. -/
theorem State.forget_only (s : State) (lo hi : Nat) :
    s.forget lo hi = { s with mem := (s.forget lo hi).mem } := rfl

@[simp] theorem State.forget_keeps (s : State) (lo hi : Nat) :
    (s.forget lo hi).variant = s.variant ∧ (s.forget lo hi).regs = s.regs ∧ (s.forget lo hi).shadow = s.shadow ∧
    (s.forget lo hi).mirror = s.mirror ∧ (s.forget lo hi).metMirror = s.metMirror ∧
    (s.forget lo hi).rfMirror = s.rfMirror ∧ (s.forget lo hi).copies = s.copies ∧ (s.forget lo hi).xoLost = s.xoLost ∧
    (s.forget lo hi).epochs = s.epochs ∧ (s.forget lo hi).freeCtr = s.freeCtr ∧ (s.forget lo hi).logs = s.logs ∧
    (s.forget lo hi).last = s.last ∧ (s.forget lo hi).bridges = s.bridges ∧ (s.forget lo hi).appRail = s.appRail ∧
    (s.forget lo hi).metRail = s.metRail ∧ (s.forget lo hi).power = s.power ∧ (s.forget lo hi).supply = s.supply ∧
    (s.forget lo hi).opt = s.opt ∧ (s.forget lo hi).otp = s.otp ∧ (s.forget lo hi).burns = s.burns ∧
    (s.forget lo hi).lfxoArmed = s.lfxoArmed ∧ (s.forget lo hi).rtcOnTosc = s.rtcOnTosc ∧
    (s.forget lo hi).rtcMoves = s.rtcMoves ∧ (s.forget lo hi).flashSeqs = s.flashSeqs ∧
    (s.forget lo hi).protEntry = s.protEntry ∧ (s.forget lo hi).appFlash = s.appFlash ∧
    (s.forget lo hi).metFlash = s.metFlash ∧ (s.forget lo hi).flashMarks = s.flashMarks ∧
    (s.forget lo hi).flashHeaders = s.flashHeaders ∧ (s.forget lo hi).flashCache = s.flashCache ∧
    (s.forget lo hi).mxoFrozen = s.mxoFrozen ∧ (s.forget lo hi).activeWritten = s.activeWritten ∧
    (s.forget lo hi).slots = s.slots ∧ (s.forget lo hi).copy = s.copy ∧ (s.forget lo hi).madcRun = s.madcRun ∧
    (s.forget lo hi).madcQueue = s.madcQueue ∧ (s.forget lo hi).flow = s.flow ∧ (s.forget lo hi).seqr = s.seqr ∧
    (s.forget lo hi).mrom = s.mrom ∧ (s.forget lo hi).boot = s.boot ∧ (s.forget lo hi).ports = s.ports ∧
    (s.forget lo hi).radio = s.radio ∧ (s.forget lo hi).link = s.link ∧ (s.forget lo hi).requests = s.requests ∧
    (s.forget lo hi).fabric = s.fabric ∧ (s.forget lo hi).votes = s.votes ∧ (s.forget lo hi).resetHold = s.resetHold ∧
    (s.forget lo hi).dict = s.dict ∧ (s.forget lo hi).cmac = s.cmac ∧ (s.forget lo hi).dma = s.dma ∧
    (s.forget lo hi).update = s.update ∧ (s.forget lo hi).pending = s.pending := by
  rw [State.forget_only]
  and_intros <;> rfl

/-- The content of a memory region lost. -/
theorem State.loseRegion_only (s : State) (r lo hi : Nat) :
    s.loseRegion r lo hi = { s with mem := (s.loseRegion r lo hi).mem, epochs := (s.loseRegion r lo hi).epochs } := rfl

@[simp] theorem State.loseRegion_keeps (s : State) (r lo hi : Nat) :
    (s.loseRegion r lo hi).variant = s.variant ∧ (s.loseRegion r lo hi).regs = s.regs ∧
    (s.loseRegion r lo hi).shadow = s.shadow ∧ (s.loseRegion r lo hi).mirror = s.mirror ∧
    (s.loseRegion r lo hi).metMirror = s.metMirror ∧ (s.loseRegion r lo hi).rfMirror = s.rfMirror ∧
    (s.loseRegion r lo hi).copies = s.copies ∧ (s.loseRegion r lo hi).xoLost = s.xoLost ∧
    (s.loseRegion r lo hi).freeCtr = s.freeCtr ∧ (s.loseRegion r lo hi).logs = s.logs ∧
    (s.loseRegion r lo hi).last = s.last ∧ (s.loseRegion r lo hi).bridges = s.bridges ∧
    (s.loseRegion r lo hi).appRail = s.appRail ∧ (s.loseRegion r lo hi).metRail = s.metRail ∧
    (s.loseRegion r lo hi).power = s.power ∧ (s.loseRegion r lo hi).supply = s.supply ∧
    (s.loseRegion r lo hi).opt = s.opt ∧ (s.loseRegion r lo hi).otp = s.otp ∧ (s.loseRegion r lo hi).burns = s.burns ∧
    (s.loseRegion r lo hi).lfxoArmed = s.lfxoArmed ∧ (s.loseRegion r lo hi).rtcOnTosc = s.rtcOnTosc ∧
    (s.loseRegion r lo hi).rtcMoves = s.rtcMoves ∧ (s.loseRegion r lo hi).flashSeqs = s.flashSeqs ∧
    (s.loseRegion r lo hi).protEntry = s.protEntry ∧ (s.loseRegion r lo hi).appFlash = s.appFlash ∧
    (s.loseRegion r lo hi).metFlash = s.metFlash ∧ (s.loseRegion r lo hi).flashMarks = s.flashMarks ∧
    (s.loseRegion r lo hi).flashHeaders = s.flashHeaders ∧ (s.loseRegion r lo hi).flashCache = s.flashCache ∧
    (s.loseRegion r lo hi).mxoFrozen = s.mxoFrozen ∧ (s.loseRegion r lo hi).activeWritten = s.activeWritten ∧
    (s.loseRegion r lo hi).slots = s.slots ∧ (s.loseRegion r lo hi).copy = s.copy ∧
    (s.loseRegion r lo hi).madcRun = s.madcRun ∧ (s.loseRegion r lo hi).madcQueue = s.madcQueue ∧
    (s.loseRegion r lo hi).flow = s.flow ∧ (s.loseRegion r lo hi).seqr = s.seqr ∧ (s.loseRegion r lo hi).mrom = s.mrom ∧
    (s.loseRegion r lo hi).boot = s.boot ∧ (s.loseRegion r lo hi).ports = s.ports ∧
    (s.loseRegion r lo hi).radio = s.radio ∧ (s.loseRegion r lo hi).link = s.link ∧
    (s.loseRegion r lo hi).requests = s.requests ∧ (s.loseRegion r lo hi).fabric = s.fabric ∧
    (s.loseRegion r lo hi).votes = s.votes ∧ (s.loseRegion r lo hi).resetHold = s.resetHold ∧
    (s.loseRegion r lo hi).dict = s.dict ∧ (s.loseRegion r lo hi).cmac = s.cmac ∧ (s.loseRegion r lo hi).dma = s.dma ∧
    (s.loseRegion r lo hi).update = s.update ∧ (s.loseRegion r lo hi).pending = s.pending := by
  rw [State.loseRegion_only]
  and_intros <;> rfl

/-- An access answered. -/
theorem State.done_only (s : State) (d : Nat) :
    s.done d = { s with last := (s.done d).last } := rfl

@[simp] theorem State.done_keeps (s : State) (d : Nat) :
    (s.done d).variant = s.variant ∧ (s.done d).regs = s.regs ∧ (s.done d).shadow = s.shadow ∧
    (s.done d).mirror = s.mirror ∧ (s.done d).metMirror = s.metMirror ∧ (s.done d).rfMirror = s.rfMirror ∧
    (s.done d).copies = s.copies ∧ (s.done d).xoLost = s.xoLost ∧ (s.done d).mem = s.mem ∧ (s.done d).epochs = s.epochs ∧
    (s.done d).freeCtr = s.freeCtr ∧ (s.done d).logs = s.logs ∧ (s.done d).bridges = s.bridges ∧
    (s.done d).appRail = s.appRail ∧ (s.done d).metRail = s.metRail ∧ (s.done d).power = s.power ∧
    (s.done d).supply = s.supply ∧ (s.done d).opt = s.opt ∧ (s.done d).otp = s.otp ∧ (s.done d).burns = s.burns ∧
    (s.done d).lfxoArmed = s.lfxoArmed ∧ (s.done d).rtcOnTosc = s.rtcOnTosc ∧ (s.done d).rtcMoves = s.rtcMoves ∧
    (s.done d).flashSeqs = s.flashSeqs ∧ (s.done d).protEntry = s.protEntry ∧ (s.done d).appFlash = s.appFlash ∧
    (s.done d).metFlash = s.metFlash ∧ (s.done d).flashMarks = s.flashMarks ∧ (s.done d).flashHeaders = s.flashHeaders ∧
    (s.done d).flashCache = s.flashCache ∧ (s.done d).mxoFrozen = s.mxoFrozen ∧
    (s.done d).activeWritten = s.activeWritten ∧ (s.done d).slots = s.slots ∧ (s.done d).copy = s.copy ∧
    (s.done d).madcRun = s.madcRun ∧ (s.done d).madcQueue = s.madcQueue ∧ (s.done d).flow = s.flow ∧
    (s.done d).seqr = s.seqr ∧ (s.done d).mrom = s.mrom ∧ (s.done d).boot = s.boot ∧ (s.done d).ports = s.ports ∧
    (s.done d).radio = s.radio ∧ (s.done d).link = s.link ∧ (s.done d).requests = s.requests ∧
    (s.done d).fabric = s.fabric ∧ (s.done d).votes = s.votes ∧ (s.done d).resetHold = s.resetHold ∧
    (s.done d).dict = s.dict ∧ (s.done d).cmac = s.cmac ∧ (s.done d).dma = s.dma ∧ (s.done d).update = s.update ∧
    (s.done d).pending = s.pending := by
  rw [State.done_only]
  and_intros <;> rfl

/-- The queue replaced. -/
theorem State.withPending_only (s : State) (q : List Instr) :
    s.withPending q = { s with pending := (s.withPending q).pending } := rfl

@[simp] theorem State.withPending_keeps (s : State) (q : List Instr) :
    (s.withPending q).variant = s.variant ∧ (s.withPending q).regs = s.regs ∧ (s.withPending q).shadow = s.shadow ∧
    (s.withPending q).mirror = s.mirror ∧ (s.withPending q).metMirror = s.metMirror ∧
    (s.withPending q).rfMirror = s.rfMirror ∧ (s.withPending q).copies = s.copies ∧ (s.withPending q).xoLost = s.xoLost ∧
    (s.withPending q).mem = s.mem ∧ (s.withPending q).epochs = s.epochs ∧ (s.withPending q).freeCtr = s.freeCtr ∧
    (s.withPending q).logs = s.logs ∧ (s.withPending q).last = s.last ∧ (s.withPending q).bridges = s.bridges ∧
    (s.withPending q).appRail = s.appRail ∧ (s.withPending q).metRail = s.metRail ∧ (s.withPending q).power = s.power ∧
    (s.withPending q).supply = s.supply ∧ (s.withPending q).opt = s.opt ∧ (s.withPending q).otp = s.otp ∧
    (s.withPending q).burns = s.burns ∧ (s.withPending q).lfxoArmed = s.lfxoArmed ∧
    (s.withPending q).rtcOnTosc = s.rtcOnTosc ∧ (s.withPending q).rtcMoves = s.rtcMoves ∧
    (s.withPending q).flashSeqs = s.flashSeqs ∧ (s.withPending q).protEntry = s.protEntry ∧
    (s.withPending q).appFlash = s.appFlash ∧ (s.withPending q).metFlash = s.metFlash ∧
    (s.withPending q).flashMarks = s.flashMarks ∧ (s.withPending q).flashHeaders = s.flashHeaders ∧
    (s.withPending q).flashCache = s.flashCache ∧ (s.withPending q).mxoFrozen = s.mxoFrozen ∧
    (s.withPending q).activeWritten = s.activeWritten ∧ (s.withPending q).slots = s.slots ∧
    (s.withPending q).copy = s.copy ∧ (s.withPending q).madcRun = s.madcRun ∧ (s.withPending q).madcQueue = s.madcQueue ∧
    (s.withPending q).flow = s.flow ∧ (s.withPending q).seqr = s.seqr ∧ (s.withPending q).mrom = s.mrom ∧
    (s.withPending q).boot = s.boot ∧ (s.withPending q).ports = s.ports ∧ (s.withPending q).radio = s.radio ∧
    (s.withPending q).link = s.link ∧ (s.withPending q).requests = s.requests ∧ (s.withPending q).fabric = s.fabric ∧
    (s.withPending q).votes = s.votes ∧ (s.withPending q).resetHold = s.resetHold ∧ (s.withPending q).dict = s.dict ∧
    (s.withPending q).cmac = s.cmac ∧ (s.withPending q).dma = s.dma ∧ (s.withPending q).update = s.update := by
  rw [State.withPending_only]
  and_intros <;> rfl

/-- The link engine replaced. -/
theorem State.setLink_only (s : State) (l : Link) :
    s.setLink l = { s with link := (s.setLink l).link } := rfl

@[simp] theorem State.setLink_keeps (s : State) (l : Link) :
    (s.setLink l).variant = s.variant ∧ (s.setLink l).regs = s.regs ∧ (s.setLink l).shadow = s.shadow ∧
    (s.setLink l).mirror = s.mirror ∧ (s.setLink l).metMirror = s.metMirror ∧ (s.setLink l).rfMirror = s.rfMirror ∧
    (s.setLink l).copies = s.copies ∧ (s.setLink l).xoLost = s.xoLost ∧ (s.setLink l).mem = s.mem ∧
    (s.setLink l).epochs = s.epochs ∧ (s.setLink l).freeCtr = s.freeCtr ∧ (s.setLink l).logs = s.logs ∧
    (s.setLink l).last = s.last ∧ (s.setLink l).bridges = s.bridges ∧ (s.setLink l).appRail = s.appRail ∧
    (s.setLink l).metRail = s.metRail ∧ (s.setLink l).power = s.power ∧ (s.setLink l).supply = s.supply ∧
    (s.setLink l).opt = s.opt ∧ (s.setLink l).otp = s.otp ∧ (s.setLink l).burns = s.burns ∧
    (s.setLink l).lfxoArmed = s.lfxoArmed ∧ (s.setLink l).rtcOnTosc = s.rtcOnTosc ∧ (s.setLink l).rtcMoves = s.rtcMoves ∧
    (s.setLink l).flashSeqs = s.flashSeqs ∧ (s.setLink l).protEntry = s.protEntry ∧ (s.setLink l).appFlash = s.appFlash ∧
    (s.setLink l).metFlash = s.metFlash ∧ (s.setLink l).flashMarks = s.flashMarks ∧
    (s.setLink l).flashHeaders = s.flashHeaders ∧ (s.setLink l).flashCache = s.flashCache ∧
    (s.setLink l).mxoFrozen = s.mxoFrozen ∧ (s.setLink l).activeWritten = s.activeWritten ∧ (s.setLink l).slots = s.slots ∧
    (s.setLink l).copy = s.copy ∧ (s.setLink l).madcRun = s.madcRun ∧ (s.setLink l).madcQueue = s.madcQueue ∧
    (s.setLink l).flow = s.flow ∧ (s.setLink l).seqr = s.seqr ∧ (s.setLink l).mrom = s.mrom ∧ (s.setLink l).boot = s.boot ∧
    (s.setLink l).ports = s.ports ∧ (s.setLink l).radio = s.radio ∧ (s.setLink l).requests = s.requests ∧
    (s.setLink l).fabric = s.fabric ∧ (s.setLink l).votes = s.votes ∧ (s.setLink l).resetHold = s.resetHold ∧
    (s.setLink l).dict = s.dict ∧ (s.setLink l).cmac = s.cmac ∧ (s.setLink l).dma = s.dma ∧
    (s.setLink l).update = s.update ∧ (s.setLink l).pending = s.pending := by
  rw [State.setLink_only]
  and_intros <;> rfl

/-- The transceiver replaced. -/
theorem State.setRadio_only (s : State) (r : Radio) :
    s.setRadio r = { s with radio := (s.setRadio r).radio } := rfl

@[simp] theorem State.setRadio_keeps (s : State) (r : Radio) :
    (s.setRadio r).variant = s.variant ∧ (s.setRadio r).regs = s.regs ∧ (s.setRadio r).shadow = s.shadow ∧
    (s.setRadio r).mirror = s.mirror ∧ (s.setRadio r).metMirror = s.metMirror ∧ (s.setRadio r).rfMirror = s.rfMirror ∧
    (s.setRadio r).copies = s.copies ∧ (s.setRadio r).xoLost = s.xoLost ∧ (s.setRadio r).mem = s.mem ∧
    (s.setRadio r).epochs = s.epochs ∧ (s.setRadio r).freeCtr = s.freeCtr ∧ (s.setRadio r).logs = s.logs ∧
    (s.setRadio r).last = s.last ∧ (s.setRadio r).bridges = s.bridges ∧ (s.setRadio r).appRail = s.appRail ∧
    (s.setRadio r).metRail = s.metRail ∧ (s.setRadio r).power = s.power ∧ (s.setRadio r).supply = s.supply ∧
    (s.setRadio r).opt = s.opt ∧ (s.setRadio r).otp = s.otp ∧ (s.setRadio r).burns = s.burns ∧
    (s.setRadio r).lfxoArmed = s.lfxoArmed ∧ (s.setRadio r).rtcOnTosc = s.rtcOnTosc ∧
    (s.setRadio r).rtcMoves = s.rtcMoves ∧ (s.setRadio r).flashSeqs = s.flashSeqs ∧
    (s.setRadio r).protEntry = s.protEntry ∧ (s.setRadio r).appFlash = s.appFlash ∧ (s.setRadio r).metFlash = s.metFlash ∧
    (s.setRadio r).flashMarks = s.flashMarks ∧ (s.setRadio r).flashHeaders = s.flashHeaders ∧
    (s.setRadio r).flashCache = s.flashCache ∧ (s.setRadio r).mxoFrozen = s.mxoFrozen ∧
    (s.setRadio r).activeWritten = s.activeWritten ∧ (s.setRadio r).slots = s.slots ∧ (s.setRadio r).copy = s.copy ∧
    (s.setRadio r).madcRun = s.madcRun ∧ (s.setRadio r).madcQueue = s.madcQueue ∧ (s.setRadio r).flow = s.flow ∧
    (s.setRadio r).seqr = s.seqr ∧ (s.setRadio r).mrom = s.mrom ∧ (s.setRadio r).boot = s.boot ∧
    (s.setRadio r).ports = s.ports ∧ (s.setRadio r).link = s.link ∧ (s.setRadio r).requests = s.requests ∧
    (s.setRadio r).fabric = s.fabric ∧ (s.setRadio r).votes = s.votes ∧ (s.setRadio r).resetHold = s.resetHold ∧
    (s.setRadio r).dict = s.dict ∧ (s.setRadio r).cmac = s.cmac ∧ (s.setRadio r).dma = s.dma ∧
    (s.setRadio r).update = s.update ∧ (s.setRadio r).pending = s.pending := by
  rw [State.setRadio_only]
  and_intros <;> rfl

/-- The wired ports replaced. -/
theorem State.setPorts_only (s : State) (p : Ports) :
    s.setPorts p = { s with ports := (s.setPorts p).ports } := rfl

@[simp] theorem State.setPorts_keeps (s : State) (p : Ports) :
    (s.setPorts p).variant = s.variant ∧ (s.setPorts p).regs = s.regs ∧ (s.setPorts p).shadow = s.shadow ∧
    (s.setPorts p).mirror = s.mirror ∧ (s.setPorts p).metMirror = s.metMirror ∧ (s.setPorts p).rfMirror = s.rfMirror ∧
    (s.setPorts p).copies = s.copies ∧ (s.setPorts p).xoLost = s.xoLost ∧ (s.setPorts p).mem = s.mem ∧
    (s.setPorts p).epochs = s.epochs ∧ (s.setPorts p).freeCtr = s.freeCtr ∧ (s.setPorts p).logs = s.logs ∧
    (s.setPorts p).last = s.last ∧ (s.setPorts p).bridges = s.bridges ∧ (s.setPorts p).appRail = s.appRail ∧
    (s.setPorts p).metRail = s.metRail ∧ (s.setPorts p).power = s.power ∧ (s.setPorts p).supply = s.supply ∧
    (s.setPorts p).opt = s.opt ∧ (s.setPorts p).otp = s.otp ∧ (s.setPorts p).burns = s.burns ∧
    (s.setPorts p).lfxoArmed = s.lfxoArmed ∧ (s.setPorts p).rtcOnTosc = s.rtcOnTosc ∧
    (s.setPorts p).rtcMoves = s.rtcMoves ∧ (s.setPorts p).flashSeqs = s.flashSeqs ∧
    (s.setPorts p).protEntry = s.protEntry ∧ (s.setPorts p).appFlash = s.appFlash ∧ (s.setPorts p).metFlash = s.metFlash ∧
    (s.setPorts p).flashMarks = s.flashMarks ∧ (s.setPorts p).flashHeaders = s.flashHeaders ∧
    (s.setPorts p).flashCache = s.flashCache ∧ (s.setPorts p).mxoFrozen = s.mxoFrozen ∧
    (s.setPorts p).activeWritten = s.activeWritten ∧ (s.setPorts p).slots = s.slots ∧ (s.setPorts p).copy = s.copy ∧
    (s.setPorts p).madcRun = s.madcRun ∧ (s.setPorts p).madcQueue = s.madcQueue ∧ (s.setPorts p).flow = s.flow ∧
    (s.setPorts p).seqr = s.seqr ∧ (s.setPorts p).mrom = s.mrom ∧ (s.setPorts p).boot = s.boot ∧
    (s.setPorts p).radio = s.radio ∧ (s.setPorts p).link = s.link ∧ (s.setPorts p).requests = s.requests ∧
    (s.setPorts p).fabric = s.fabric ∧ (s.setPorts p).votes = s.votes ∧ (s.setPorts p).resetHold = s.resetHold ∧
    (s.setPorts p).dict = s.dict ∧ (s.setPorts p).cmac = s.cmac ∧ (s.setPorts p).dma = s.dma ∧
    (s.setPorts p).update = s.update ∧ (s.setPorts p).pending = s.pending := by
  rw [State.setPorts_only]
  and_intros <;> rfl

/-- The power of a domain replaced. -/
theorem State.setDom_only (s : State) (d : Dom) (p : DomainPower) :
    s.setDom d p = { s with power := (s.setDom d p).power } := by cases d <;> rfl

@[simp] theorem State.setDom_keeps (s : State) (d : Dom) (p : DomainPower) :
    (s.setDom d p).variant = s.variant ∧ (s.setDom d p).regs = s.regs ∧ (s.setDom d p).shadow = s.shadow ∧
    (s.setDom d p).mirror = s.mirror ∧ (s.setDom d p).metMirror = s.metMirror ∧ (s.setDom d p).rfMirror = s.rfMirror ∧
    (s.setDom d p).copies = s.copies ∧ (s.setDom d p).xoLost = s.xoLost ∧ (s.setDom d p).mem = s.mem ∧
    (s.setDom d p).epochs = s.epochs ∧ (s.setDom d p).freeCtr = s.freeCtr ∧ (s.setDom d p).logs = s.logs ∧
    (s.setDom d p).last = s.last ∧ (s.setDom d p).bridges = s.bridges ∧ (s.setDom d p).appRail = s.appRail ∧
    (s.setDom d p).metRail = s.metRail ∧ (s.setDom d p).supply = s.supply ∧ (s.setDom d p).opt = s.opt ∧
    (s.setDom d p).otp = s.otp ∧ (s.setDom d p).burns = s.burns ∧ (s.setDom d p).lfxoArmed = s.lfxoArmed ∧
    (s.setDom d p).rtcOnTosc = s.rtcOnTosc ∧ (s.setDom d p).rtcMoves = s.rtcMoves ∧
    (s.setDom d p).flashSeqs = s.flashSeqs ∧ (s.setDom d p).protEntry = s.protEntry ∧
    (s.setDom d p).appFlash = s.appFlash ∧ (s.setDom d p).metFlash = s.metFlash ∧
    (s.setDom d p).flashMarks = s.flashMarks ∧ (s.setDom d p).flashHeaders = s.flashHeaders ∧
    (s.setDom d p).flashCache = s.flashCache ∧ (s.setDom d p).mxoFrozen = s.mxoFrozen ∧
    (s.setDom d p).activeWritten = s.activeWritten ∧ (s.setDom d p).slots = s.slots ∧ (s.setDom d p).copy = s.copy ∧
    (s.setDom d p).madcRun = s.madcRun ∧ (s.setDom d p).madcQueue = s.madcQueue ∧ (s.setDom d p).flow = s.flow ∧
    (s.setDom d p).seqr = s.seqr ∧ (s.setDom d p).mrom = s.mrom ∧ (s.setDom d p).boot = s.boot ∧
    (s.setDom d p).ports = s.ports ∧ (s.setDom d p).radio = s.radio ∧ (s.setDom d p).link = s.link ∧
    (s.setDom d p).requests = s.requests ∧ (s.setDom d p).fabric = s.fabric ∧ (s.setDom d p).votes = s.votes ∧
    (s.setDom d p).resetHold = s.resetHold ∧ (s.setDom d p).dict = s.dict ∧ (s.setDom d p).cmac = s.cmac ∧
    (s.setDom d p).dma = s.dma ∧ (s.setDom d p).update = s.update ∧ (s.setDom d p).pending = s.pending := by
  rw [State.setDom_only]
  and_intros <;> rfl

/-- The loops of a rail replaced. -/
theorem State.setRail_only (s : State) (sd : Side) (r : RailLoop) :
    s.setRail sd r = { s with appRail := (s.setRail sd r).appRail, metRail := (s.setRail sd r).metRail } := by cases sd <;> rfl

@[simp] theorem State.setRail_keeps (s : State) (sd : Side) (r : RailLoop) :
    (s.setRail sd r).variant = s.variant ∧ (s.setRail sd r).regs = s.regs ∧ (s.setRail sd r).shadow = s.shadow ∧
    (s.setRail sd r).mirror = s.mirror ∧ (s.setRail sd r).metMirror = s.metMirror ∧
    (s.setRail sd r).rfMirror = s.rfMirror ∧ (s.setRail sd r).copies = s.copies ∧ (s.setRail sd r).xoLost = s.xoLost ∧
    (s.setRail sd r).mem = s.mem ∧ (s.setRail sd r).epochs = s.epochs ∧ (s.setRail sd r).freeCtr = s.freeCtr ∧
    (s.setRail sd r).logs = s.logs ∧ (s.setRail sd r).last = s.last ∧ (s.setRail sd r).bridges = s.bridges ∧
    (s.setRail sd r).power = s.power ∧ (s.setRail sd r).supply = s.supply ∧ (s.setRail sd r).opt = s.opt ∧
    (s.setRail sd r).otp = s.otp ∧ (s.setRail sd r).burns = s.burns ∧ (s.setRail sd r).lfxoArmed = s.lfxoArmed ∧
    (s.setRail sd r).rtcOnTosc = s.rtcOnTosc ∧ (s.setRail sd r).rtcMoves = s.rtcMoves ∧
    (s.setRail sd r).flashSeqs = s.flashSeqs ∧ (s.setRail sd r).protEntry = s.protEntry ∧
    (s.setRail sd r).appFlash = s.appFlash ∧ (s.setRail sd r).metFlash = s.metFlash ∧
    (s.setRail sd r).flashMarks = s.flashMarks ∧ (s.setRail sd r).flashHeaders = s.flashHeaders ∧
    (s.setRail sd r).flashCache = s.flashCache ∧ (s.setRail sd r).mxoFrozen = s.mxoFrozen ∧
    (s.setRail sd r).activeWritten = s.activeWritten ∧ (s.setRail sd r).slots = s.slots ∧ (s.setRail sd r).copy = s.copy ∧
    (s.setRail sd r).madcRun = s.madcRun ∧ (s.setRail sd r).madcQueue = s.madcQueue ∧ (s.setRail sd r).flow = s.flow ∧
    (s.setRail sd r).seqr = s.seqr ∧ (s.setRail sd r).mrom = s.mrom ∧ (s.setRail sd r).boot = s.boot ∧
    (s.setRail sd r).ports = s.ports ∧ (s.setRail sd r).radio = s.radio ∧ (s.setRail sd r).link = s.link ∧
    (s.setRail sd r).requests = s.requests ∧ (s.setRail sd r).fabric = s.fabric ∧ (s.setRail sd r).votes = s.votes ∧
    (s.setRail sd r).resetHold = s.resetHold ∧ (s.setRail sd r).dict = s.dict ∧ (s.setRail sd r).cmac = s.cmac ∧
    (s.setRail sd r).dma = s.dma ∧ (s.setRail sd r).update = s.update ∧ (s.setRail sd r).pending = s.pending := by
  rw [State.setRail_only]
  and_intros <;> rfl

/-- The copies of a voted field written by its owner. -/
theorem State.ownCopies_only (s : State) (id index : Nat) :
    s.ownCopies id index = { s with copies := (s.ownCopies id index).copies } := rfl

@[simp] theorem State.ownCopies_keeps (s : State) (id index : Nat) :
    (s.ownCopies id index).variant = s.variant ∧ (s.ownCopies id index).regs = s.regs ∧
    (s.ownCopies id index).shadow = s.shadow ∧ (s.ownCopies id index).mirror = s.mirror ∧
    (s.ownCopies id index).metMirror = s.metMirror ∧ (s.ownCopies id index).rfMirror = s.rfMirror ∧
    (s.ownCopies id index).xoLost = s.xoLost ∧ (s.ownCopies id index).mem = s.mem ∧
    (s.ownCopies id index).epochs = s.epochs ∧ (s.ownCopies id index).freeCtr = s.freeCtr ∧
    (s.ownCopies id index).logs = s.logs ∧ (s.ownCopies id index).last = s.last ∧
    (s.ownCopies id index).bridges = s.bridges ∧ (s.ownCopies id index).appRail = s.appRail ∧
    (s.ownCopies id index).metRail = s.metRail ∧ (s.ownCopies id index).power = s.power ∧
    (s.ownCopies id index).supply = s.supply ∧ (s.ownCopies id index).opt = s.opt ∧ (s.ownCopies id index).otp = s.otp ∧
    (s.ownCopies id index).burns = s.burns ∧ (s.ownCopies id index).lfxoArmed = s.lfxoArmed ∧
    (s.ownCopies id index).rtcOnTosc = s.rtcOnTosc ∧ (s.ownCopies id index).rtcMoves = s.rtcMoves ∧
    (s.ownCopies id index).flashSeqs = s.flashSeqs ∧ (s.ownCopies id index).protEntry = s.protEntry ∧
    (s.ownCopies id index).appFlash = s.appFlash ∧ (s.ownCopies id index).metFlash = s.metFlash ∧
    (s.ownCopies id index).flashMarks = s.flashMarks ∧ (s.ownCopies id index).flashHeaders = s.flashHeaders ∧
    (s.ownCopies id index).flashCache = s.flashCache ∧ (s.ownCopies id index).mxoFrozen = s.mxoFrozen ∧
    (s.ownCopies id index).activeWritten = s.activeWritten ∧ (s.ownCopies id index).slots = s.slots ∧
    (s.ownCopies id index).copy = s.copy ∧ (s.ownCopies id index).madcRun = s.madcRun ∧
    (s.ownCopies id index).madcQueue = s.madcQueue ∧ (s.ownCopies id index).flow = s.flow ∧
    (s.ownCopies id index).seqr = s.seqr ∧ (s.ownCopies id index).mrom = s.mrom ∧ (s.ownCopies id index).boot = s.boot ∧
    (s.ownCopies id index).ports = s.ports ∧ (s.ownCopies id index).radio = s.radio ∧
    (s.ownCopies id index).link = s.link ∧ (s.ownCopies id index).requests = s.requests ∧
    (s.ownCopies id index).fabric = s.fabric ∧ (s.ownCopies id index).votes = s.votes ∧
    (s.ownCopies id index).resetHold = s.resetHold ∧ (s.ownCopies id index).dict = s.dict ∧
    (s.ownCopies id index).cmac = s.cmac ∧ (s.ownCopies id index).dma = s.dma ∧ (s.ownCopies id index).update = s.update ∧
    (s.ownCopies id index).pending = s.pending := by
  rw [State.ownCopies_only]
  and_intros <;> rfl

/-- The registers of a range reset. -/
theorem State.resetRange_only (s : State) (lo hi : Nat) :
    s.resetRange lo hi = { s with regs := (s.resetRange lo hi).regs, shadow := (s.resetRange lo hi).shadow } := rfl

@[simp] theorem State.resetRange_keeps (s : State) (lo hi : Nat) :
    (s.resetRange lo hi).variant = s.variant ∧ (s.resetRange lo hi).mirror = s.mirror ∧
    (s.resetRange lo hi).metMirror = s.metMirror ∧ (s.resetRange lo hi).rfMirror = s.rfMirror ∧
    (s.resetRange lo hi).copies = s.copies ∧ (s.resetRange lo hi).xoLost = s.xoLost ∧ (s.resetRange lo hi).mem = s.mem ∧
    (s.resetRange lo hi).epochs = s.epochs ∧ (s.resetRange lo hi).freeCtr = s.freeCtr ∧
    (s.resetRange lo hi).logs = s.logs ∧ (s.resetRange lo hi).last = s.last ∧ (s.resetRange lo hi).bridges = s.bridges ∧
    (s.resetRange lo hi).appRail = s.appRail ∧ (s.resetRange lo hi).metRail = s.metRail ∧
    (s.resetRange lo hi).power = s.power ∧ (s.resetRange lo hi).supply = s.supply ∧ (s.resetRange lo hi).opt = s.opt ∧
    (s.resetRange lo hi).otp = s.otp ∧ (s.resetRange lo hi).burns = s.burns ∧
    (s.resetRange lo hi).lfxoArmed = s.lfxoArmed ∧ (s.resetRange lo hi).rtcOnTosc = s.rtcOnTosc ∧
    (s.resetRange lo hi).rtcMoves = s.rtcMoves ∧ (s.resetRange lo hi).flashSeqs = s.flashSeqs ∧
    (s.resetRange lo hi).protEntry = s.protEntry ∧ (s.resetRange lo hi).appFlash = s.appFlash ∧
    (s.resetRange lo hi).metFlash = s.metFlash ∧ (s.resetRange lo hi).flashMarks = s.flashMarks ∧
    (s.resetRange lo hi).flashHeaders = s.flashHeaders ∧ (s.resetRange lo hi).flashCache = s.flashCache ∧
    (s.resetRange lo hi).mxoFrozen = s.mxoFrozen ∧ (s.resetRange lo hi).activeWritten = s.activeWritten ∧
    (s.resetRange lo hi).slots = s.slots ∧ (s.resetRange lo hi).copy = s.copy ∧ (s.resetRange lo hi).madcRun = s.madcRun ∧
    (s.resetRange lo hi).madcQueue = s.madcQueue ∧ (s.resetRange lo hi).flow = s.flow ∧
    (s.resetRange lo hi).seqr = s.seqr ∧ (s.resetRange lo hi).mrom = s.mrom ∧ (s.resetRange lo hi).boot = s.boot ∧
    (s.resetRange lo hi).ports = s.ports ∧ (s.resetRange lo hi).radio = s.radio ∧ (s.resetRange lo hi).link = s.link ∧
    (s.resetRange lo hi).requests = s.requests ∧ (s.resetRange lo hi).fabric = s.fabric ∧
    (s.resetRange lo hi).votes = s.votes ∧ (s.resetRange lo hi).resetHold = s.resetHold ∧
    (s.resetRange lo hi).dict = s.dict ∧ (s.resetRange lo hi).cmac = s.cmac ∧ (s.resetRange lo hi).dma = s.dma ∧
    (s.resetRange lo hi).update = s.update ∧ (s.resetRange lo hi).pending = s.pending := by
  rw [State.resetRange_only]
  and_intros <;> rfl

/-- An entry of the system event log. -/
theorem State.logEntry_only (s : State) (m : Bool) (c : Nat) (d : List Nat) :
    s.logEntry m c d = { s with regs := (s.logEntry m c d).regs, logs := (s.logEntry m c d).logs } := by
  simp only [State.logEntry]
  split <;> rfl

@[simp] theorem State.logEntry_keeps (s : State) (m : Bool) (c : Nat) (d : List Nat) :
    (s.logEntry m c d).variant = s.variant ∧ (s.logEntry m c d).shadow = s.shadow ∧ (s.logEntry m c d).mirror = s.mirror ∧
    (s.logEntry m c d).metMirror = s.metMirror ∧ (s.logEntry m c d).rfMirror = s.rfMirror ∧
    (s.logEntry m c d).copies = s.copies ∧ (s.logEntry m c d).xoLost = s.xoLost ∧ (s.logEntry m c d).mem = s.mem ∧
    (s.logEntry m c d).epochs = s.epochs ∧ (s.logEntry m c d).freeCtr = s.freeCtr ∧ (s.logEntry m c d).last = s.last ∧
    (s.logEntry m c d).bridges = s.bridges ∧ (s.logEntry m c d).appRail = s.appRail ∧
    (s.logEntry m c d).metRail = s.metRail ∧ (s.logEntry m c d).power = s.power ∧ (s.logEntry m c d).supply = s.supply ∧
    (s.logEntry m c d).opt = s.opt ∧ (s.logEntry m c d).otp = s.otp ∧ (s.logEntry m c d).burns = s.burns ∧
    (s.logEntry m c d).lfxoArmed = s.lfxoArmed ∧ (s.logEntry m c d).rtcOnTosc = s.rtcOnTosc ∧
    (s.logEntry m c d).rtcMoves = s.rtcMoves ∧ (s.logEntry m c d).flashSeqs = s.flashSeqs ∧
    (s.logEntry m c d).protEntry = s.protEntry ∧ (s.logEntry m c d).appFlash = s.appFlash ∧
    (s.logEntry m c d).metFlash = s.metFlash ∧ (s.logEntry m c d).flashMarks = s.flashMarks ∧
    (s.logEntry m c d).flashHeaders = s.flashHeaders ∧ (s.logEntry m c d).flashCache = s.flashCache ∧
    (s.logEntry m c d).mxoFrozen = s.mxoFrozen ∧ (s.logEntry m c d).activeWritten = s.activeWritten ∧
    (s.logEntry m c d).slots = s.slots ∧ (s.logEntry m c d).copy = s.copy ∧ (s.logEntry m c d).madcRun = s.madcRun ∧
    (s.logEntry m c d).madcQueue = s.madcQueue ∧ (s.logEntry m c d).flow = s.flow ∧ (s.logEntry m c d).seqr = s.seqr ∧
    (s.logEntry m c d).mrom = s.mrom ∧ (s.logEntry m c d).boot = s.boot ∧ (s.logEntry m c d).ports = s.ports ∧
    (s.logEntry m c d).radio = s.radio ∧ (s.logEntry m c d).link = s.link ∧ (s.logEntry m c d).requests = s.requests ∧
    (s.logEntry m c d).fabric = s.fabric ∧ (s.logEntry m c d).votes = s.votes ∧
    (s.logEntry m c d).resetHold = s.resetHold ∧ (s.logEntry m c d).dict = s.dict ∧ (s.logEntry m c d).cmac = s.cmac ∧
    (s.logEntry m c d).dma = s.dma ∧ (s.logEntry m c d).update = s.update ∧ (s.logEntry m c d).pending = s.pending := by
  rw [State.logEntry_only]
  and_intros <;> rfl

/-- An event of the application side. -/
theorem State.log_only (s : State) (c : Nat) (d : List Nat) :
    s.log c d = { s with regs := (s.log c d).regs, logs := (s.log c d).logs } := State.logEntry_only s false c d

@[simp] theorem State.log_keeps (s : State) (c : Nat) (d : List Nat) :
    (s.log c d).variant = s.variant ∧ (s.log c d).shadow = s.shadow ∧ (s.log c d).mirror = s.mirror ∧
    (s.log c d).metMirror = s.metMirror ∧ (s.log c d).rfMirror = s.rfMirror ∧ (s.log c d).copies = s.copies ∧
    (s.log c d).xoLost = s.xoLost ∧ (s.log c d).mem = s.mem ∧ (s.log c d).epochs = s.epochs ∧
    (s.log c d).freeCtr = s.freeCtr ∧ (s.log c d).last = s.last ∧ (s.log c d).bridges = s.bridges ∧
    (s.log c d).appRail = s.appRail ∧ (s.log c d).metRail = s.metRail ∧ (s.log c d).power = s.power ∧
    (s.log c d).supply = s.supply ∧ (s.log c d).opt = s.opt ∧ (s.log c d).otp = s.otp ∧ (s.log c d).burns = s.burns ∧
    (s.log c d).lfxoArmed = s.lfxoArmed ∧ (s.log c d).rtcOnTosc = s.rtcOnTosc ∧ (s.log c d).rtcMoves = s.rtcMoves ∧
    (s.log c d).flashSeqs = s.flashSeqs ∧ (s.log c d).protEntry = s.protEntry ∧ (s.log c d).appFlash = s.appFlash ∧
    (s.log c d).metFlash = s.metFlash ∧ (s.log c d).flashMarks = s.flashMarks ∧ (s.log c d).flashHeaders = s.flashHeaders ∧
    (s.log c d).flashCache = s.flashCache ∧ (s.log c d).mxoFrozen = s.mxoFrozen ∧
    (s.log c d).activeWritten = s.activeWritten ∧ (s.log c d).slots = s.slots ∧ (s.log c d).copy = s.copy ∧
    (s.log c d).madcRun = s.madcRun ∧ (s.log c d).madcQueue = s.madcQueue ∧ (s.log c d).flow = s.flow ∧
    (s.log c d).seqr = s.seqr ∧ (s.log c d).mrom = s.mrom ∧ (s.log c d).boot = s.boot ∧ (s.log c d).ports = s.ports ∧
    (s.log c d).radio = s.radio ∧ (s.log c d).link = s.link ∧ (s.log c d).requests = s.requests ∧
    (s.log c d).fabric = s.fabric ∧ (s.log c d).votes = s.votes ∧ (s.log c d).resetHold = s.resetHold ∧
    (s.log c d).dict = s.dict ∧ (s.log c d).cmac = s.cmac ∧ (s.log c d).dma = s.dma ∧ (s.log c d).update = s.update ∧
    (s.log c d).pending = s.pending := by
  rw [State.log_only]
  and_intros <;> rfl

/-- An event of MET, in both logs. -/
theorem State.logMet_only (s : State) (c : Nat) (d : List Nat) :
    s.logMet c d = { s with regs := (s.logMet c d).regs, logs := (s.logMet c d).logs } := by
  simp only [State.logMet]
  split
  · exact State.logEntry_only s true c d
  · rw [State.logEntry_only]
    split <;> rfl

@[simp] theorem State.logMet_keeps (s : State) (c : Nat) (d : List Nat) :
    (s.logMet c d).variant = s.variant ∧ (s.logMet c d).shadow = s.shadow ∧ (s.logMet c d).mirror = s.mirror ∧
    (s.logMet c d).metMirror = s.metMirror ∧ (s.logMet c d).rfMirror = s.rfMirror ∧ (s.logMet c d).copies = s.copies ∧
    (s.logMet c d).xoLost = s.xoLost ∧ (s.logMet c d).mem = s.mem ∧ (s.logMet c d).epochs = s.epochs ∧
    (s.logMet c d).freeCtr = s.freeCtr ∧ (s.logMet c d).last = s.last ∧ (s.logMet c d).bridges = s.bridges ∧
    (s.logMet c d).appRail = s.appRail ∧ (s.logMet c d).metRail = s.metRail ∧ (s.logMet c d).power = s.power ∧
    (s.logMet c d).supply = s.supply ∧ (s.logMet c d).opt = s.opt ∧ (s.logMet c d).otp = s.otp ∧
    (s.logMet c d).burns = s.burns ∧ (s.logMet c d).lfxoArmed = s.lfxoArmed ∧ (s.logMet c d).rtcOnTosc = s.rtcOnTosc ∧
    (s.logMet c d).rtcMoves = s.rtcMoves ∧ (s.logMet c d).flashSeqs = s.flashSeqs ∧
    (s.logMet c d).protEntry = s.protEntry ∧ (s.logMet c d).appFlash = s.appFlash ∧ (s.logMet c d).metFlash = s.metFlash ∧
    (s.logMet c d).flashMarks = s.flashMarks ∧ (s.logMet c d).flashHeaders = s.flashHeaders ∧
    (s.logMet c d).flashCache = s.flashCache ∧ (s.logMet c d).mxoFrozen = s.mxoFrozen ∧
    (s.logMet c d).activeWritten = s.activeWritten ∧ (s.logMet c d).slots = s.slots ∧ (s.logMet c d).copy = s.copy ∧
    (s.logMet c d).madcRun = s.madcRun ∧ (s.logMet c d).madcQueue = s.madcQueue ∧ (s.logMet c d).flow = s.flow ∧
    (s.logMet c d).seqr = s.seqr ∧ (s.logMet c d).mrom = s.mrom ∧ (s.logMet c d).boot = s.boot ∧
    (s.logMet c d).ports = s.ports ∧ (s.logMet c d).radio = s.radio ∧ (s.logMet c d).link = s.link ∧
    (s.logMet c d).requests = s.requests ∧ (s.logMet c d).fabric = s.fabric ∧ (s.logMet c d).votes = s.votes ∧
    (s.logMet c d).resetHold = s.resetHold ∧ (s.logMet c d).dict = s.dict ∧ (s.logMet c d).cmac = s.cmac ∧
    (s.logMet c d).dma = s.dma ∧ (s.logMet c d).update = s.update ∧ (s.logMet c d).pending = s.pending := by
  rw [State.logMet_only]
  and_intros <;> rfl

/-- An event of a side. -/
theorem State.logSide_only (s : State) (sd : Side) (c : Nat) (d : List Nat) :
    s.logSide sd c d = { s with regs := (s.logSide sd c d).regs, logs := (s.logSide sd c d).logs } := by
  cases sd
  · exact State.log_only s c d
  · exact State.logMet_only s c d

@[simp] theorem State.logSide_keeps (s : State) (sd : Side) (c : Nat) (d : List Nat) :
    (s.logSide sd c d).variant = s.variant ∧ (s.logSide sd c d).shadow = s.shadow ∧ (s.logSide sd c d).mirror = s.mirror ∧
    (s.logSide sd c d).metMirror = s.metMirror ∧ (s.logSide sd c d).rfMirror = s.rfMirror ∧
    (s.logSide sd c d).copies = s.copies ∧ (s.logSide sd c d).xoLost = s.xoLost ∧ (s.logSide sd c d).mem = s.mem ∧
    (s.logSide sd c d).epochs = s.epochs ∧ (s.logSide sd c d).freeCtr = s.freeCtr ∧ (s.logSide sd c d).last = s.last ∧
    (s.logSide sd c d).bridges = s.bridges ∧ (s.logSide sd c d).appRail = s.appRail ∧
    (s.logSide sd c d).metRail = s.metRail ∧ (s.logSide sd c d).power = s.power ∧ (s.logSide sd c d).supply = s.supply ∧
    (s.logSide sd c d).opt = s.opt ∧ (s.logSide sd c d).otp = s.otp ∧ (s.logSide sd c d).burns = s.burns ∧
    (s.logSide sd c d).lfxoArmed = s.lfxoArmed ∧ (s.logSide sd c d).rtcOnTosc = s.rtcOnTosc ∧
    (s.logSide sd c d).rtcMoves = s.rtcMoves ∧ (s.logSide sd c d).flashSeqs = s.flashSeqs ∧
    (s.logSide sd c d).protEntry = s.protEntry ∧ (s.logSide sd c d).appFlash = s.appFlash ∧
    (s.logSide sd c d).metFlash = s.metFlash ∧ (s.logSide sd c d).flashMarks = s.flashMarks ∧
    (s.logSide sd c d).flashHeaders = s.flashHeaders ∧ (s.logSide sd c d).flashCache = s.flashCache ∧
    (s.logSide sd c d).mxoFrozen = s.mxoFrozen ∧ (s.logSide sd c d).activeWritten = s.activeWritten ∧
    (s.logSide sd c d).slots = s.slots ∧ (s.logSide sd c d).copy = s.copy ∧ (s.logSide sd c d).madcRun = s.madcRun ∧
    (s.logSide sd c d).madcQueue = s.madcQueue ∧ (s.logSide sd c d).flow = s.flow ∧ (s.logSide sd c d).seqr = s.seqr ∧
    (s.logSide sd c d).mrom = s.mrom ∧ (s.logSide sd c d).boot = s.boot ∧ (s.logSide sd c d).ports = s.ports ∧
    (s.logSide sd c d).radio = s.radio ∧ (s.logSide sd c d).link = s.link ∧ (s.logSide sd c d).requests = s.requests ∧
    (s.logSide sd c d).fabric = s.fabric ∧ (s.logSide sd c d).votes = s.votes ∧
    (s.logSide sd c d).resetHold = s.resetHold ∧ (s.logSide sd c d).dict = s.dict ∧ (s.logSide sd c d).cmac = s.cmac ∧
    (s.logSide sd c d).dma = s.dma ∧ (s.logSide sd c d).update = s.update ∧ (s.logSide sd c d).pending = s.pending := by
  rw [State.logSide_only]
  and_intros <;> rfl

theorem State.wr_regs (s : State) (f : Fld) (v : Nat) : (s.wr f v).regs = s.regs.put f.key (v % 2 ^ f.width) := rfl

end Sys2Proof.Machine
end

