-- ==== Sys2Proof/Laws/Frames.lean ====
section
/-! SUPPORT. Frames put together: what holds of one update, and of one after another; what the logs write. -/

namespace Sys2Proof.Machine

open Sys2Proof

/-! ### Fields -/

theorem SameFields.refl (fs : List Fld) (s : State) : SameFields fs s s := fun _ _ => rfl

theorem SameFields.trans {fs : List Fld} {s t u : State} (h1 : SameFields fs s t) (h2 : SameFields fs t u) :
    SameFields fs s u := fun f hf => (h2 f hf).trans (h1 f hf)

/-- A frame over fewer fields is one over more. -/
theorem SameFields.mono {fs gs : List Fld} {s t : State} (h : SameFields fs s t) (hs : ∀ f ∈ fs, f ∈ gs) :
    SameFields gs s t := fun f hf => h f (fun hm => hf (by
  obtain ⟨g, hg, he⟩ := List.mem_map.1 hm
  exact List.mem_map.2 ⟨g, hs g hg, he⟩))

/-- One more write of a listed field keeps a frame. -/
theorem SameFields.wr {fs : List Fld} {s t : State} (h : SameFields fs s t) {g : Fld} (v : Nat) (hg : g ∈ fs) :
    SameFields fs s (t.wr g v) := fun f hf => by
  rw [State.rd_wr_ne t v (fun e => hf (List.mem_map.2 ⟨g, hg, e⟩)), h f hf]

/-- A state with the same register file keeps a frame. -/
theorem SameFields.of_regs {fs : List Fld} {s t u : State} (h : SameFields fs s t) (hr : u.regs = t.regs) :
    SameFields fs s u := fun f hf => by
  rw [← h f hf]
  simp [State.rd, hr]

/-- Memory reads the same where everything it depends on is the same. -/
theorem SameMemory.of_eq {s t : State} (h1 : t.mem = s.mem) (h2 : t.epochs = s.epochs) (h3 : t.flashMarks = s.flashMarks) :
    SameMemory s t := fun a => by
  simp only [State.byte, State.flashMark, h1, h2, h3]
  rfl

/-! ### Logs -/

theorem getLast?_newest {α : Type} {n : Nat} (hn : 0 < n) (l : List α) (e : α) : (newest n (l ++ [e])).getLast? = some e := by
  simp only [newest]
  rw [List.getLast?_drop]
  simp
  omega

/-- An entry of the system event log is the newest. -/
theorem State.logEntry_sys_last (s : State) (m : Bool) (c : Nat) (d : List Nat) :
    (s.logEntry m c d).logs.sys.getLast? = some
      { seq := s.logs.nextSeq, utime := s.utime, code := c, flags := s.rd R.AON.RST_CAUSE.TIME_UNSET + 2 * b2n m, data := d } := by
  simp only [State.logEntry]
  split <;> simp [State.count, getLast?_newest]

theorem State.logEntry_fields (s : State) (m : Bool) (c : Nat) (d : List Nat) : SameFields logFields s (s.logEntry m c d) := by
  intro f hf
  simp only [logFields, List.map_cons, List.map_nil, List.mem_cons, List.not_mem_nil, or_false, not_or] at hf
  obtain ⟨h1, h2, h3⟩ := hf
  simp only [State.logEntry]
  rw [State.rd_wr_ne _ _ (Ne.symm h3), State.rd_wr_ne _ _ (Ne.symm h1)]
  split
  · rw [State.count_eq, State.rd_wr_ne _ _ (Ne.symm h2)]
    rfl
  · rfl

theorem State.log_fields (s : State) (c : Nat) (d : List Nat) : SameFields logFields s (s.log c d) :=
  State.logEntry_fields s false c d

theorem State.log_logged (s : State) (c : Nat) (d : List Nat) : Logged s (s.log c d) c d :=
  ⟨_, State.logEntry_sys_last s false c d, rfl, rfl, rfl, rfl⟩

theorem State.logMet_fields (s : State) (c : Nat) (d : List Nat) : SameFields bothLogFields s (s.logMet c d) := by
  have hl : ∀ f ∈ logFields, f ∈ bothLogFields := fun f hf => List.mem_append_right _ hf
  simp only [State.logMet]
  split
  · exact (State.logEntry_fields _ _ _ _).mono hl
  · refine SameFields.trans ?_ ((State.logEntry_fields _ _ _ _).mono hl)
    refine SameFields.wr ?_ _ (by simp [bothLogFields])
    split
    · exact ((SameFields.refl _ s).of_regs rfl |>.wr _ (by simp [bothLogFields])).wr _ (by simp [bothLogFields])
    · exact (SameFields.refl _ s).of_regs rfl

theorem State.logMet_logged (s : State) (c : Nat) (d : List Nat) : Logged s (s.logMet c d) c d := by
  simp only [State.logMet]
  split
  · exact ⟨_, State.logEntry_sys_last s true c d, rfl, rfl, rfl, rfl⟩
  · refine ⟨_, State.logEntry_sys_last _ true c d, ?_, ?_, rfl, rfl⟩
    · simp only [State.wr_keeps]
      split <;> rfl
    · simp only [State.utime]
      rw [State.rd_wr_ne _ _ (by decide)]
      split
      · rw [State.raise_eq, State.rd_wr_ne _ _ (by decide), State.count_eq, State.rd_wr_ne _ _ (by decide)]
        rfl
      · rfl

theorem State.logSide_fields (s : State) (sd : Side) (c : Nat) (d : List Nat) : SameFields bothLogFields s (s.logSide sd c d) := by
  cases sd
  · exact (State.log_fields s c d).mono (fun f hf => List.mem_append_right _ hf)
  · exact State.logMet_fields s c d

theorem State.logSide_logged (s : State) (sd : Side) (c : Nat) (d : List Nat) : Logged s (s.logSide sd c d) c d := by
  cases sd
  · exact State.log_logged s c d
  · exact State.logMet_logged s c d

/-- `put s t` is `t` with some components of `s` put back: what one update and another leave, both together leave. -/
theorem rest_trans {put : State → State → State} (hp : ∀ s t u, put s (put t u) = put s u) {s t u : State}
    (h1 : put s t = s) (h2 : put t u = t) : put s u = s := by
  rw [← hp s t u, h2, h1]

theorem putLogs_trans {s t u : State} (h1 : putLogs s t = s) (h2 : putLogs t u = t) : putLogs s u = s :=
  rest_trans (put := putLogs) (fun _ _ _ => rfl) h1 h2

theorem putLogs_wr (s : State) (f : Fld) (v : Nat) : putLogs s (s.wr f v) = s := rfl

/-- A log entry changes registers and logs alone. -/
theorem State.logEntry_rest (s : State) (m : Bool) (c : Nat) (d : List Nat) : putLogs s (s.logEntry m c d) = s := by
  simp only [State.logEntry]
  split <;> rfl

theorem State.log_rest (s : State) (c : Nat) (d : List Nat) : putLogs s (s.log c d) = s := State.logEntry_rest s false c d

theorem State.logMet_rest (s : State) (c : Nat) (d : List Nat) : putLogs s (s.logMet c d) = s := by
  unfold State.logMet
  split
  · exact State.logEntry_rest s true c d
  · refine putLogs_trans ?_ (State.logEntry_rest _ true c d)
    refine putLogs_trans ?_ (putLogs_wr _ _ _)
    split <;> rfl

theorem State.logSide_rest (s : State) (sd : Side) (c : Nat) (d : List Nat) : putLogs s (s.logSide sd c d) = s := by
  cases sd
  · exact State.log_rest s c d
  · exact State.logMet_rest s c d

/-! ### MODE_STATUS -/

theorem SameFields.power {fs : List Fld} {s t : State} (h : SameFields fs s t) (p : Power) :
    SameFields fs s { t with power := p } := h.of_regs rfl

theorem State.settleHold_regs (s : State) (d : Dom) : (s.settleHold d).regs = s.regs := by simp [State.settleHold]

theorem State.biasSide_regs (s : State) (sd : Side) : (s.biasSide sd).regs = s.regs := by
  simp only [State.biasSide]
  split
  · simp [State.enterBias, State.fresh]
  · rfl

theorem State.restEntered_regs (s : State) (before : Bool) : (s.restEntered before).regs = s.regs := by
  simp only [State.restEntered]
  split
  · rw [State.biasSide_regs, State.biasSide_regs]
  · rfl

theorem State.showDomains_fields (s : State) : SameFields modeFields s s.showDomains := by
  have h0 : (allDoms.foldl State.settleHold s).regs = s.regs := by
    simp only [allDoms, List.foldl_cons, List.foldl_nil, State.settleHold_regs]
  have m : ∀ f ∈ [R.PWR.MODE_STATUS.BASE, R.PWR.MODE_STATUS.APP_ON, R.PWR.MODE_STATUS.MET_ON, R.PWR.MODE_STATUS.MET_RET,
      R.PWR.MODE_STATUS.RF_ON, R.PWR.MODE_STATUS.HELD], f ∈ modeFields := by decide
  have h := (SameFields.refl modeFields s).of_regs h0
  exact ((((((h.wr _ (m _ (by simp))).wr _ (m _ (by simp))).wr _ (m _ (by simp))).wr _ (m _ (by simp))).wr _
    (m _ (by simp))).wr _ (m _ (by simp)))

theorem State.modeComplete_fields (s : State) : SameFields modeFields s s.modeComplete := by
  refine SameFields.trans ?_ (State.showDomains_fields _)
  refine SameFields.of_regs (t := s.wr R.PWR.MODE_STATUS.EFFECTIVE s.effectiveMode) ?_ (State.restEntered_regs _ _)
  exact (SameFields.refl _ s).wr _ (by simp [modeFields])

theorem State.updateMode_fields (s : State) : SameFields modeFields s s.updateMode := by
  simp only [State.updateMode]
  split
  · exact State.showDomains_fields s
  · exact State.modeComplete_fields s

end Sys2Proof.Machine
end

