-- ==== Sys2Proof/Laws/Memory.lean ====
section
/-! SUPPORT. Memory: what a byte reads after a write, and the canonical form that every memory operation keeps. -/

namespace Sys2Proof.Machine

open Sys2Proof

theorem Memory.find_insert_self (m : List Host.Cell) (a : Nat) (b : Byte) :
    Memory.find (Memory.insert (a, b) m) a = some b := by
  induction m with
  | nil => simp [Memory.insert, Memory.find]
  | cons x m ih =>
    by_cases h : x.1 < a
    · have : x.1 ≠ a := Nat.ne_of_lt h
      simp [Memory.insert, Memory.find, h, this, ih]
    · simp [Memory.insert, Memory.find, h]

theorem Memory.find_insert_ne (m : List Host.Cell) {a c : Nat} (b : Byte) (h : a ≠ c) :
    Memory.find (Memory.insert (a, b) m) c = Memory.find m c := by
  induction m with
  | nil => simp [Memory.insert, Memory.find, h]
  | cons x m ih =>
    by_cases hx : x.1 < a
    · simp [Memory.insert, Memory.find, hx, ih]
    · simp [Memory.insert, Memory.find, hx, h]

theorem Memory.find_filter (m : List Host.Cell) (p : Nat → Bool) (c : Nat) :
    Memory.find (m.filter (fun e => p e.1)) c = if p c then Memory.find m c else none := by
  induction m with
  | nil => simp [Memory.find]
  | cons x m ih =>
    by_cases hx : x.1 = c
    · subst hx
      by_cases hp : p x.1 <;> simp [Memory.find, hp, ih]
    · by_cases hp : p x.1 <;> simp [Memory.find, hx, hp, ih]

/-- Another address is listed as before. -/
theorem Memory.find_put_ne (m : List Host.Cell) {a c : Nat} (b : Byte) (h : a ≠ c) :
    Memory.find (Memory.put m a b) c = Memory.find m c := by
  have hc : (c != a) = true := by simpa using fun e : c = a => h e.symm
  unfold Memory.put
  by_cases hu : unlisted a = some b
  · simp [hu, Memory.find_filter m (fun n => n != a) c, hc]
  · simp [hu, Memory.find_insert_ne _ _ h, Memory.find_filter m (fun n => n != a) c, hc]

/-- What an address is listed as after a write: nothing where the byte is what it reads as unlisted. -/
theorem Memory.find_put_self (m : List Host.Cell) (a : Nat) (b : Byte) :
    Memory.find (Memory.put m a b) a = if unlisted a = some b then none else some b := by
  unfold Memory.put
  by_cases hu : unlisted a = some b
  · simp [hu, Memory.find_filter m (fun n => n != a) a]
  · simp [hu, Memory.find_insert_self]

/-- A byte of a memory that is not flash reads what was written. -/
theorem State.byte_setByte_self (s : State) (a : Nat) (b : Byte) {r : Nat} (h : memRegion a = some r) :
    (s.setByte a b).byte a = b := by
  have hu : unlisted a = none := by simp [unlisted, h]
  simp [State.byte, State.setByte, h, Memory.find_put_self, hu]

/-- Every other byte reads as before. -/
theorem State.byte_setByte_ne (s : State) {a c : Nat} (b : Byte) (h : a ≠ c) : (s.setByte a b).byte c = s.byte c := by
  simp only [State.byte, State.setByte, Memory.find_put_ne _ _ h]
  rfl

/-- Bytes written leave every address outside them. -/
theorem State.byte_setBytes_outside (bs : List Nat) (s : State) (a c : Nat) (h : c < a ∨ a + bs.length ≤ c) :
    (s.setBytes a bs).byte c = s.byte c := by
  induction bs generalizing s a with
  | nil => rfl
  | cons b bs ih =>
    rw [List.length_cons] at h
    have h1 : c < a + 1 ∨ a + 1 + bs.length ≤ c := by omega
    have h2 : a ≠ c := by omega
    rw [State.setBytes, ih _ _ h1, State.byte_setByte_ne _ _ h2]

/-- The i-th byte written, in a memory that is not flash. -/
theorem State.byte_setBytes_inside (bs : List Nat) (s : State) (a i : Nat) (hi : i < bs.length)
    (hr : ∀ j, j < bs.length → (memRegion (a + j)).isSome = true) :
    (s.setBytes a bs).byte (a + i) = BitVec.ofNat 8 (bs.getD i 0) := by
  induction bs generalizing s a i with
  | nil => simp at hi
  | cons b bs ih =>
    rw [List.length_cons] at hi hr
    cases i with
    | zero =>
      obtain ⟨r, h0⟩ := Option.isSome_iff_exists.1 (hr 0 (by omega))
      rw [State.setBytes, State.byte_setBytes_outside _ _ _ _ (by omega)]
      simpa using State.byte_setByte_self s a (BitVec.ofNat 8 b) (by simpa using h0)
    | succ i =>
      have hr' : ∀ j, j < bs.length → (memRegion (a + 1 + j)).isSome = true := fun j hj => by
        have := hr (j + 1) (by omega)
        rwa [show a + (j + 1) = a + 1 + j by omega] at this
      have := ih (s.setByte a (BitVec.ofNat 8 b)) (a + 1) i (by omega) hr'
      rw [show a + (i + 1) = a + 1 + i by omega, State.setBytes, this]
      simp

/-! ### The canonical form -/

/-- The addresses of a memory as a register file, in which form its order is stated. -/
def Memory.keys (m : List Host.Cell) : RegFile := m.map (fun c => (c.1, 0))

theorem Memory.keys_filter (m : List Host.Cell) (p : Nat → Bool) :
    Memory.keys (m.filter (fun c => p c.1)) = (Memory.keys m).filter (fun e => p e.1) := by
  induction m with
  | nil => rfl
  | cons x m ih =>
    by_cases h : p x.1 = true <;> simp_all [Memory.keys]

theorem Memory.keys_insert (m : List Host.Cell) (a : Nat) (b : Byte) :
    Memory.keys (Memory.insert (a, b) m) = RegFile.insert (a, 0) (Memory.keys m) := by
  induction m with
  | nil => rfl
  | cons x m ih =>
    by_cases h : x.1 < a
    · simp_all [Memory.keys, Memory.insert, RegFile.insert]
    · simp [Memory.keys, Memory.insert, RegFile.insert, if_neg h]

theorem Memory.mem_insert {e y : Host.Cell} {m : List Host.Cell} (h : y ∈ Memory.insert e m) : y = e ∨ y ∈ m := by
  induction m with
  | nil => simpa [Memory.insert] using h
  | cons x m ih =>
    by_cases hx : x.1 < e.1
    · rw [Memory.insert, if_pos hx] at h
      rcases List.mem_cons.1 h with e' | hm
      · exact .inr (by simp [e'])
      · rcases ih hm with e' | hm'
        · exact .inl e'
        · exact .inr (by simp [hm'])
    · rw [Memory.insert, if_neg hx] at h
      rcases List.mem_cons.1 h with e' | hm
      · exact .inl e'
      · exact .inr hm

theorem Memory.wf_iff (m : List Host.Cell) :
    Memory.wf m = true ↔ RegFile.wf (Memory.keys m) = true ∧ ∀ c ∈ m, unlisted c.1 ≠ some c.2 := by
  simp [Memory.wf, Memory.keys]

/-- A memory stays canonical when cells are dropped. -/
theorem Memory.wf_filter {m : List Host.Cell} (p : Nat → Bool) (h : Memory.wf m = true) :
    Memory.wf (m.filter (fun c => p c.1)) = true := by
  obtain ⟨h1, h2⟩ := (Memory.wf_iff m).1 h
  refine (Memory.wf_iff _).2 ⟨?_, fun c hc => h2 c ((List.mem_filter.1 hc).1)⟩
  rw [Memory.keys_filter]
  exact RegFile.wf_filter _ h1

/-- A memory stays canonical when a byte is written. -/
theorem Memory.wf_put {m : List Host.Cell} (a : Nat) (b : Byte) (h : Memory.wf m = true) :
    Memory.wf (Memory.put m a b) = true := by
  have hf := Memory.wf_filter (fun n => n != a) h
  unfold Memory.put
  by_cases hu : unlisted a = some b
  · simpa [hu] using hf
  · simp only [hu, if_false]
    obtain ⟨h1, h2⟩ := (Memory.wf_iff _).1 hf
    refine (Memory.wf_iff _).2 ⟨?_, fun c hc => ?_⟩
    · rw [Memory.keys_insert]
      refine RegFile.wf_insert h1 (fun y hy => ?_)
      have hk := Memory.keys_filter m (fun n => n != a)
      rw [hk] at hy
      simpa using (List.mem_filter.1 hy).2
    · rcases Memory.mem_insert hc with e | hm
      · exact e ▸ hu
      · exact h2 c hm

theorem State.mem_setByte {s : State} (a : Nat) (b : Byte) (h : Memory.wf s.mem = true) :
    Memory.wf (s.setByte a b).mem = true := Memory.wf_put a b h

theorem State.mem_setBytes (bs : List Nat) {s : State} (a : Nat) (h : Memory.wf s.mem = true) :
    Memory.wf (s.setBytes a bs).mem = true := by
  induction bs generalizing s a with
  | nil => exact h
  | cons b bs ih => exact ih _ (State.mem_setByte _ _ h)

theorem State.mem_store {s : State} (a n v : Nat) (h : Memory.wf s.mem = true) : Memory.wf (s.store a n v).mem = true :=
  State.mem_setBytes _ _ h

theorem State.mem_forget {s : State} (lo hi : Nat) (h : Memory.wf s.mem = true) :
    Memory.wf (s.forget lo hi).mem = true :=
  Memory.wf_filter (fun n => !(decide (lo ≤ n) && decide (n < hi))) h

theorem State.mem_loseRegion {s : State} (r lo hi : Nat) (h : Memory.wf s.mem = true) :
    Memory.wf (s.loseRegion r lo hi).mem = true := State.mem_forget lo hi h

end Sys2Proof.Machine
end

