-- ==== Sys2Proof/Tests/States.lean ====
section
/-! SUPPORT. Small states for the tests. -/

namespace Sys2Proof.Machine

open Sys2Proof

/-- The cells of bytes that stand from an address upwards. -/
def cellsAt (a : Nat) (l : List Nat) : List Host.Cell :=
  ((l.zip (List.range l.length)).map (fun x => (a + x.2, BitVec.ofNat 8 x.1))).filter (fun c => unlisted c.1 != some c.2)

/-- MET is On too, with MCORE running. -/
def State.withMet (s : State) : State :=
  ({ s with power := { s.power with met := { s.power.met with st := .on, exiting := false } } } : State).raise R.MPWR.MCTL.RUN

/-- RF is On. -/
def State.withRf (s : State) : State := { s with power := { s.power with rf := { s.power.rf with st := .on } } }

/-- APP rests, Retained. -/
def State.withAppAsleep (s : State) : State :=
  { s with power := { s.power with app := { s.power.app with st := .retained }, acoreRuns := false } }

/-- The ROM loader runs. -/
def State.withLoader (s : State) : State := { s with boot := { s.boot with loader := true, sleeping := false } }

/-- A channel of a scan, and what a flow sequence of two pairs latches. -/
def channelEx : Channel := { fs := 0, chop := false, lo := -100, hi := 100 }

def flowCfgEx : FlowCfg :=
  { npair := 2, order := false, excl := false, minGood := 1, half := 8, delay := 2, window := 8, skip := 0, hits := 1, frac := 8
    loopK := 2, loopEn := true, thrMin := 10, thrMax := 200 }

/-- That sequence runs with some shots taken; once calibrated it is sending downstream. -/
def State.withFlow (s : State) (shots : List FlowShot) (cal : Bool) : State :=
  { s.withMet with
    flow := { s.flow with cfg := some flowCfgEx, calibrated := cal, shots := shots, sending := if cal then some 1 else none } }

/-- MFLASH slot A holds a legal image of 8 bytes whose TAG is that of the zero key. -/
def State.withLegalImage (s : State) : State :=
  let b := metPhys + 0x40000
  { s with
    mem :=
      cellsAt b [1, 2, 3, 4, 5, 6, 7, 8] ++
      cellsAt (b + 0xBFC0) (leBytes 4 0x4C470420 ++ leBytes 4 7 ++ [0, 0, 0xFF, 0xFF] ++ leBytes 4 3 ++ leBytes 8 8) ++
      cellsAt (b + 0xBFE0) [230, 53, 171, 212, 75, 72, 208, 10, 213, 166, 224, 168, 139, 42, 212, 0] ++
      cellsAt (b + 0xBFF8) (leBytes 8 0x4C5AA5C3) }

/-- Slot 1 holds a key that serves UPDATE. -/
def State.withUpdateKey (s : State) : State :=
  let s1 : State := { s with cmac := { s.cmac with keys := s.cmac.keys.set 1 (List.replicate 16 0x11) } }
  ((s1.raise (R.CMACE.SLOT.VALID 1)).wr (R.CMACE.SLOT.ATTR 1) 5)

/-- Bank 0 holds a valid application image of 8 bytes, on trial. -/
def State.withAppImage (s : State) : State :=
  let s1 := s.withUpdateKey
  { s1 with
    mem :=
      cellsAt 0x100000 [1, 2, 3, 4, 5, 6, 7, 8] ++
      cellsAt 0x14FFC0 (leBytes 4 0x41500420 ++ leBytes 4 7 ++ leBytes 4 0 ++ leBytes 4 8 ++ leBytes 4 0) ++
      cellsAt 0x14FFE0 [135, 220, 175, 30, 4, 80, 112, 54, 2, 102, 239, 224, 167, 33, 67, 254] ++
      cellsAt 0x14FFF8 (leBytes 8 0x4150A5C3) }

/-- A key-load record for slot 1 stands in SRAM. -/
def State.withKeyRecord (s : State) : State :=
  { s with mem := cellsAt 0x20000100 ([1, 0, 1, 1, 5, 0, 0, 0] ++ List.replicate 8 0 ++ List.replicate 32 9 ++
      [218, 188, 224, 235, 61, 123, 125, 227, 209, 74, 36, 92, 105, 102, 27, 137]) }

/-- A mode-7 command of an inbound telegram stands in SRAM, with the key of slot 3 that opens it. -/
def State.withTelegram (s : State) : State :=
  let s1 : State := { s with cmac := { s.cmac with keys := s.cmac.keys.set 3 (List.replicate 16 0x33) } }
  let s2 := (s1.raise (R.CMACE.SLOT.VALID 3)).wr (R.CMACE.SLOT.ATTR 3) 13
  { s2 with mem := cellsAt 0x20000100 ([47, 68, 45, 44, 1, 2, 3, 4, 1, 7, 144, 15, 0, 44, 37, 5, 0, 0, 0, 180, 23, 241, 65, 242,
      192, 180, 234, 122, 1, 0, 16, 7] ++ List.replicate 16 165) }

/-- A key with the attributes `attr` in slot 1, and registers that describe a job over 16 bytes of SRAM, the first one `b`. -/
def State.withJob (s : State) (attr b : Nat) : State :=
  let s1 := ((s.raise (R.CMACE.SLOT.VALID 1)).wr (R.CMACE.SLOT.ATTR 1) attr).wr R.CMACE.JOB_CTL.SLOT 1
  let s2 := ((s1.wr (R.CMACE.LEN.LEN 0) 16).wr (R.CMACE.SRC.ADDR 0) 0x20000000).wr R.CMACE.DST.ADDR 0x20001000
  (s2.wr (R.CMACE.IV.IV 0) b).setBytes 0x20000000 [b]

/-- Channel 1 of DMA moves words from SRAM to SRAM, two of them left. -/
def State.withChannel (s : State) : State :=
  let s1 := ((s.raise (R.DMA.CFG.EN 1)).wr (R.DMA.SRC.ADDR 1) 0x20000100).wr (R.DMA.DST.ADDR 1) 0x20000200
  { ((s1.wr (R.DMA.CTL.CTL 1) 0xE0002).wr (R.DMA.STAT.STATE 1) 2).store 0x20000100 4 0x12345678 with
    dma := { s.dma with loaded := [1], started := [1] } }

/-- The receive ring of channel 0, 64 words at the base of SRAM, and a record of three words in the RX FIFO. -/
def State.withRing (s : State) : State :=
  let s1 := ((s.withRf.raise R.DMA.CTRL.CH0_RING).raise (R.DMA.CFG.EN 0)).wr R.DMA.RING_BASE.ADDR 0x20000000
  ((s1.wr R.DMA.RING_WORDS.WORDS 64).wr R.LINK.RXLEVEL.BYTES 12).setLink { s.link with rx := [[0, 1, 2]] }

/-- The wired ports work, both UARTs on, the service link in FORM 1. -/
def State.withPorts (s : State) : State :=
  let s1 := (((s.raise (R.UART.CFG.EN 0)).raise (R.UART.CFG.EN 1)).raise R.SPI.CFG.EN).raise R.I2C.CFG.EN
  (s1.wr R.UART1.SVC.FORM 1).setPorts { s.ports with posc := true, ready := true, scale := 10 }

/-- A container of UPDATE in staging of bank 1: a DIRECT image of 8 bytes, whole. -/
def State.withContainer (s : State) : State :=
  let s1 := ((((s.withUpdateKey.wr R.UPDATE.ACTIVE.BANK 0).wr R.UPDATE.CID.CID 9).wr R.UPDATE.STATUS.STATE 2).wr
    R.UPDATE.RX.TOTAL 2).wr R.FLASHC.PROT_STATUS.LIFTED 511
  let h := leBytes 4 0x53480420 ++ [1, 1, 2, 0] ++ leBytes 2 0x4201 ++ [0, 0] ++ List.replicate 8 0xFF ++ leBytes 4 8 ++
    leBytes 4 8 ++ leBytes 4 0 ++ leBytes 4 5 ++ leBytes 4 3 ++ leBytes 4 0 ++ [0, 0, 0, 1] ++ List.replicate 8 0
  let tag := [84, 211, 15, 185, 101, 218, 236, 41, 244, 81, 96, 208, 106, 15, 250, 57]
  { s1 with mem := cellsAt (stagingBase 1) (h ++ tag ++ List.replicate 24 0 ++ [79, 94, 239, 43, 248, 58, 33, 241]) }

/-- The sheaf 1 of container 9, whose payload is zeros. -/
def sheafOne : List Nat :=
  leBytes 4 9 ++ [1, 0, 0, 0] ++ List.replicate 96 0 ++ [138, 129, 168, 35, 84, 74, 252, 232]

/-- The carrier at 868.3 MHz, RF On and the link engine enabled. -/
def State.withLink (s : State) : State :=
  ((s.withRf.wr R.RADIO.FREQ_BASE.WORD 17509203).raise R.LINK.CTRL.EN).raise R.LINK.CTRL.STOOK_RX

/-- A RAW submission of four bytes by APP in slot 7. -/
def State.withSubmission (s : State) : State :=
  ({ s with slots := s.slots.set 7 { emptySlot with owner := 5, giver := 2, len := 12 } } : State).setBytes (slotAddr 7)
    [3, 0, 0xFF, 0x7F, 0xFF, 0, 4, 0, 1, 2, 3, 4]

/-- The frame of that submission, and an attempt of it in a stage. -/
def rawFrame : TxFrame :=
  { src := .slot, slot := 7, giver := 2, form := 3, flags := 0, chan := 0xFF, dbm := 0x7F, retry := 0xFF, bytes := [1, 2, 3, 4]
    built := true, attempts := 1, onAir := false, lastFail := 0, wait := none, told := false, wmb := [], seq := 0 }

def rawAttempt (p : AttPhase) : Attempt :=
  { frame := rawFrame, phase := p, dst := 0xFFFF, parents := 0, freq := 17509203 * 26000000, bits := 256, rate := 100000, dbm := 10
    ext := false, capped := false, blocked := false, tuned := true, temp := 20 }

/-- The same as a telegram with a response window, and as a frame that awaits an acknowledgement. -/
def wmbAttempt (p : AttPhase) : Attempt := { rawAttempt p with frame := { rawFrame with form := 2, wmb := [5, 1, 0, 2, 0, 0, 0, 0] } }

def State.withAttempt (s : State) (a : Attempt) : State :=
  { s.withLink.withSubmission with link := { s.link with att := some a } }

/-- A node of a stead, with the key of slot 2. -/
def State.withStead (s : State) : State :=
  let s1 : State := { s.withLink with cmac := { s.cmac with keys := s.cmac.keys.set 2 (List.replicate 16 0x22) } }
  (((s1.raise (R.CMACE.SLOT.VALID 2)).wr (R.CMACE.SLOT.ATTR 2) 5).wr R.LINK.MESH_ID.STEAD 0x77).wr R.LINK.MESH_ID.ADDR 3

/-- A beacon of ring 0 from a collector, without its time. -/
def testBeacon : BeaconIn :=
  let h := stookHeader 0 0 0x77 0xFC00 0xFFFF 0 2 0xFC00 0xFFFF 0 1
  let d := [0, 0xFF] ++ List.replicate 32 0
  { bytes := h ++ d ++ [132, 34, 122, 29, 174, 96, 43, 125], rssi := 60, time := 0 }

/-- A frame up from node 9 to the collector of the stead, as the collector receives it. -/
def testUplink : List Nat :=
  stookHeader 1 0 0x77 9 0xFC00 1 2 9 0xFC00 0 1 ++ List.replicate 12 7

/-- A local request in slot 7 that reads an entry no table holds. -/
def State.withRequest (s : State) : State :=
  let s1 : State := { s with requests := [[0x107]], cmac := { s.cmac with classKeys := List.replicate 4 (List.replicate 16 0x44) }
                             slots := s.slots.set 7 { emptySlot with owner := 4, giver := 2, len := 24 } }
  { s1 with mem := cellsAt (slotAddr 7) [76, 68, 0, 0, 5, 0, 0, 0, 16, 1, 9, 0, 1, 255, 127, 0, 199, 155, 19, 196, 65, 163, 203, 180] }

/-- A request of one write through a callback, whose record is in slot 8. -/
def testJob (p : DictPhase) (call : Option Nat) : DictJob :=
  { frame := [], slot := some 7, config := false, cls := 0, hdr := 0x10, rid := 9, fc := 5, phase := p, next := 0, half := none, call := call
    ops := [{ op := 2, index := 0x7000, sub := 0, value := [1], status := 0, result := [], effDesc := none, dirty := 0,
              desc := some (paramEntry 0x1103 0 tU16 2 clsOper 0x220007C4 200 60000) }] }

def State.withJobOf (s : State) (p : DictPhase) (call : Option Nat) : State :=
  { s with dict := { s.dict with job := some (testJob p call) }
           slots := (s.slots.set 7 { emptySlot with owner := 4, giver := 2, len := 24 }).set 8 { emptySlot with owner := 4 } }

end Sys2Proof.Machine
end

