-- ==== Sys2Proof/Tests/Slice0.lean ====
section
/-! SUPPORT. Tests of the model: the checks of WellFormed, values that the spec's worked cases and the cited standards give,
and for every statement with hypotheses a state and operands that meet them. -/

set_option Elab.async false

open Sys2Proof Sys2Proof.Machine

/-! ### Each check of WellFormed refuses -/

theorem test_wf_refuses_ill_formed :
    (Instr.softwareReset 256 0).wf = false ∧ (Instr.fioAdd 0 65536).wf = false ∧ (Instr.floorWrite 0 (2 ^ 32)).wf = false ∧
    (Instr.loaderInfo [256] 0).wf = false ∧ (Instr.cfgCommit .met 3 0).wf = false ∧
    (Instr.bridgeAccess 0x01 16 false 0 0 0).wf = false ∧ (Instr.claim .app 2 32).wf = false ∧
    (Instr.claimAny .app 8).wf = false ∧ (Instr.give .app 2 0 8 0).wf = false ∧ (Instr.publish .app 2 0 1024).wf = false ∧
    (Instr.memoryAccess .app 1 0 3 0 0 false AccessEnv.none WriteEnv.none).wf = false ∧ (Instr.memoryAccess .app 1 3 4 0 0 false AccessEnv.none WriteEnv.none).wf = false ∧
    (Instr.bridgeAccess 0x01 1 false 4 0 0).wf = false ∧ (Instr.lateClockCommit 22).wf = false ∧
    (Instr.commitFire 1 16 []).wf = false ∧ (Instr.imageCheck 2).wf = false ∧ (Instr.touchSample 4 0).wf = false ∧
    (Instr.dictWatchPoll 8).wf = false ∧ (Instr.floorWrite 5 0).wf = false ∧ (Instr.gpioContend 12).wf = false ∧
    (Instr.fcntWrite 3 0).wf = false ∧ (Instr.jobMac 0).wf = false ∧ (Instr.bridgeTimeout 0x05).wf = false ∧
    (Instr.wakeEvent .app [16]).wf = false := by decide

theorem test_wf_accepts :
    (Instr.softwareReset 0xA5 0).wf = true ∧ (Instr.give .app 2 31 5 0x3FF).wf = true ∧ (Instr.floorWrite 4 7).wf = true := by
  decide

/-! ### Values that the cited standards give -/

/-- FIPS 197, appendix C.1. -/
theorem test_aes128 :
    aesBlock (List.range 16) ((List.range 16).map (fun i => 0x11 * i)) =
      [0x69, 0xC4, 0xE0, 0xD8, 0x6A, 0x7B, 0x04, 0x30, 0xD8, 0xCD, 0xB7, 0x80, 0x70, 0xB4, 0xC5, 0x5A] := by decide +kernel

/-- FIPS 197, appendix C.3. -/
theorem test_aes256 :
    aesBlock (List.range 32) ((List.range 16).map (fun i => 0x11 * i)) =
      [0x8E, 0xA2, 0xB7, 0xCA, 0x51, 0x67, 0x45, 0xBF, 0xEA, 0xFC, 0x49, 0x90, 0x4B, 0x49, 0x60, 0x89] := by decide +kernel

/-- The examples of NIST SP 800-38B for AES-128: the empty message, and one block. -/
theorem test_cmac :
    let k := [0x2B, 0x7E, 0x15, 0x16, 0x28, 0xAE, 0xD2, 0xA6, 0xAB, 0xF7, 0x15, 0x88, 0x09, 0xCF, 0x4F, 0x3C]
    cmacOf k [] = [0xBB, 0x1D, 0x69, 0x29, 0xE9, 0x59, 0x37, 0x28, 0x7F, 0xA3, 0x7D, 0x12, 0x9B, 0x75, 0x67, 0x46] ∧
    cmacOf k [0x6B, 0xC1, 0xBE, 0xE2, 0x2E, 0x40, 0x9F, 0x96, 0xE9, 0x3D, 0x7E, 0x11, 0x73, 0x93, 0x17, 0x2A] =
      [0x07, 0x0A, 0x16, 0xB4, 0x6B, 0x4D, 0x41, 0x44, 0xF7, 0x9B, 0xDD, 0x9D, 0xD0, 0x4A, 0x28, 0x7C] := by decide +kernel

/-- The check values of CRC-32 and CRC-16/EN-13757 over the digits 1 to 9. -/
theorem test_crcs :
    let d := [0x31, 0x32, 0x33, 0x34, 0x35, 0x36, 0x37, 0x38, 0x39]
    fcsOf d = 0xCBF43926 ∧ wmbCrc d = [0xC2, 0xB7] := by decide +kernel

/-! ### Values of the spec's worked cases -/

/-- Ch. 23: the input of the derivation of K_PW. -/
theorem test_kpw_input :
    deriveInput 1 labelProt [0x95, 0x3B, 0x07, 0x00, 0x20, 0x04, 0x01, 0x00] 128 =
      [0x31, 0x50, 0x52, 0x4F, 0x54, 0x00, 0x95, 0x3B, 0x07, 0x00, 0x20, 0x04, 0x01, 0x00, 0x00, 0x80] := by decide

/-- Ch. 15: channel 3 of a 200 kHz plan above 868.950 MHz. -/
theorem test_channel_word : (State.reset.wr R.RADIO.CHAN.SPACE 4033).carrierW 3 = 17534409 := by decide +kernel

/-- Ch. 03: 96 mW for 6.4 ms from 10 mF at MARGIN 2 needs 2.133 V above VSTOP 2.10 V. -/
theorem test_admission_voltage :
    let s := ((State.reset.wr R.PWR.RES_CTRL.VSTOP 4).wr R.PWR.RES_CTRL.MARGIN 2).wr R.PWR.RES_CAP.CAP 100
    s.reachesAdmit 96 6400 1 2134 = true ∧ s.reachesAdmit 96 6400 1 2133 = false := by decide +kernel

/-- Ch. 17: a T1 telegram of 47 bytes with its length, in format A: 55 bytes, 712 chips at 100 kchip/s. -/
theorem test_telegram_air :
    wmbLength 0 47 = 55 ∧ wmbAir [4, 1, 5, 0, 0, 0, 0, 0] 47 = (712, 100000) := by decide +kernel

/-- Ch. 06: RF_HOLD raised through the set alias. -/
theorem test_rf_hold_alias :
    (match exec (.aliasSet .app 1 0x4000100C 1 WriteEnv.none) State.reset with
      | .next t => t.rd R.PWR.DOMAIN_REQ.RF_HOLD
      | _ => 7) = 1 := by decide +kernel

/-- Ch. 02, R66: TIMEOUT and MULTI cleared in the window in which a second timeout sets MULTI: that set wins. -/
theorem test_collision_set_wins :
    let s := (State.reset.raise (R.BRIDGE.STATUS.TIMEOUT .app)).raise (R.BRIDGE.STATUS.MULTI .app)
    let m := 2 ^ (R.BRIDGE.STATUS.MULTI .app).lsb
    (match exec (.registerWrite .app 1 0x40012000 (0x10000 + m) { world := [], contest := { bits := m, adds := 0 } }) s with
      | .next t => (t.rd (R.BRIDGE.STATUS.TIMEOUT .app), t.rd (R.BRIDGE.STATUS.MULTI .app))
      | _ => (7, 7)) = (0, 1) := by decide +kernel

/-- Ch. 15, Table RF-7: the external PA is enabled SW_GAP after its path is selected, here at the reset value. -/
theorem test_pa_moves :
    (State.reset.opConfig.startMoves true).map Prod.fst = [0, max 1 R.RADIO.EXTPA_TIME.SW_GAP.rst] := by decide +kernel

/-- Ch. 07, step 4: the DMA channel at its wait limit of 3 wins against a higher priority, and its counter clears. -/
theorem test_forced_decision :
    let s := ((State.reset.wr (R.ARB.PRIO.P 3) 2).wr (R.ARB.WAITLIM.L 3) 3).wr (R.ARB.WAITCNT.C 3) 3
    (match exec (.arbiterDecision 1 [1, 12, 3]) s with
      | .next t => (t.rd (R.ARB.WAITCNT.C 1), t.rd (R.ARB.WAITCNT.C 3), t.rd R.ARB.FORCED.LAST)
      | _ => (7, 7, 7)) = (1, 0, 3) := by decide +kernel

/-- Ch. 24: RING_WORDS 1,024, RING_RD 1,000, RING_WR 990 leave 9 words, too few for a frame of 64 bytes. -/
theorem test_ring_free :
    (((State.reset.wr R.DMA.RING_WORDS.WORDS 1024).wr R.DMA.RING_RD.RD 1000).wr R.DMA.RING_WR.WR 990).ringFree = 9 := by
  decide +kernel

/-- Ch. 21: the requested value −3 and the effective value 0 of a pair of type I16. -/
theorem test_diverged_values :
    let d := paramEntry 0x1103 0 tI16 2 clsOper 0x220007C4 0 1
    divergedValue (some d) [0xFD, 0xFF] = [0xFD, 0xFF, 0xFF, 0xFF] ∧ divergedValue (some d) [0, 0] = [0, 0, 0, 0] := by decide

/-- Ch. 16: with USED at 3,396.0 ms of 3,400 and 1.3 and 4.0 ms in the two oldest buckets, 6.5 ms wait for two ticks. -/
theorem test_duty_wait :
    let d := [1300, 4000] ++ List.replicate 57 0 ++ [3390700]
    let s : State := { State.reset with link := { State.reset.link with duty := State.reset.link.duty.set 3 d } }
    (s.wr (R.LINK.DUTY_CAP.CAP 3) 36).ticksToFit 3 6500 10 = some 2 := by decide +kernel

/-- Ch. 02, first update: STEP 1 moves the code by 2 at most, from 12 to 14. -/
theorem test_pace_step :
    let s := (State.reset.wr (R.PWR.PACE_STATUS.VCORE_CODE .app) 12).wr (R.PWR.PACE_CTRL.TARGET .app) 80
    (match exec (.paceUpdate .app 8 78) s with
      | .next t => t.rd (R.PWR.PACE_STATUS.VCORE_CODE .app)
      | _ => 99) = 14 := by decide +kernel

/-- Ch. 13, step 2: the second sample 1,200 counts above BASE 7,500 presses the key. -/
theorem test_touch_press :
    let c := { up := true, recal := false, onRun := 1, offRun := 0, samples := [] }
    let s : State := { State.reset.withMet with seqr := { State.reset.seqr with touch := List.replicate 4 c } }
    (match exec (.touchSample 0 8700) (((s.wr (R.TOUCH.BASE.BASE 0) 7500).wr R.TOUCH.CFG.EN 1).wr (R.LCD.PINSEL.SEL 0) 2) with
      | .next t => (t.touchState 0 == tTouched, t.rdBit R.TOUCH.STATUS.PRESS 0)
      | _ => (false, false)) = (true, true) := by decide +kernel


/-! ### States that meet the hypotheses of each statement -/

theorem witness_StepTakesTheFrontCommand :
    (State.reset.withPending [.wakeClr .app]).pending = [.wakeClr .app] ∧ State.reset.pending = [] :=
  by decide +kernel

theorem witness_EveryStepKeepsTheDataCanonical :
    ([State.reset.regs, State.reset.shadow, State.reset.mirror, State.reset.metMirror, State.reset.rfMirror, State.reset.copies].all RegFile.wf = true ∧ Memory.wf State.reset.mem = true) ∧ State.reset.pending = [] :=
  by decide +kernel

theorem witness_IdleTickAdvancesTheClock :
    let s := State.reset; s.power.ship = false ∧ s.resetHold ≠ 1 ∧ s.resetHold ≠ 3 ∧ s.power.clockLoss = false ∧ s.farClock 0x02 = true ∧ s.rfReady = false ∧ s.rd R.AON.RTC_SUB.SUB < 32768 ∧ s.rd R.AON.RTC_SEC.SEC < 2 ^ 32 - 1 ∧
    let s := ({ State.reset.withRf.raise (R.BRIDGE.CLKSTAT.HFXO_RUN .app) with rtcOnTosc := false } : State); s.power.ship = false ∧ s.resetHold ≠ 1 ∧ s.resetHold ≠ 3 ∧ s.power.clockLoss = false ∧ s.farClock 0x02 = false ∧ s.rfReady = true ∧ s.farClock 0x0B = true ∧
    ({ State.reset with resetHold := 1 } : State).resetHold = 1 :=
  ⟨by decide +kernel, by decide +kernel, by decide +kernel⟩

theorem witness_PaceAndBiasLoops :
    (let sd : Side := .app;
      let s : State := State.reset;
      (s.power.clockLoss = false) ∧ (s.rd (R.PWR.PACE_STATUS.VCORE_CODE sd) ≤ 90)) ∧
    (let sd : Side := .met;
      let s : State := State.reset.raise (R.PWR.PACE_STATUS.AT_CEIL .met);
      (s.flag (R.PWR.PACE_STATUS.AT_CEIL sd) = true) ∧ (s.flag (R.PWR.PACE_STATUS.CEIL_HIT sd) = false)) ∧
    (let sd : Side := .app;
      let s : State := State.reset;
      (s.railPowered sd = true)) ∧
    (let sd : Side := .app;
      let s : State := State.reset.raise (R.PWR.PACE_STATUS.UNDER .app);
      (s.flag (R.PWR.PACE_STATUS.UNDER sd) = true)) ∧
    (let sd : Side := .app;
      let s : State := State.reset.raise (R.PWR.PACE_STATUS.UNDER .app);
      (s.flag (R.PWR.PACE_STATUS.UNDER sd) = true) ∧ (s.quiet = true) ∧ (s.update.due = [])) ∧
    (let sd : Side := .app;
      let s : State := ({ State.reset.withAppAsleep.wr R.PWR.MODE_STATUS.EFFECTIVE 1 with appRail := { State.reset.appRail with biasOn := true } } : State);
      (s.retained sd = true) ∧ (s.restMode = true) ∧ ((s.rail sd).biasOn = true) ∧ (s.rd (R.PWR.BIAS_CTRL.TRACK sd) ≠ 3)) ∧
    (let sd : Side := .app;
      let s : State := ({ State.reset.withAppAsleep.wr R.PWR.MODE_STATUS.EFFECTIVE 1 with appRail := { State.reset.appRail with biasOn := true } } : State);
      (s.biasRamps sd = false) ∧ (s.retained sd = true) ∧ (s.restMode = true) ∧ ((s.rail sd).biasOn = true)) ∧
    (let sd : Side := .app;
      let s : State := (State.reset.setDom .app { State.reset.power.app with st := .retained, entering := some .retained }).raise (R.PWR.BIAS_CTRL.EN .app);
      (s.biasRamps sd = true)) :=
  ⟨by decide +kernel, by decide +kernel, by decide +kernel, by decide +kernel, by decide +kernel, by decide +kernel, by decide +kernel, by decide +kernel⟩

theorem witness_BridgesCarryAndTimeOut :
    (let id : Nat := 0x03;
      let s : State := State.reset;
      (isPulseBridge id = true) ∧ (s.farPowered id = true) ∧ (id ∉ s.bridges.pulses)) ∧
    (let id : Nat := 0x14;
      let s : State := ({ State.reset with bridges := { State.reset.bridges with pulses := [0x14] } } : State);
      (isPulseBridge id = true) ∧ (s.farPowered id = true) ∧ (id ∈ s.bridges.pulses) ∧ (s.rd (R.BRIDGE.COUNTS.OVR_COUNT (bridgeSide id)) < 255)) ∧
    (let id : Nat := 0x0C;
      let s : State := State.reset;
      (isPulseBridge id = true) ∧ (s.farPowered id = false) ∧ (s.flag (R.BRIDGE.STATUS.TIMEOUT (bridgeSide id)) = false)) ∧
    (let req : Nat := 1;
      let f : Fld := R.AON.WDT.FEED;
      let s : State := State.reset;
      (s.power.app.st = .on) ∧ (s.power.ship = false) ∧ (s.quiet = true) ∧ (s.outstanding .app req = false) ∧ (f ∈ [R.AON.WDT.FEED, R.AON.RST_REQ.KEY])) ∧
    (let req : Nat := 1;
      let s : State := State.reset;
      (s.power.app.st = .on) ∧ (s.power.rf.st = .off) ∧ (s.quiet = true) ∧ (s.outstanding .app req = false)) ∧
    (let id : Nat := 0x01;
      let write : Bool := true;
      let mode : Nat := 0;
      let addr : Nat := 0x48001000;
      ((id ≠ 0x09 ∧ id ≠ 0x0E)) ∧ (carries id (bridgeSide id) write (mode % 4) addr = false)) ∧
    (let id : Nat := 0x01;
      let a : BridgeAccess := { id := 1, req := 0, write := true, addr := 0x40002010, data := 0, mode := 0, limit := 16, sync := false, taken := false };
      let s : State := ({ State.reset with bridges := { State.reset.bridges with waiting := [{ id := 1, req := 0, write := true, addr := 0x40002010, data := 0, mode := 0, limit := 16, sync := false, taken := false }] } } : State);
      (isWordBridge id = true) ∧ (s.quiet = true) ∧ (s.timeoutsRun = true) ∧ (s.bridgeHead id = some a) ∧ (s.bridgeFill id ≤ 2) ∧ (a.ofDma = false) ∧ (¬(bridgeSide id = .app ∧ a.req = 11))) ∧
    (let id : Nat := 0x03;
      let s : State := ({ State.reset with bridges := { State.reset.bridges with pulses := [0x03] } } : State);
      (isPulseBridge id = true) ∧ (s.timeoutsRun = true) ∧ (id ∈ s.bridges.pulses)) ∧
    (let id : Nat := 0x03;
      let s : State := ({ State.reset with bridges := { State.reset.bridges with pulses := [0x03] } } : State);
      (isPulseBridge id = true) ∧ (s.farPowered id = true) ∧ (s.farClock id = true) ∧ (s.awake = true) ∧ (s.quiet = true) ∧ (s.bridgeHead id = none) ∧ (id ∈ s.bridges.pulses)) ∧
    (let sd : Side := .met;
      let a : BridgeAccess := { id := 0x11, req := 1, write := true, sync := true, taken := true, mode := 0, addr := 0x48000030, data := 1, limit := 100 };
      let s : State := ({ State.reset with bridges := { State.reset.bridges with waiting := [{ id := 0x11, req := 1, write := true, sync := true, taken := true, mode := 0, addr := 0x48000030, data := 1, limit := 100 }] } } : State);
      (s.awake = true) ∧ (s.farClock (sd.pick 0x01 0x11) = true) ∧ (s.quiet = true) ∧ (s.bridgeHead (sd.pick 0x01 0x11) = some a) ∧ (a.sync = true) ∧ (a.taken = true) ∧ (a.ofDma = false) ∧ (¬(sd = .app ∧ a.req = 11))) ∧
    (let sd : Side := .met;
      let s : State := State.reset.withMet;
      (s.sideOn sd = true) ∧ (s.power.ship = false) ∧ (s.quiet = true) ∧ (s.outstanding sd 1 = false)) ∧
    (let id : Nat := 0x01;
      let s : State := ({ State.reset with bridges := { State.reset.bridges with runs := [(1, 255)] } } : State);
      (isWordBridge id = true) ∧ (s.awake = true) ∧ (s.variant ≠ .c) ∧ (s.rd (R.BRIDGE.LOCKUP.LOCKUP_N (bridgeSide id)) ≠ 0) ∧ (s.rd (R.BRIDGE.LOCKUP.LOCKUP_N (bridgeSide id)) ≤ s.bridges.runs.count id)) :=
  ⟨by decide +kernel, by decide +kernel, by decide +kernel, by decide +kernel, by decide +kernel, by decide +kernel, by decide +kernel, by decide +kernel, by decide +kernel, by decide +kernel, by decide +kernel, by decide +kernel⟩

theorem witness_SupplyMonitorAndReservoir :
    (let vres : Nat := 2000;
      let vbat : Nat := 3600;
      let s : State := State.reset;
      (s.awake = true) ∧ (s.mayCharge vres vbat = true)) ∧
    (let vres : Nat := 4000;
      let vbat : Nat := 3600;
      let s : State := State.reset.raise R.PWR.RES_STATUS.CHARGING;
      (s.awake = true) ∧ (s.flag R.PWR.RES_STATUS.CHARGING = true) ∧ (s.vTop vbat ≤ vres)) ∧
    (let s : State := State.reset;
      (s.awake = true) ∧ (s.awaitsEnergy = false)) ∧
    (let a : Attempt := rawAttempt .energy;
      let s : State := State.reset.withAttempt (rawAttempt .energy);
      (s.link.att = some a) ∧ (a.phase = .energy)) ∧
    (let a : Attempt := rawAttempt .tx;
      let s : State := State.reset.withAttempt (rawAttempt .tx);
      (s.link.att = some a) ∧ (a.phase = .tx ∨ a.phase = .tune)) ∧
    (let vmeas : Nat := 3300;
      let s : State := State.reset;
      (s.samples = true) ∧ (s.flag R.MPWR.ECHK.BUSY = false) ∧ (s.copies = []) ∧ (s.level = 0) ∧ (∀ n ∈ List.range 7, s.threshold (n + 1) ≤ s.vComp vmeas)) ∧
    (let vmeas : Nat := 2900;
      let s : State := ({ State.reset with supply := { State.reset.supply with below := [2, 0, 0, 0, 0, 0, 0] } } : State);
      (s.samples = true) ∧ (s.flag R.MPWR.ECHK.BUSY = false) ∧ (s.copies = []) ∧ (s.level = 0) ∧ (s.supply.below = [2, 0, 0, 0, 0, 0, 0]) ∧ (s.vComp vmeas < s.threshold 1)) ∧
    (let s : State := ({ State.reset.withMet with power := { State.reset.withMet.power with freezeWait := true } } : State);
      (s.metRuns = true) ∧ (s.power.freezeWait = true)) ∧
    (let s : State := State.reset.withMet;
      (s.metRuns = true) ∧ (s.power.freezeWait = false)) ∧
    (let s : State := ({ State.reset with power := { State.reset.power with freezeWait := true } } : State);
      (s.power.freezeWait = true)) :=
  ⟨by decide +kernel, by decide +kernel, by decide +kernel, by decide +kernel, by decide +kernel, by decide +kernel, by decide +kernel, by decide +kernel, by decide +kernel, by decide +kernel⟩

theorem witness_OscillatorEvents :
    (let s : State := State.reset;
      (s.power.ship = false) ∧ (s.resetHold = 0)) ∧
    (let s : State := ({ State.reset with resetHold := 1, power := { State.reset.power with clockLoss := true } } : State);
      (s.power.clockLoss = true) ∧ (s.resetHold = 1)) ∧
    (let s : State := State.reset;
      (s.awake = true) ∧ (s.lfxoArmed = false)) ∧
    (let s : State := State.reset;
      (s.awake = true) ∧ (s.lfxoArmed = false)) ∧
    (let s : State := ({ State.reset.raise (R.BRIDGE.CLKSTAT.LFXO_RUN .app) with lfxoArmed := true, rtcOnTosc := false } : State);
      (s.awake = true) ∧ (s.lfxoArmed = true) ∧ (s.flag (R.BRIDGE.CLKSTAT.LFXO_RUN .app) = true) ∧ (s.bridges.fallback = false)) ∧
    (let s : State := ({ State.reset.raise (R.BRIDGE.CLKSTAT.LFXO_RUN .app) with lfxoArmed := true, rtcOnTosc := false } : State);
      (s.awake = true) ∧ (s.lfxoArmed = true) ∧ (s.flag (R.BRIDGE.CLKSTAT.LFXO_RUN .app) = true) ∧ (s.bridges.fallback = false)) ∧
    (let s : State := ({ State.reset with lfxoArmed := true } : State);
      (s.awake = true) ∧ (s.lfxoArmed = true)) ∧
    (let s : State := State.reset;
      (s.awake = true) ∧ (s.bridges.fallback = false) ∧ (s.flag (R.BRIDGE.CLKSTAT.LFXO_RUN .app) = false ∨ s.power.shipping = true)) ∧
    (let s : State := State.reset.raise (R.BRIDGE.CLKSTAT.LFXO_RUN .app);
      (s.awake = true) ∧ (s.power.shipping = false) ∧ (s.bridges.fallback = false) ∧ (s.flag (R.BRIDGE.CLKSTAT.LFXO_RUN .app) = true) ∧ (s.copies = []) ∧ (s.level = 0) ∧ (s.supply.below = List.replicate 7 0) ∧ (s.flag R.MPWR.ECHK.BUSY = false)) :=
  ⟨by decide +kernel, by decide +kernel, by decide +kernel, by decide +kernel, by decide +kernel, by decide +kernel, by decide +kernel, by decide +kernel, by decide +kernel⟩

theorem witness_OscillatorFrames :
    (let s : State := State.reset;
      (s.flag (R.BRIDGE.CLKSTAT.LFXO_RUN .app) = false)) :=
  by decide +kernel

theorem witness_ResetsAndWatchdogs :
    (let s : State := State.reset;
      (s.resetHold < 2)) ∧
    (let s : State := ({ State.reset with resetHold := 2 } : State);
      (s.resetHold = 2)) ∧
    (let s : State := ({ State.reset with resetHold := 1 } : State);
      (s.resetHold = 1) ∧ (s.power.clockLoss = false)) ∧
    (let s : State := State.reset;
      (s.power.ship = false) ∧ (s.resetHold = 0)) ∧
    (let s : State := ({ State.reset with resetHold := 2 } : State);
      (s.resetHold = 2)) ∧
    (let s : State := ({ State.reset with power := { State.reset.power with ship := true } } : State);
      (s.power.ship = true)) ∧
    (let s : State := State.reset.wr R.AON.WDT.REMAIN 0;
      (s.acoreExecuting = true) ∧ (s.awdtPeriod ≠ 0) ∧ (s.rd R.AON.WDT.REMAIN = 0) ∧ (s.awake = true)) ∧
    (let s : State := State.reset.withMet.wr R.MPWR.WDT.REMAIN 0;
      (s.mcoreExecuting = true) ∧ (s.rd R.MPWR.WDT.REMAIN = 0) ∧ (s.variant ≠ .c) ∧ (s.awake = true)) ∧
    (let key : Nat := 0xA5;
      let s : State := State.reset;
      (key % 256 = 0xA5) ∧ (s.power.app.st = .on)) ∧
    (let key : Nat := 0x3C;
      let s : State := State.reset;
      (key % 256 = 0x3C) ∧ (s.power.app.st = .on)) ∧
    (let key : Nat := 0x3C;
      let s : State := State.reset.withMet;
      (key % 256 = 0x3C) ∧ (s.metRuns = true)) ∧
    (let key : Nat := 1;
      (key % 256 ≠ 0x3C)) ∧
    (let s : State := State.reset.withMet;
      (s.metRuns = true) ∧ (s.mrom.wdtSet = false)) ∧
    (let s : State := ({ State.reset.withMet with mrom := { State.reset.mrom with wdtSet := true } } : State);
      (s.metRuns = true) ∧ (s.mrom.wdtSet = true)) :=
  ⟨by decide +kernel, by decide +kernel, by decide +kernel, by decide +kernel, by decide +kernel, by decide +kernel, by decide +kernel, by decide +kernel, by decide +kernel, by decide +kernel, by decide +kernel, by decide +kernel, by decide +kernel, by decide +kernel⟩

theorem witness_ModeControllerEntriesAndExits :
    (let s : State := State.reset;
      (s.acoreExecuting = true) ∧ (s.flag R.PWR.REST.APP_OFF = true)) ∧
    (let s : State := State.reset.clear R.PWR.REST.APP_OFF;
      (s.acoreExecuting = true) ∧ (s.flag R.PWR.REST.APP_OFF = false)) ∧
    (let d : Dom := .app;
      let s : State := ({ State.reset with power := { State.reset.power with acoreRuns := false } } : State);
      (s.resetHold = 0) ∧ (s.power.ship = false) ∧ (s.power.shipAccepted = false) ∧ (s.power.shipping = false) ∧ ((s.dom d).entering = none) ∧ ((s.dom d).exiting = false) ∧ ((s.dom d).st = .on) ∧ (s.demanded d ≠ .on) ∧ (s.blocksBusy d = false)) ∧
    (let d : Dom := .app;
      let s : State := ({ State.reset with power := { State.reset.power with acoreRuns := false } } : State);
      (s.resetHold = 0) ∧ (s.power.ship = false) ∧ (s.power.shipAccepted = false) ∧ (s.power.shipping = false) ∧ ((s.dom d).entering = none) ∧ ((s.dom d).exiting = false) ∧ ((s.dom d).st = .on) ∧ (s.demanded d ≠ .on)) ∧
    (let idle : Bool := true;
      let s : State := ({ (State.reset.raise R.MPWR.MCTL.SHIP_OK).wr R.MPWR.MCTL.RUN 0 with power := { State.reset.power with shipAccepted := true, met := { State.reset.power.met with st := .retained, exiting := false } } } : State);
      (s.resetHold = 0) ∧ (s.power.ship = false) ∧ (s.power.shipAccepted = true) ∧ (s.shipWithdrawn = false) ∧ (s.shipReady idle = true)) ∧
    (let d : Dom := .app;
      let s : State := (State.reset.setDom .app { State.reset.power.app with held := true });
      ((s.dom d).held = true) ∧ ((s.dom d).heldLogged = false)) ∧
    (let d : Dom := .app;
      let x : DomState := .retained;
      let s : State := (State.reset.setDom .app { State.reset.power.app with st := .retained, entering := some .retained, latched := [4] });
      ((s.dom d).entering = some x) ∧ (s.power.shipping = false)) ∧
    (let sd : Side := .app;
      let c : Nat := 0xA;
      let s : State := State.reset.withAppAsleep.wr (R.PWR.WAKE_EN.EN .app) 0x7FFF;
      (s.resetHold = 0) ∧ (s.power.frozen = false) ∧ (s.power.ship = false) ∧ (s.power.shipping = false) ∧ (s.boot.sleeping = false) ∧ (c < 16) ∧ (s.wakeEnabled sd c = true) ∧ (s.causeArises c = true) ∧ (c ∉ s.wakeList sd) ∧ (s.rd (R.PWR.WAKE_CAUSE.COUNT sd) < 4)) ∧
    (let d : Dom := .met;
      let s : State := State.reset;
      ((s.dom d).exiting = true) ∧ (s.resetHold = 0) ∧ (d = .met → s.variant ≠ .c) ∧ (s.power.ship = false)) ∧
    (let s : State := ((State.reset.wr R.PWR.MODE_REQ.SHIP 1).wr R.PWR.MODE_REQ.KEY 0xC7).wr R.MPWR.MCTL.SHIP_OK 1;
      (s.flag R.PWR.MODE_REQ.SHIP = true) ∧ (s.rd R.PWR.MODE_REQ.KEY = 0xC7) ∧ (s.flag R.MPWR.MCTL.SHIP_OK = true ∨ s.variant = .c) ∧ (s.flag R.PWR.LADDER.LOCK7 = false) ∧ (s.inService = false)) ∧
    (let s : State := State.reset.wr R.PWR.MODE_REQ.SHIP 1;
      (s.flag R.PWR.MODE_REQ.SHIP = true) ∧ (s.rd R.PWR.MODE_REQ.KEY ≠ 0xC7)) ∧
    (let s : State := State.reset;
      (s.variant ≠ .c)) ∧
    (let s : State := State.reset;
      (s.variant ≠ .c)) ∧
    (let v : Bool := true;
      let s : State := State.reset;
      (s.variant ≠ .c) ∧ (v = false ∨ s.level < 5)) ∧
    (let s : State := State.reset.wr R.PWR.LADDER.LEVEL 5;
      (s.variant ≠ .c) ∧ (5 ≤ s.level)) ∧
    (let s : State := State.reset.wr R.MPWR.MCTL.SERVICE 1;
      (s.inService = true)) ∧
    (let x : DomState := .off;
      let s : State := ({ State.reset with power := { State.reset.power with shipping := true, app := { State.reset.power.app with st := .off, entering := some .off } } } : State);
      (s.power.shipping = true) ∧ (s.power.app.entering = some x) ∧ (s.power.app.latched = [])) ∧
    (let x : DomState := .off;
      let s : State := ({ State.reset with power := { State.reset.power with shipping := true, app := { State.reset.power.app with st := .off, entering := some .off, latched := [4] } } } : State);
      (s.power.shipping = true) ∧ (s.power.app.entering = some x) ∧ (s.power.app.latched ≠ [])) :=
  ⟨by decide +kernel, by decide +kernel, by decide +kernel, by decide +kernel, by decide +kernel, by decide +kernel, by decide +kernel, by decide +kernel, by decide +kernel, by decide +kernel, by decide +kernel, by decide +kernel, by decide +kernel, by decide +kernel, by decide +kernel, by decide +kernel, by decide +kernel, by decide +kernel⟩

theorem witness_RegisterWritesByAccessClass :
    (let req : Nat := 1;
      let f : Fld := R.GPIO.OUT.OUT;
      let s : State := State.reset;
      (s.accepts .app req = true) ∧ (f ∈ [R.GPIO.DIR.OUT, R.GPIO.OD.OD, R.GPIO.OUT.OUT])) ∧
    (let req : Nat := 1;
      let s : State := State.reset.wr R.GPIO.CONTEND.CONTEND 7;
      (s.accepts .app req = true)) ∧
    (let req : Nat := 1;
      let s : State := State.reset.wr R.GPIO.OUT.OUT 0xA5;
      (s.accepts .app req = true) ∧ (s.rd R.GPIO.OUT.OUT < 2 ^ 12)) ∧
    (let req : Nat := 1;
      let s : State := State.reset.wr R.GPIO.OUT.OUT 0xA5;
      (s.accepts .app req = true) ∧ (s.rd R.GPIO.OUT.OUT < 2 ^ 12)) ∧
    (let req : Nat := 1;
      let s : State := State.reset.wr R.GPIO.OUT.OUT 0xA5;
      (s.accepts .app req = true) ∧ (s.rd R.GPIO.OUT.OUT < 2 ^ 12)) ∧
    (let req : Nat := 1;
      let a : Nat := 0x40001008;
      let s : State := State.reset;
      (s.accepts .app req = true) ∧ (a ∈ [0x40001008, 0x40001048, 0x40001064, 0x4001200C, 0x4000300C]) ∧ (s.locked (windowBase a) = false)) ∧
    (let req : Nat := 12;
      let a : Nat := 0x40011002;
      let s : State := State.reset;
      (s.accepts .app req = true) ∧ (2 ≤ req) ∧ (10 ≤ req) ∧ (0x40011000 ≤ a) ∧ (a < 0x40012000) ∧ (a % 4 ≠ 0)) :=
  ⟨by decide +kernel, by decide +kernel, by decide +kernel, by decide +kernel, by decide +kernel, by decide +kernel, by decide +kernel⟩

theorem witness_CommitsTakeTheShadows :
    (let req : Nat := 1;
      let base : Nat := 0x40012000;
      let s : State := State.reset.shadowWr (R.BRIDGE.TIMEOUT.AON_LIMIT .app) 300;
      (s.accepts .app req = true) ∧ (base ∈ [0x40003000, 0x40012000]) ∧ (s.locked base = false)) ∧
    (let req : Nat := 1;
      let base : Nat := 0x40012000;
      let s : State := State.reset.shadowWr (R.BRIDGE.TIMEOUT.AON_LIMIT .app) 300;
      (s.accepts .app req = true) ∧ (base ∈ [0x40001000, 0x40003000, 0x40004000, 0x40007000, 0x40012000]) ∧ (s.locked base = false)) ∧
    (let req : Nat := 1;
      let bits : Nat := 1;
      let s : State := (State.reset.shadowWr (R.BRIDGE.TIMEOUT.AON_LIMIT .app) 300).wr (R.SYSCTL.COMMIT_GROUP.MASK 0) (2 ^ 18);
      (s.accepts .app req = true) ∧ (bits % 8 = 1) ∧ (s.rd (R.SYSCTL.COMMIT_GROUP.MASK 0) = 2 ^ 18) ∧ (18 ∉ s.fabric.late)) ∧
    (let req : Nat := 1;
      let stopped : List Nat := [];
      let s : State := ({ State.reset with fabric := { State.reset.fabric with fires := [{ req := 1, dict := false, groups := [0], stopped := [], applied := true }], late := [8] } } : State);
      (s.fabric.fires = [{ req := req, dict := false, groups := [0], stopped := stopped, applied := true }]) ∧ (s.fabric.writes = []) ∧ (s.fabric.held = []) ∧ (s.dict.fired = none) ∧ (s.fabric.units = [])) ∧
    (let s : State := ({ State.reset with fabric := { State.reset.fabric with late := [8] } } : State);
      (s.quiet = true) ∧ (8 ∈ s.fabric.late)) ∧
    (let s : State := State.reset.log 0x0100 [1, 0, 0, 0];
      (s.appOn = true)) :=
  ⟨by decide +kernel, by decide +kernel, by decide +kernel, by decide +kernel, by decide +kernel, by decide +kernel⟩

theorem witness_ArbiterServesPriorityUnlessForced :
    (let target : Nat := 0;
      let r : Nat := 1;
      let q : Nat := 4;
      let s : State := (State.reset.wr (R.ARB.PRIO.P 1) 5).wr (R.ARB.PRIO.P 4) 2;
      (s.appOn = true) ∧ (r < 15) ∧ (q < 15) ∧ (r ≠ q) ∧ (s.isForced r = false) ∧ (s.isForced q = false) ∧ (s.priority q < s.priority r) ∧ (s.rd (R.ARB.WAITCNT.C q) + 1 < 2 ^ (R.ARB.WAITCNT.C q).width) ∧ (target ≤ 4) ∧ (s.flag (R.PWR.PACE_STATUS.UNDER .app) = false) ∧ (s.fabric.held = []) ∧ (s.fabric.raised = [])) ∧
    (let target : Nat := 0;
      let r : Nat := 1;
      let q : Nat := 4;
      let s : State := ({ State.reset with fabric := { State.reset.fabric with forced := [4] } } : State);
      (s.appOn = true) ∧ (r < 15) ∧ (q < 15) ∧ (r ≠ q) ∧ (s.isForced r = false) ∧ (s.isForced q = true) ∧ (target ≤ 4) ∧ (s.flag (R.PWR.PACE_STATUS.UNDER .app) = false) ∧ (s.fabric.held = []) ∧ (s.fabric.raised = [])) :=
  ⟨by decide +kernel, by decide +kernel⟩

theorem witness_MemoryAccessesOfTheApplicationSide :
    (let req : Nat := 1;
      let n : Nat := 2;
      let a : Nat := 0x20000100;
      let s : State := State.reset;
      (s.accepts .app req = true) ∧ (s.flag (R.PWR.PACE_STATUS.UNDER .app) = false) ∧ (n = 1 ∨ n = 2 ∨ n = 4) ∧ (0x20000000 ≤ a) ∧ (a < 0x20020000) ∧ (a % n = 0)) ∧
    (let req : Nat := 1;
      let n : Nat := 4;
      let a : Nat := 0x20000100;
      let s : State := State.reset.store 0x20000100 4 0x89ABCDEF;
      (s.accepts .app req = true) ∧ (s.flag (R.PWR.PACE_STATUS.UNDER .app) = false) ∧ (n = 1 ∨ n = 2 ∨ n = 4) ∧ (0x20000000 ≤ a) ∧ (a < 0x20020000) ∧ (a % n = 0)) ∧
    (let req : Nat := 1;
      let kind : Nat := 2;
      let n : Nat := 4;
      let a : Nat := 0x30000000;
      let s : State := State.reset;
      (s.accepts .app req = true) ∧ (s.flag (R.PWR.PACE_STATUS.UNDER .app) = false) ∧ (n = 1 ∨ n = 2 ∨ n = 4) ∧ (a % n = 0) ∧ (kind = 1 ∨ kind = 2) ∧ (appArea a = .nothing)) ∧
    (let kind : Nat := 2;
      let n : Nat := 4;
      let a : Nat := 0x48001000;
      let s : State := State.reset.withMet;
      (s.accepts .met 2 = true) ∧ (n = 1 ∨ n = 2 ∨ n = 4) ∧ (a % n = 0) ∧ (kind = 1 ∨ kind = 2) ∧ (areaOf .met a = .register ∨ areaOf .met a = .flash ∧ kind = 2)) :=
  ⟨by decide +kernel, by decide +kernel, by decide +kernel, by decide +kernel⟩

theorem witness_FlashSequencesAndOperations :
    (let arr : Nat := 1;
      let req : Nat := 1;
      let s : State := State.reset;
      (arr ∈ [0, 1, 2]) ∧ (s.flashSeq arr = none) ∧ (s.awaitsTarget arr req = none) ∧ (s.accepts .app req = true) ∧ (s.flag (R.PWR.PACE_STATUS.UNDER .app) = false)) ∧
    (let arr : Nat := 0;
      let req : Nat := 1;
      let a : Nat := 0x101000;
      let q : FlashSeq := { arr := 0, req := 1, step := 4, cmd := 0x11, addr := 0x101000, low := 5 };
      let s : State := ({ State.reset with flashSeqs := [{ arr := 0, req := 1, step := 4, cmd := 0x11, addr := 0x101000, low := 5 }] } : State);
      (flashArray .app (a + 4) = some arr) ∧ (s.unwindow (a + 4) = some (a + 4)) ∧ (s.flashSeq arr = some q) ∧ (q.arr = arr) ∧ (q.req = req) ∧ (q.cmd = 0x11) ∧ (q.step = 4) ∧ (q.addr = a) ∧ (a < 2 ^ 32) ∧ (s.blockProtected arr (blockOf arr a) = false) ∧ (s.flashClosed .app = false) ∧ (s.dwordErased a = true) ∧ (s.accepts .app req = true) ∧ (s.flag (R.PWR.PACE_STATUS.UNDER .app) = false)) ∧
    (let arr : Nat := 0;
      let req : Nat := 1;
      let a : Nat := 0x101010;
      let q : FlashSeq := { arr := 0, req := 1, step := 3, cmd := 0x22, addr := 0, low := 0 };
      let s : State := ({ State.reset with flashSeqs := [{ arr := 0, req := 1, step := 3, cmd := 0x22, addr := 0, low := 0 }] } : State);
      (flashArray .app a = some arr) ∧ (s.unwindow a = some a) ∧ (s.flashSeq arr = some q) ∧ (q.arr = arr) ∧ (q.req = req) ∧ (q.cmd = 0x22) ∧ (q.step = 3) ∧ (s.blockProtected arr (blockOf arr a) = false) ∧ (s.flashClosed .app = false) ∧ (s.accepts .app req = true) ∧ (s.flag (R.PWR.PACE_STATUS.UNDER .app) = false) ∧ (a % 4 = 0)) ∧
    (let sd : Side := .app;
      let pulses : Nat := 5;
      let o : FlashOp := { arr := 0, erase := false, addr := 0x101000, data := [1, 2, 3, 4, 5, 6, 7, 8], req := 1, aborting := false };
      let s : State := ({ State.reset with appFlash := some { arr := 0, erase := false, addr := 0x101000, data := [1, 2, 3, 4, 5, 6, 7, 8], req := 1, aborting := false } } : State);
      (s.flashOp sd = some o) ∧ (o.erase = false) ∧ (o.addr % 8 = 0) ∧ (o.data.length = 8) ∧ (∀ b ∈ o.data, b < 256) ∧ (flashArray sd o.addr = some o.arr) ∧ (pulses ≤ 12) ∧ (s.update.due = [])) ∧
    (let sd : Side := .app;
      let pulses : Nat := 3;
      let o : FlashOp := { arr := 0, erase := true, addr := 0x101000, data := [1, 2, 3, 4, 5, 6, 7, 8], req := 1, aborting := false };
      let s : State := ({ State.reset with appFlash := some { arr := 0, erase := true, addr := 0x101000, data := [1, 2, 3, 4, 5, 6, 7, 8], req := 1, aborting := false } } : State);
      (s.flashOp sd = some o) ∧ (o.erase = true) ∧ (o.addr % 0x1000 = 0) ∧ (flashArray sd o.addr = some o.arr) ∧ (pulses ≤ 6) ∧ (s.update.due = [])) ∧
    (let sd : Side := .app;
      let o : FlashOp := { arr := 0, erase := true, addr := 0x101000, data := [1, 2, 3, 4, 5, 6, 7, 8], req := 1, aborting := false };
      let s : State := ({ State.reset with appFlash := some { arr := 0, erase := true, addr := 0x101000, data := [1, 2, 3, 4, 5, 6, 7, 8], req := 1, aborting := false } } : State);
      (s.flashOp sd = some o) ∧ (o.erase = true) ∧ (s.railPowered sd = true) ∧ (s.flag (R.PWR.PACE_STATUS.UNDER sd) = false)) ∧
    (let sd : Side := .app;
      let o : FlashOp := { arr := 0, erase := true, addr := 0x101000, data := [1, 2, 3, 4, 5, 6, 7, 8], req := 1, aborting := true };
      let s : State := ({ State.reset with appFlash := some { arr := 0, erase := true, addr := 0x101000, data := [1, 2, 3, 4, 5, 6, 7, 8], req := 1, aborting := true } } : State);
      (s.flashOp sd = some o) ∧ (o.erase = true) ∧ (o.aborting = true) ∧ (s.update.due = [])) :=
  ⟨by decide +kernel, by decide +kernel, by decide +kernel, by decide +kernel, by decide +kernel, by decide +kernel, by decide +kernel⟩

theorem witness_ProtectionCountersAndSeal :
    (let s : State := State.reset;
      (s.power.app.st = .on) ∧ (s.protEntry = none)) ∧
    (let s : State := State.reset.wr R.FLASHC.PROT_STATUS.LIFTED 5;
      (s.rd R.FLASHC.PROT_STATUS.LIFTED < 512) ∧ (s.power.app.st = .on)) ∧
    (let idx : Nat := 1;
      let target : Nat := 3;
      let s : State := State.reset;
      (idx < 2) ∧ (target ≤ 64) ∧ (idx = 0 → target ≤ s.rd R.AON.BOOT_STATUS.ROLLBACK) ∧ (s.arb idx < target) ∧ (s.railPowered .app = true) ∧ (s.awaitsBurn .app 1 = false)) ∧
    (let key : Nat := 1;
      let s : State := State.reset;
      (key ≠ 0x9B) ∧ (s.railPowered .app = true) ∧ (s.awaitsBurn .app 1 = false)) ∧
    (let b : Burn := { item := 1, pair := 0, before := 0, last := true, reseal := false, sd := .app, req := 1 };
      let r : List Burn := [];
      let s : State := ({ State.reset with burns := [{ item := 1, pair := 0, before := 0, last := true, reseal := false, sd := .app, req := 1 }] } : State);
      (s.burns = b :: r) ∧ (b.item < 3) ∧ (s.otp.arb.length = 3) ∧ (s.resetHold ≠ 1) ∧ (s.resetHold ≠ 3) ∧ (s.power.ship = false)) ∧
    (let k : Nat := 0;
      let reseal : Bool := false;
      let r : List Burn := [];
      let s : State := ({ State.reset with burns := [{ item := 3, pair := 0, before := 0, last := true, reseal := false, sd := .met, req := 1 }] } : State);
      (s.burns = { item := 3, pair := 2 * k, before := 0, last := true, reseal := reseal, sd := .met, req := 1 } :: r) ∧ (s.otp.sealS.length = 8) ∧ (k < 8) ∧ (s.resetHold ≠ 1) ∧ (s.resetHold ≠ 3) ∧ (s.power.ship = false)) ∧
    (let s : State := State.reset.wr R.MPWR.SEAL_STATUS.STATE 1;
      (s.power.ship = false) ∧ (s.resetHold = 0) ∧ (s.variant ≠ .c)) ∧
    (let s : State := ((State.reset.withMet.wr R.MPWR.SEAL_STATUS.STATE 0).wr R.MPWR.MCTL.SERVICE 1).wr R.MPWR.SEAL_STATUS.SW 1;
      (s.variant ≠ .c) ∧ (s.rd R.MPWR.SEAL_STATUS.STATE = 0) ∧ (s.inService = true) ∧ (s.flag R.MPWR.SEAL_STATUS.SW = true) ∧ (1 ≤ s.sealRemain) ∧ (s.level ≤ 4) ∧ (s.power.met.st = .on) ∧ (s.awaitsBurn .met 1 = false)) ∧
    (let s : State := ((State.reset.withMet.wr R.MPWR.SEAL_STATUS.STATE 2).wr R.MPWR.MCTL.SERVICE 1).wr R.MPWR.SEAL_STATUS.SW 1;
      (s.variant ≠ .c) ∧ (s.rd R.MPWR.SEAL_STATUS.STATE = 2) ∧ (s.inService = true) ∧ (s.flag R.MPWR.SEAL_STATUS.SW = true) ∧ (1 ≤ s.sealRemain) ∧ (s.level ≤ 4) ∧ (s.power.met.st = .on) ∧ (s.awaitsBurn .met 1 = false)) ∧
    (let s : State := State.reset.withMet;
      (s.power.met.st = .on) ∧ (s.rd R.MFLASHC.MPROT.LOCK < 32)) ∧
    (let s : State := { State.reset with protEntry := some (1, 5) }; s.protEntry = some (1, 5) ∧ s.flag R.FLASHC.PROT_STATUS.LOCKOUT = false ∧ s.flag R.FLASHC.PROT_STATUS.MAP_LOST = false ∧ s.tagBlank = true) :=
  ⟨by decide +kernel, by decide +kernel, by decide +kernel, by decide +kernel, by decide +kernel, by decide +kernel, by decide +kernel, by decide +kernel, by decide +kernel, by decide +kernel, by decide +kernel⟩

theorem witness_LoftOwnersAndDoorbells :
    (let sd : Side := .app;
      let party : Nat := 2;
      let slot : Nat := 7;
      let s : State := State.reset;
      (s.slots.length = 32) ∧ (actsAs sd party = true) ∧ ((s.slot (slot % 32)).owner = 0) ∧ (s.mayClaim (actingParty sd party) = true) ∧ (s.railPowered sd = true)) ∧
    (let sd : Side := .met;
      let party : Nat := 1;
      let n : Nat := 0;
      let s : State := State.reset.withMet;
      (s.slots.length = 32) ∧ (actsAs sd party = true) ∧ (s.lowestFree = some n) ∧ (s.mayClaim (actingParty sd party) = true) ∧ (s.railPowered sd = true)) ∧
    (let sd : Side := .app;
      let party : Nat := 2;
      let slot : Nat := 7;
      let target : Nat := 1;
      let s : State := ({ State.reset with slots := State.reset.slots.set 7 { emptySlot with owner := 2, publish := false } } : State);
      (s.slots.length = 32) ∧ (actsAs sd party = true) ∧ ((s.slot (slot % 32)).owner = actingParty sd party) ∧ (actingParty sd party ≠ 0) ∧ (target ∈ [ownMet, ownApp, ownDma, ownLink]) ∧ (target ≠ actingParty sd party) ∧ (s.hasParty target = true) ∧ (s.railPowered sd = true)) ∧
    (let sd : Side := .app;
      let party : Nat := 2;
      let slot : Nat := 7;
      let s : State := ({ State.reset with slots := State.reset.slots.set 7 { emptySlot with owner := 2, publish := false } } : State);
      (s.slots.length = 32) ∧ (actsAs sd party = true) ∧ ((s.slot (slot % 32)).owner = actingParty sd party) ∧ (actingParty sd party ≠ 0) ∧ (s.railPowered sd = true)) ∧
    (let sd : Side := .app;
      let party : Nat := 2;
      let slot : Nat := 7;
      let s : State := ({ State.reset with slots := State.reset.slots.set 7 { emptySlot with owner := 2, publish := true } } : State);
      (s.slots.length = 32) ∧ (actsAs sd party = true) ∧ ((s.slot (slot % 32)).owner = actingParty sd party) ∧ (actingParty sd party ≠ 0) ∧ ((s.slot (slot % 32)).frozen = false) ∧ (s.railPowered sd = true) ∧ (s.copy = none)) ∧
    (let sd : Side := .app;
      let party : Nat := 2;
      let slot : Nat := 7;
      let s : State := ({ State.reset with slots := State.reset.slots.set 7 { emptySlot with owner := 2, publish := true } } : State);
      (s.slots.length = 32) ∧ (actsAs sd party = true) ∧ ((s.slot (slot % 32)).owner = actingParty sd party) ∧ (actingParty sd party ≠ 0) ∧ (s.railPowered sd = true) ∧ (s.copy = none)) ∧
    (let s : State := State.reset.wr R.LOFTC.COPY_CTL.AS 4;
      (s.flag R.LOFTC.COPY_STATUS.BUSY = false) ∧ (s.rd R.LOFTC.COPY_CTL.AS ≠ 2) ∧ (s.rd R.LOFTC.COPY_CTL.AS ≠ 3) ∧ (s.railPowered .app = true)) ∧
    (let s : State := State.reset.wr R.LOFTC.COPY_CTL.WORDS 4;
      (s.flag R.LOFTC.COPY_STATUS.BUSY = false) ∧ (s.rd R.LOFTC.COPY_CTL.AS = 2 ∨ s.rd R.LOFTC.COPY_CTL.AS = 3) ∧ (1 ≤ s.rd R.LOFTC.COPY_CTL.WORDS) ∧ (s.rd R.LOFTC.COPY_CTL.WORDS ≤ 128) ∧ (s.railPowered .app = true)) ∧
    (let j : CopyJob := { slot := 7, toSlot := true, words := 2, party := 2, sram := 0x20000100 };
      let s : State := ({ ({ State.reset with slots := State.reset.slots.set 7 { emptySlot with owner := 2, publish := false } } : State).store 0x20000100 4 0x1234 with copy := some { slot := 7, toSlot := true, words := 2, party := 2, sram := 0x20000100 } } : State);
      (s.copy = some j) ∧ (j.party = 2 ∨ j.party = 3) ∧ (j.toSlot = true) ∧ (1 ≤ j.words) ∧ (j.words ≤ 128) ∧ (j.slot < 32) ∧ (j.sram % 4 = 0) ∧ (0x20000000 ≤ j.sram) ∧ (j.sram + 4 * j.words ≤ 0x20020000) ∧ ((s.slot j.slot).writableBy j.party = true) ∧ (s.flag (R.PWR.PACE_STATUS.UNDER .app) = false) ∧ (j.served = 0) ∧ (j.fault = none)) ∧
    (let j : CopyJob := { slot := 7, toSlot := true, words := 4, party := 2, sram := 0x20000100, served := 3 };
      let s : State := ({ State.reset with copy := some { slot := 7, toSlot := true, words := 4, party := 2, sram := 0x20000100, served := 3 } } : State);
      (s.copy = some j) ∧ (j.toSlot = true) ∧ (j.fault = none) ∧ (j.served < j.words) ∧ (j.served < 256) ∧ (j.sram % 4 = 0) ∧ (0x20000000 ≤ j.sram) ∧ (j.sram + 4 * j.words ≤ 0x20020000) ∧ ((s.slot j.slot).writableBy j.party = false) ∧ (s.flag (R.PWR.PACE_STATUS.UNDER .app) = false)) ∧
    (let party : Nat := 2;
      let slot : Nat := 7;
      let j : CopyJob := { slot := 7, toSlot := true, words := 4, party := 2, sram := 0x20000100 };
      let s : State := ({ ({ State.reset with slots := State.reset.slots.set 7 { emptySlot with owner := 2, publish := false } } : State) with copy := some { slot := 7, toSlot := true, words := 4, party := 2, sram := 0x20000100 } } : State);
      (s.copy = some j) ∧ (j.slot = slot % 32) ∧ (j.fault = none) ∧ (j.served ≤ j.words) ∧ (s.slots.length = 32) ∧ (party = 2 ∨ party = 3) ∧ ((s.slot (slot % 32)).owner = party) ∧ (s.railPowered .app = true)) ∧
    (let sd : Side := .app;
      let s : State := State.reset;
      (s.railPowered sd = true)) ∧
    (let time : Nat := 100;
      let s : State := State.reset.withMet;
      (s.utime < time) ∧ (time < 2 ^ 32) ∧ (s.power.met.st = .on)) ∧
    (let time : Nat := 0;
      let s : State := State.reset.withMet;
      (time ≤ s.utime) ∧ (time < 2 ^ 32) ∧ (s.power.met.st = .on)) ∧
    (let s : State := State.reset.raise R.MAON.ALARM_M_CTL.EN;
      (s.flag R.MAON.ALARM_M_CTL.EN = true) ∧ (s.awake = true)) ∧
    (let s : State := State.reset;
      (s.power.frozen = false) ∧ (s.power.ship = false) ∧ (s.wakeEnabled .app 1 = true) ∧ (1 ∉ s.wakeList .app) ∧ (s.rd (R.PWR.WAKE_CAUSE.COUNT .app) < 4) ∧ (s.resetHold = 0) ∧ (s.power.shipping = false)) :=
  ⟨by decide +kernel, by decide +kernel, by decide +kernel, by decide +kernel, by decide +kernel, by decide +kernel, by decide +kernel, by decide +kernel, by decide +kernel, by decide +kernel, by decide +kernel, by decide +kernel, by decide +kernel, by decide +kernel, by decide +kernel, by decide +kernel⟩

theorem witness_StripAndPtScans :
    (let s : State := State.reset.withMet;
      (s.metRuns = true) ∧ (s.flag R.STRIP.STATUS.BUSY = false)) ∧
    (let current : Nat := 600;
      let n : Nat := 3;
      let sa : Bool := true;
      let ch : Channel := channelEx;
      let s : State := ({ State.reset.withMet with madcRun := some (.strip 3 true channelEx) } : State);
      (s.madcRun = some (.strip n sa ch)) ∧ (1 ≤ n) ∧ (n ≤ 8) ∧ (25 ≤ current) ∧ (s.variant ≠ .h)) ∧
    (let current : Nat := 3;
      let n : Nat := 3;
      let sa : Bool := true;
      let ch : Channel := channelEx;
      let s : State := ({ State.reset.withMet with madcRun := some (.strip 3 true channelEx) } : State);
      (s.madcRun = some (.strip n sa ch)) ∧ (1 ≤ n) ∧ (n ≤ 8) ∧ (current < 25)) ∧
    (let n : Nat := 3;
      let sa : Bool := true;
      let ch : Channel := channelEx;
      let s : State := ({ ({ State.reset.withMet with madcRun := some (.strip 3 true channelEx) } : State) with variant := .h } : State);
      (s.madcRun = some (.strip n sa ch)) ∧ (1 ≤ n) ∧ (n ≤ 8) ∧ (s.variant = .h)) ∧
    (let s : State := State.reset.withMet;
      (s.metRuns = true) ∧ (s.flag R.STRIP.STATUS.BUSY = false)) ∧
    (let n : Nat := 4;
      let s : State := ({ State.reset.withMet with madcRun := some (.cont 4) } : State);
      (s.madcRun = some (.cont n))) ∧
    (let s : State := ({ State.reset.withMet with madcRun := some (.strip 3 true channelEx) } : State).raise R.STRIP.STATUS.BUSY;
      (s.flag R.STRIP.STATUS.BUSY = true)) ∧
    (let s : State := State.reset.withMet;
      (s.metRuns = true) ∧ (s.flag R.PT.STATUS.BUSY = false)) ∧
    (let current : Nat := 400;
      let chA : Option Channel := some channelEx;
      let chB : Option Channel := some channelEx;
      let s : State := ({ State.reset.withMet with madcRun := some (.pt (some channelEx) (some channelEx)) } : State);
      (s.madcRun = some (.pt chA chB)) ∧ (8 ≤ current)) ∧
    (let current : Nat := 2;
      let chA : Option Channel := some channelEx;
      let chB : Option Channel := some channelEx;
      let s : State := ({ State.reset.withMet with madcRun := some (.pt (some channelEx) (some channelEx)) } : State);
      (s.madcRun = some (.pt chA chB)) ∧ (current < 8)) ∧
    (let s : State := ({ State.reset.withMet with madcRun := some (.pt (some channelEx) (some channelEx)) } : State).raise R.PT.STATUS.BUSY;
      (s.flag R.PT.STATUS.BUSY = true)) ∧
    noReading.first.ref ≠ 0 ∧ noReading.second.ref ≠ 0 ∧ ({ channelEx with chop := true } : Channel).chop = true ∧ channelEx.chop = false ∧
    (let r : Reading := { first := { sensor := 0, ref := 3 }, second := { sensor := 0, ref := 4 } }; r.first.ref ≠ 0 ∧ r.second.ref ≠ 0 ∧ r.first.sensor = 0 ∧ r.second.sensor = 0) :=
  ⟨by decide +kernel, by decide +kernel, by decide +kernel, by decide +kernel, by decide +kernel, by decide +kernel, by decide +kernel, by decide +kernel, by decide +kernel, by decide +kernel, by decide +kernel, by decide +kernel, by decide +kernel⟩

theorem witness_FlowSequences :
    (let s : State := ({ State.reset.withMet with variant := .h } : State);
      (s.variant = .h) ∧ (s.metRuns = true) ∧ (s.flow.cfg = none)) ∧
    (let count : Nat := 7800;
      let c : FlowCfg := flowCfgEx;
      let s : State := (State.reset.withFlow [] false).raise (R.BRIDGE.CLKSTAT.LFXO_RUN .app);
      (s.flow.cfg = some c) ∧ (s.flowWaits = false) ∧ (s.flow.calibrated = false) ∧ (s.flow.shots = []) ∧ (1 ≤ c.npair) ∧ (7000 ≤ count) ∧ (count ≤ 8600) ∧ (s.flag (R.BRIDGE.CLKSTAT.LFXO_RUN .app) = true)) ∧
    (let count : Nat := 0;
      let s : State := State.reset.withFlow [] false;
      (s.flow.cfg ≠ none) ∧ (s.flowWaits = false) ∧ (s.flow.calibrated = false) ∧ (count < 7000)) ∧
    (let s : State := State.reset.withFlow [] true;
      (s.flow.cfg ≠ none) ∧ (s.flowWaits = false) ∧ (s.flow.shots = [])) ∧
    (let rises : List Nat := [400000, 500000];
      let peaks : List Nat := [250, 200];
      let ch : Nat := 1;
      let x : FlowShot := { tof := 500000, amp := 250, good := true };
      let c : FlowCfg := flowCfgEx;
      let s : State := State.reset.withFlow [] true;
      (s.flow.cfg = some c) ∧ (s.flow.sending = some ch) ∧ (shotOf c (s.rd (thrFld (ch == 1))) (halfWaves rises peaks) = some x) ∧ (isSlip c (s.rd (tofExpFld (ch == 1))) x.tof = false)) ∧
    (let rises : List Nat := [];
      let peaks : List Nat := [];
      let ch : Nat := 1;
      let c : FlowCfg := flowCfgEx;
      let s : State := State.reset.withFlow [] true;
      (s.flow.cfg = some c) ∧ (s.flow.sending = some ch) ∧ (shotOf c (s.rd (thrFld (ch == 1))) (halfWaves rises peaks) = none)) ∧
    (let opened : Bool := false;
      let shorted : Bool := true;
      let ch : Nat := 2;
      let c : FlowCfg := flowCfgEx;
      let s : State := ({ (State.reset.withFlow [{ tof := 9, amp := 9, good := true }] true) with flow := { (State.reset.withFlow [{ tof := 9, amp := 9, good := true }] true).flow with sending := some 2 } } : State);
      (s.flow.cfg = some c) ∧ (s.flow.sending = some ch) ∧ ((opened || shorted) = true)) ∧
    (let c : FlowCfg := flowCfgEx;
      let s : State := (State.reset.withFlow [{ tof := 9000000, amp := 40, good := true }, { tof := 9000100, amp := 41, good := true }, { tof := 9000000, amp := 40, good := true }, { tof := 9000100, amp := 41, good := true }] true).raise (R.BRIDGE.CLKSTAT.LFXO_RUN .app);
      (s.flow.cfg = some c) ∧ (2 * c.npair ≤ s.flow.shots.length) ∧ (s.flag (R.BRIDGE.CLKSTAT.LFXO_RUN .app) = true)) ∧
    (let c : FlowCfg := flowCfgEx;
      let s : State := State.reset.withFlow [] true;
      (s.flow.cfg = some c)) :=
  ⟨by decide +kernel, by decide +kernel, by decide +kernel, by decide +kernel, by decide +kernel, by decide +kernel, by decide +kernel, by decide +kernel, by decide +kernel⟩

theorem witness_TouchTamperAndDisplay :
    (let n : Nat := 1;
      let raw : Nat := 1002;
      let s : State := (({ State.reset.withMet with seqr := { State.reset.seqr with touch := List.replicate 4 { up := true, recal := false, onRun := 0, offRun := 0, samples := [] } } } : State).wr (R.TOUCH.BASE.BASE 1) 1000).wr R.TOUCH.CFG.EN 2 |>.wr R.TOUCH.STATUS.STATE 0 |>.wr (R.LCD.PINSEL.SEL 1) 2;
      (s.leadOwner n = 2) ∧ (s.seqRuns = true) ∧ (n < 4) ∧ (s.rdBit R.TOUCH.CFG.EN n = true) ∧ (raw < 0xFFFF) ∧ (s.seqr.touch.length = 4) ∧ ((s.touchCh n).up = true) ∧ ((s.touchCh n).recal = false) ∧ (s.touchState n = tIdle) ∧ (s.rd (R.TOUCH.BASE.BASE n) < 2 ^ 16) ∧ (s.rd (R.TOUCH.BASE.BASE n) < raw + s.negThr) ∧ (raw < s.rd (R.TOUCH.BASE.BASE n) + s.onThr)) ∧
    (let n : Nat := 1;
      let raw : Nat := 2000;
      let s : State := (({ State.reset.withMet with seqr := { State.reset.seqr with touch := List.replicate 4 { up := true, recal := false, onRun := 0, offRun := 0, samples := [] } } } : State).wr (R.TOUCH.BASE.BASE 1) 1000).wr R.TOUCH.CFG.EN 2 |>.wr R.TOUCH.STATUS.STATE 4 |>.wr (R.LCD.PINSEL.SEL 1) 2;
      (s.leadOwner n = 2) ∧ (s.seqRuns = true) ∧ (n < 4) ∧ (s.rdBit R.TOUCH.CFG.EN n = true) ∧ (raw < 0xFFFF) ∧ (s.seqr.touch.length = 4) ∧ ((s.touchCh n).up = true) ∧ ((s.touchCh n).recal = false) ∧ (s.touchState n = tTouched) ∧ (s.rd (R.TOUCH.BASE.BASE n) + s.offThr ≤ raw)) ∧
    (let n : Nat := 1;
      let s : State := ((({ State.reset.withMet with seqr := { State.reset.seqr with touch := List.replicate 4 { up := true, recal := false, onRun := 0, offRun := 0, samples := [] } } } : State).wr (R.TOUCH.BASE.BASE 1) 1000).wr R.TOUCH.CFG.EN 2 |>.wr R.TOUCH.STATUS.STATE 4 |>.wr (R.LCD.PINSEL.SEL 1) 2).wr (R.LCD.PINSEL.SEL 1) 1;
      (s.leadOwner n ≠ 2) ∧ (s.seqRuns = true) ∧ (n < 4) ∧ (s.rdBit R.TOUCH.CFG.EN n = true)) ∧
    (let s : State := (({ State.reset.withMet with seqr := { State.reset.seqr with touch := List.replicate 4 { up := true, recal := false, onRun := 0, offRun := 0, samples := [] } } } : State).wr (R.TOUCH.BASE.BASE 1) 1000).wr R.TOUCH.CFG.EN 2 |>.wr R.TOUCH.STATUS.STATE 0 |>.wr (R.LCD.PINSEL.SEL 1) 2;
      (s.seqRuns = true) ∧ (s.seqr.touch.length = 4)) ∧
    (let n : Nat := 1;
      let s : State := ({ State.reset.withMet with seqr := { State.reset.seqr with tamper := List.replicate 2 { last := some true, run := 6, ref := none, active := false } } } : State).wr R.TAMPER.CFG.MODE1 1;
      (s.seqRuns = true) ∧ (n < 2) ∧ (s.tamperMode n = 1) ∧ (s.seqr.tamper.length = 2) ∧ ((s.tamperIn n).last = some true) ∧ ((s.tamperIn n).active = false) ∧ (s.rd R.TAMPER.CFG.DEB ≤ min 7 ((s.tamperIn n).run + 1)) ∧ (s.flag (if n = 0 then R.TAMPER.STATUS.TRIG0 else R.TAMPER.STATUS.TRIG1) = false)) ∧
    (let s : State := ({ State.reset.withMet with seqr := { State.reset.seqr with pump := .starting } } : State);
      (s.seqr.pump = .starting)) ∧
    (let s : State := ({ State.reset.withMet with seqr := { State.reset.seqr with pump := .running } } : State);
      (s.seqr.pump = .starting ∨ s.seqr.pump = .running)) ∧
    (let s : State := ({ State.reset.withMet with seqr := { State.reset.seqr with pump := .failed } } : State).raise R.LCD.CFG.EN;
      (s.seqr.pump = .failed) ∧ (s.flag R.LCD.CFG.EN = true)) ∧
    (let s : State := ({ State.reset.withMet with seqr := { State.reset.seqr with pump := .running } } : State);
      (s.seqr.pump = .running)) ∧
    (let s : State := State.reset.withMet;
      (s.seqRuns = true)) ∧
    (let s : State := State.reset.withMet.raise R.LCD.CTRL.SWAP;
      (s.seqRuns = true) ∧ (s.flag R.LCD.CTRL.SWAP = true)) ∧
    (let s : State := State.reset.withMet;
      (s.variant ≠ .c) ∧ (s.flag R.MPWR.ECHK.BUSY = false) ∧ (s.metRuns = true)) ∧
    (let vload : Nat := 3000;
      let s : State := State.reset.withMet.raise R.MPWR.ECHK.BUSY;
      (s.flag R.MPWR.ECHK.BUSY = true) ∧ (s.vEchk ≤ min 4095 vload) ∧ (s.supply.due = none)) ∧
    (let vload : Nat := 2000;
      let s : State := State.reset.withMet.raise R.MPWR.ECHK.BUSY;
      (s.flag R.MPWR.ECHK.BUSY = true) ∧ (min 4095 vload < s.vEchk) ∧ (s.supply.due = none)) ∧
    (let vload : Nat := 3000;
      let m : MonitorSample := { vmeas := 3300, upsets := [], onAir := 0 };
      let s : State := ({ State.reset.withMet.raise R.MPWR.ECHK.BUSY with supply := { State.reset.supply with due := some { vmeas := 3300, upsets := [], onAir := 0 } } } : State);
      (s.flag R.MPWR.ECHK.BUSY = true) ∧ (s.supply.due = some m) ∧ (m.upsets = []) ∧ (s.vEchk ≤ min 4095 vload) ∧ (s.samples = true) ∧ (s.copies = []) ∧ (s.level = 0) ∧ (∀ n ∈ List.range 7, s.threshold (n + 1) ≤ s.vComp m.vmeas)) ∧
    (let s : State := State.reset.withMet.raise R.MPWR.ECHK.BUSY;
      (s.samples = true) ∧ (s.flag R.MPWR.ECHK.BUSY = true)) ∧
    (let s : State := State.reset.withMet.logMet 0x0320 [];
      (s.variant ≠ .c) ∧ (s.logs.met.length ≤ 16) ∧ (s.metRuns = true)) :=
  ⟨by decide +kernel, by decide +kernel, by decide +kernel, by decide +kernel, by decide +kernel, by decide +kernel, by decide +kernel, by decide +kernel, by decide +kernel, by decide +kernel, by decide +kernel, by decide +kernel, by decide +kernel, by decide +kernel, by decide +kernel, by decide +kernel, by decide +kernel⟩

theorem witness_MromRoutines :
    (let a0 : Nat := 0;
      let a1 : Nat := 0;
      let a2 : Nat := 0;
      let a3 : Nat := 0;
      let s : State := State.reset.withMet;
      (s.mayCall = true) ∧ (s.loadFault .met a2 (if a3 % 2 = 1 then 32 else 16) = none) ∧ (s.loadFault .met a0 a1 = none)) ∧
    (let a1 : Nat := 0;
      let a0 : Nat := 0x5E000;
      let s : State := State.reset.withMet;
      (s.mayCall = true) ∧ (s.metFlash = none) ∧ (a0 % 8 = 0) ∧ (0x40000 ≤ a0) ∧ (a0 + 8 ≤ 0x60000) ∧ (s.mflashProtected (mflashRegion (blockOf 3 a0)) = false) ∧ (s.dwordErased (metPhys + a0) = true) ∧ (s.flashSeqs = []) ∧ (s.level < 5) ∧ (s.loadFault .met a1 8 = none)) ∧
    (let b : Nat := 30;
      let s : State := State.reset.withMet;
      (s.mayCall = true) ∧ (s.metFlash = none) ∧ (b < 32) ∧ (s.mflashProtected (mflashRegion b) = false) ∧ (s.flashSeqs = []) ∧ (s.level < 5)) ∧
    (let a1 : Nat := 0;
      let a0 : Nat := 0x20000000;
      let s : State := (State.reset.withMet.setBytes 0x120000003 [1]).setBytes 0x120000008 [0, 0];
      (s.mayCall = true) ∧ (s.metFlash = none) ∧ (0x20000000 ≤ a0) ∧ (a0 + 256 ≤ 0x20004000) ∧ (recordBounds ((s.metBytes a0 256).getD 3 0) (leNat (((s.metBytes a0 256).drop 8).take 2)) = true) ∧ (s.erasedRun 0x58000 1024 = true) ∧ (s.mflashProtected 2 = false) ∧ (s.flashSeqs = []) ∧ (s.level < 5) ∧ (s.loadFault .met a0 256 = none) ∧ (s.loadFault .met a1 32 = none)) ∧
    (let a2 : Nat := 0;
      let a4 : Nat := 0;
      let a3 : Nat := 2;
      let pos : Nat := 3;
      let seq : Nat := 9;
      let s : State := ({ State.reset.withMet with mrom := { State.reset.withMet.mrom with cursor := some (3, 9) } } : State);
      (s.mayCall = true) ∧ (s.metFlash = none) ∧ (a3 % 256 ≤ 12) ∧ (s.mrom.cursor = some (pos, seq)) ∧ (pos < 512) ∧ (pos % 128 ≠ 0) ∧ (seq < 0xFFFFFFFF) ∧ (s.erasedRun (logEntryBase pos) 4 = true) ∧ (s.mflashProtected 3 = false) ∧ (s.flashSeqs = []) ∧ (s.level < 5) ∧ (s.loadFault .met a2 (a3 % 256) = none) ∧ (s.loadFault .met a4 32 = none)) ∧
    (let slot : Nat := 7;
      let a : Nat := 0x4C010;
      let h : List Nat := [0x43, 0x4C, 2, 0, 8, 0, 0, 0, 16, 0, 0, 0, 0, 0, 0, 0];
      let s : State := (({ State.reset.withMet with slots := State.reset.slots.set 7 { emptySlot with owner := 1, len := 24 } } : State).setBytes (slotAddr 7) [0x43, 0x4C, 2, 0, 8, 0, 0, 0, 16, 0, 0, 0, 0, 0, 0, 0, 1, 2, 3, 4, 5, 6, 7, 8]);
      (s.mayCall = true) ∧ (s.metFlash = none) ∧ (s.mrom.noImage = false) ∧ (h = s.bytes (slotAddr slot) 16) ∧ ((s.slot slot).owner = ownMet) ∧ (chunkOk h (s.slot slot).len = true) ∧ (bit (h.getD 3 0) 0 = false) ∧ (h.getD 2 0 ≠ s.rd R.MFLASHC.MPROT.ACTIVE) ∧ (leNat ((h.drop 4).take 2) = 8) ∧ (a = imgBase (h.getD 2 0) + leNat ((h.drop 8).take 4)) ∧ (a ≠ imgBase (h.getD 2 0) + 0xBFF8) ∧ (s.mflashProtected (mflashRegion (blockOf 3 a)) = false) ∧ (s.dwordErased (metPhys + a) = true) ∧ (allOnes (s.bytes (slotAddr slot + 16) 8) = false) ∧ (s.flashSeqs = []) ∧ (s.level < 5) ∧ (s.variant ≠ .c)) ∧
    (let g : Nat := 1;
      let s : State := State.reset.withMet.withLegalImage;
      (s.mayCall = true) ∧ (g = 1 ∨ g = 2) ∧ (s.metFlash = none)) ∧
    (let g : Nat := 1;
      let i : Nat := 503;
      let s : State := State.reset.withMet.withLegalImage.store (metPhys + 0x5F040 + 8 * 502) 8 0;
      (s.mayCall = true) ∧ (s.metFlash = none) ∧ (g = 1 ∨ g = 2) ∧ (s.mflashProtected 4 = false) ∧ (s.freeSwitch = some i) ∧ (s.imgCheck g true = 0) ∧ (s.dwordErased (metPhys + imgBase g + 0xBFF8) = false) ∧ (∀ c ∈ s.mrom.cursor, c.1 < 512) ∧ (s.flashSeqs = []) ∧ (s.level < 5)) :=
  ⟨by decide +kernel, by decide +kernel, by decide +kernel, by decide +kernel, by decide +kernel, by decide +kernel, by decide +kernel, by decide +kernel⟩

theorem witness_BootRomRoutinesAndLoader :
    (let twin : Nat := 1;
      let s : State := State.reset;
      (s.appRuns = true) ∧ (twin < 2) ∧ ((s.romCall.takesTwin twin).code = 0)) ∧
    (let a0 : Nat := 0;
      let a1 : Nat := 0x20000100;
      let s : State := State.reset;
      (s.appRuns = true) ∧ (s.otp.bad = false) ∧ (0x20000000 ≤ a1) ∧ (a1 + 16 ≤ 0x20020000) ∧ ((s.romCall.takes a0 16).code = 0)) ∧
    (let a0 : Nat := 0x20000100;
      let r : List Nat := [1, 0, 1, 1, 5, 0, 0, 0] ++ List.replicate 8 0 ++ List.replicate 32 9 ++ [218, 188, 224, 235, 61, 123, 125, 227, 209, 74, 36, 92, 105, 102, 27, 137];
      let s : State := State.reset.withKeyRecord;
      (s.appRuns = true) ∧ (s.otp.bad = false) ∧ (s.cmac.keys.length = 10) ∧ (r = s.appBytes a0 64) ∧ (unwrapFormat r = true) ∧ (cmacOf (s.rootDerive labelWmac) (s.unitIdBytes ++ r.take 0x30) = (r.drop 0x30).take 16) ∧ ((s.romCall.takes a0 64).code = 0)) ∧
    (let a0 : Nat := 0x20000100;
      let a1 : Nat := 0x20000200;
      let count : Nat := 5;
      let p : List Nat := [203, 182, 15, 177, 211, 229, 51, 49, 155, 28, 67, 226, 236, 129, 142, 98];
      let s : State := State.reset.withTelegram;
      (s.appRuns = true) ∧ (0x20000000 ≤ a1) ∧ (a1 + 16 ≤ 0x20020000) ∧ (s.wmbOpen (s.appBytes a0 (1 + (s.appBytes a0 1).getD 0 0)) = some (p, count)) ∧ (p.length = 16) ∧ ((s.romCall.takes a0 (1 + (s.appBytes a0 1).getD 0 0)).code = 0)) ∧
    (let b : Nat := 0;
      let s : State := State.reset.withAppImage;
      (s.appRuns = true) ∧ (b < 2) ∧ (s.imageValid b = true) ∧ (s.imageValid (1 - b) = false) ∧ (((s.romCall.takesImage 0).takesImage 1).code = 0)) ∧
    (let s : State := State.reset;
      (s.appRuns = true) ∧ (s.imageValid 0 = false) ∧ (s.imageValid 1 = false) ∧ (((s.romCall.takesImage 0).takesImage 1).code = 0)) ∧
    (let crc : Nat := loaderCrc [1, 0];
      let s : State := State.reset.withLoader;
      (s.boot.loader = true) ∧ (s.boot.sleeping = false) ∧ (s.appRuns = true) ∧ (crc = loaderCrc [1, 0])) ∧
    (let crc : Nat := loaderCrc ([2, 18] ++ List.replicate 16 0 ++ leBytes 2 5);
      let mask : Nat := 5;
      let pw : List Nat := List.replicate 16 0;
      let s : State := State.reset.withLoader;
      (s.boot.loader = true) ∧ (s.boot.sleeping = false) ∧ (s.appRuns = true) ∧ (pw.length = 16) ∧ (mask < 512) ∧ (crc = loaderCrc ([2, 18] ++ pw ++ leBytes 2 mask)) ∧ (s.flag R.FLASHC.PROT_STATUS.LOCKOUT = false) ∧ (s.flag R.FLASHC.PROT_STATUS.MAP_LOST = false) ∧ (s.tagBlank = true) ∧ (s.rd R.FLASHC.PROT_STATUS.LIFTED < 512)) ∧
    (let crc : Nat := loaderCrc [3, 1, 1];
      let n : Nat := 1;
      let s : State := State.reset.withLoader.wr R.FLASHC.PROT_STATUS.LIFTED 511;
      (s.boot.loader = true) ∧ (s.boot.sleeping = false) ∧ (s.appRuns = true) ∧ (n < 2) ∧ (crc = loaderCrc [3, 1, n]) ∧ (s.regionWritable n = true) ∧ (s.flashClosed .app = false) ∧ (s.flashSeq 2 = none)) ∧
    (let crc : Nat := loaderCrc ([4, 12, 1, 0] ++ leBytes 2 16 ++ [1, 2, 3, 4, 5, 6, 7, 8]);
      let n : Nat := 1;
      let off : Nat := 16;
      let d : List Nat := [1, 2, 3, 4, 5, 6, 7, 8];
      let s : State := State.reset.withLoader.wr R.FLASHC.PROT_STATUS.LIFTED 511;
      (s.boot.loader = true) ∧ (s.boot.sleeping = false) ∧ (s.appRuns = true) ∧ (n < 2) ∧ (off % 8 = 0) ∧ (off + 8 ≤ 0x4000) ∧ (d.length = 8) ∧ (∀ b ∈ d, b < 256) ∧ (crc = loaderCrc ([4, 12, n, 0] ++ leBytes 2 off ++ d)) ∧ (s.regionWritable n = true) ∧ (s.flashClosed .app = false) ∧ (s.dwordErased (twinBase n + off) = true) ∧ (s.flashSeq 2 = none)) ∧
    (let crc : Nat := loaderCrc [5, 0];
      let s : State := State.reset.withLoader;
      (s.boot.loader = true) ∧ (s.boot.sleeping = false) ∧ (s.appRuns = true) ∧ (crc = loaderCrc [5, 0]) ∧ (s.trailerOk 0 = false) ∧ (s.trailerOk 1 = false)) ∧
    (let s : State := State.reset.withLoader;
      (s.boot.loader = true) ∧ (s.boot.sleeping = false) ∧ (s.appRuns = true)) ∧
    (let crc : Nat := 0;
      let p : List Nat := [];
      let s : State := State.reset.withLoader;
      (s.boot.loader = true) ∧ (s.boot.sleeping = false) ∧ (s.appRuns = true) ∧ (crc ≠ loaderCrc ([1, p.length] ++ p))) ∧
    (let crc : Nat := 0;
      let p : List Nat := [];
      let s : State := State.reset.withLoader;
      (s.boot.loader = true) ∧ (s.boot.sleeping = false) ∧ (s.appRuns = true) ∧ (crc ≠ loaderCrc ([5, p.length] ++ p))) ∧
    (let crc : Nat := 0;
      let p : List Nat := [];
      let s : State := State.reset.withLoader;
      (s.boot.loader = true) ∧ (s.boot.sleeping = false) ∧ (s.appRuns = true) ∧ (crc ≠ loaderCrc ([2, p.length] ++ p))) ∧
    (let crc : Nat := 0;
      let p : List Nat := [];
      let s : State := State.reset.withLoader;
      (s.boot.loader = true) ∧ (s.boot.sleeping = false) ∧ (s.appRuns = true) ∧ (crc ≠ loaderCrc ([3, p.length] ++ p))) ∧
    (let crc : Nat := 0;
      let p : List Nat := [];
      let s : State := State.reset.withLoader;
      (s.boot.loader = true) ∧ (s.boot.sleeping = false) ∧ (s.appRuns = true) ∧ (crc ≠ loaderCrc ([4, p.length] ++ p))) :=
  ⟨by decide +kernel, by decide +kernel, by decide +kernel, by decide +kernel, by decide +kernel, by decide +kernel, by decide +kernel, by decide +kernel, by decide +kernel, by decide +kernel, by decide +kernel, by decide +kernel, by decide +kernel, by decide +kernel, by decide +kernel, by decide +kernel, by decide +kernel⟩

theorem witness_KeysAndCmacJobs :
    (let ctl : Nat := 0x715;
      let s : State := State.reset.wr (R.CMACE.KEY_DATA.DATA 3) 77;
      (s.cmac.keys.length = 10) ∧ (1 ≤ bitsOf ctl 0 3) ∧ (s.railPowered .app = true)) ∧
    (let ctl : Nat := 0x710;
      let s : State := State.reset;
      (bitsOf ctl 0 3 = 0) ∧ (s.railPowered .app = true)) ∧
    (let ctl : Nat := 0x2705;
      let s : State := ((State.reset.raise (R.CMACE.SLOT.VALID 9)).wr (R.CMACE.SLOT.ATTR 9) 4).wr (R.CMACE.IV.IV 0) 0x25;
      (s.cmac.keys.length = 10) ∧ (1 ≤ bitsOf ctl 0 3) ∧ (s.keyHas (8 + bitsOf ctl 13 1) attrPrf = true) ∧ (0x20 ≤ s.ivBytes.getD 0 0) ∧ (s.ivBytes.getD 0 0 ≤ 0x2F) ∧ (s.railPowered .app = true)) ∧
    (let ctl : Nat := 5;
      let s : State := State.reset;
      (1 ≤ bitsOf ctl 0 3) ∧ (s.railPowered .app = true)) ∧
    (let s : State := State.reset.withJob 1 0x48;
      (s.flag R.CMACE.STATUS.BUSY = false) ∧ (s.checkJob (s.registerJob 1 opMac) = (cmacOk, none)) ∧ (s.railPowered .app = true)) ∧
    (let s : State := State.reset.withJob 1 0x48;
      (s.flag R.CMACE.STATUS.BUSY = false) ∧ (s.checkJob (s.registerJob 1 opVerify) = (cmacOk, none)) ∧ (s.railPowered .app = true)) ∧
    (let s : State := State.reset.withJob 2 0x48;
      (s.flag R.CMACE.STATUS.BUSY = false) ∧ (s.checkJob (s.registerJob 1 opChain) = (cmacOk, none)) ∧ (s.railPowered .app = true)) ∧
    (let s : State := State.reset.withJob 4 0x48;
      (s.flag R.CMACE.STATUS.BUSY = false) ∧ (s.checkJob (s.registerJob 1 opKstream) = (cmacOk, none)) ∧ (s.railPowered .app = true)) ∧
    (let s : State := State.reset.withJob 4 0x30;
      (s.flag R.CMACE.STATUS.BUSY = false) ∧ (s.checkJob (s.registerJob 1 opDerive) = (cmacOk, none)) ∧ (s.railPowered .app = true)) ∧
    (let r : Nat := 2;
      let s : State := (State.reset.withJob 1 0x48).wr (R.CMACE.LEN.LEN 0) 15;
      (s.flag R.CMACE.STATUS.BUSY = false) ∧ (s.checkJob (s.registerJob 1 opMac) = (r, none)) ∧ (r ≠ cmacOk) ∧ (s.railPowered .app = true)) ∧
    (let j : CmacJob := { user := 1, op := 1, final := false, slot := 1, key := List.replicate 16 0, dhalf := 0, dattr := 0, dslot := 8, exportKey := false, tlen := 16, src0 := 0x20000000, len0 := 16, src1 := 0, len1 := 0, dst := 0, iv := [], tag := [] };
      let r : List CmacJob := [];
      let s : State := ({ (State.reset.setBytes 0x20000000 (List.replicate 16 3)) with cmac := { State.reset.cmac with background := [{ user := 1, op := 1, final := false, slot := 1, key := List.replicate 16 0, dhalf := 0, dattr := 0, dslot := 8, exportKey := false, tlen := 16, src0 := 0x20000000, len0 := 16, src1 := 0, len1 := 0, dst := 0, iv := [], tag := [] }] } } : State);
      (s.cmac.urgent = []) ∧ (s.cmac.background = j :: r) ∧ (j.user = 1) ∧ (s.jobReadFault j = none) ∧ (j.op = opMac) ∧ (s.flag (R.PWR.PACE_STATUS.UNDER .app) = false)) ∧
    (let j : CmacJob := { user := 1, op := 2, final := false, slot := 1, key := List.replicate 16 0, dhalf := 0, dattr := 0, dslot := 8, exportKey := false, tlen := 16, src0 := 0x20000000, len0 := 16, src1 := 0, len1 := 0, dst := 0, iv := [], tag := [] };
      let r : List CmacJob := [];
      let s : State := ({ (State.reset.setBytes 0x20000000 (List.replicate 16 3)) with cmac := { State.reset.cmac with background := [{ user := 1, op := 2, final := false, slot := 1, key := List.replicate 16 0, dhalf := 0, dattr := 0, dslot := 8, exportKey := false, tlen := 16, src0 := 0x20000000, len0 := 16, src1 := 0, len1 := 0, dst := 0, iv := [], tag := [] }] } } : State);
      (s.cmac.urgent = []) ∧ (s.cmac.background = j :: r) ∧ (j.user = 1) ∧ (s.jobReadFault j = none) ∧ (j.op = opVerify) ∧ (s.flag (R.PWR.PACE_STATUS.UNDER .app) = false)) ∧
    (let j : CmacJob := { user := 1, op := 1, final := false, slot := 1, key := List.replicate 16 0, dhalf := 0, dattr := 0, dslot := 8, exportKey := false, tlen := 16, src0 := 0x20000000, len0 := 16, src1 := 0, len1 := 0, dst := 0, iv := [], tag := [] };
      let u : CmacJob := engineJob 5 1;
      let r : List CmacJob := [];
      let us : List CmacJob := [];
      let s : State := ({ State.reset with cmac := { State.reset.cmac with background := [{ user := 1, op := 1, final := false, slot := 1, key := List.replicate 16 0, dhalf := 0, dattr := 0, dslot := 8, exportKey := false, tlen := 16, src0 := 0x20000000, len0 := 16, src1 := 0, len1 := 0, dst := 0, iv := [], tag := [] }], urgent := [engineJob 5 1] } } : State);
      (s.cmac.background = j :: r) ∧ (s.cmac.urgent = u :: us) ∧ (s.cmac.suspended = false) ∧ (s.rd R.CMACE.COUNTS.PREEMPTS + 1 < 2 ^ R.CMACE.COUNTS.PREEMPTS.width) ∧ (s.flag (R.PWR.PACE_STATUS.UNDER .app) = false)) ∧
    (let j : CmacJob := { user := 1, op := 1, final := false, slot := 1, key := List.replicate 16 0, dhalf := 0, dattr := 0, dslot := 8, exportKey := false, tlen := 16, src0 := 0x20000000, len0 := 16, src1 := 0, len1 := 0, dst := 0, iv := [], tag := [] };
      let s : State := ({ (State.reset.setBytes 0x20000000 (List.replicate 16 3)) with cmac := { State.reset.cmac with background := [{ user := 1, op := 1, final := false, slot := 1, key := List.replicate 16 0, dhalf := 0, dattr := 0, dslot := 8, exportKey := false, tlen := 16, src0 := 0x20000000, len0 := 16, src1 := 0, len1 := 0, dst := 0, iv := [], tag := [] }] } } : State);
      (s.cmac.background = [j]) ∧ (j.user = 1) ∧ (j.op = opMac) ∧ (s.flag (R.PWR.PACE_STATUS.UNDER .app) = false)) ∧
    (let slot : Nat := 5;
      let v : Nat := 0xFFFF0001;
      let s : State := State.reset;
      (slot = 2 ∨ slot = 5) ∧ (v < 2 ^ 32) ∧ (s.rd (fcntOf slot) ≤ v) ∧ (s.railPowered .app = true)) ∧
    (let slot : Nat := 2;
      let v : Nat := 5;
      let s : State := State.reset.wr R.CMACE.FCNT2.FC 9;
      (slot = 2 ∨ slot = 5) ∧ (v < s.rd (fcntOf slot))) :=
  ⟨by decide +kernel, by decide +kernel, by decide +kernel, by decide +kernel, by decide +kernel, by decide +kernel, by decide +kernel, by decide +kernel, by decide +kernel, by decide +kernel, by decide +kernel, by decide +kernel, by decide +kernel, by decide +kernel, by decide +kernel, by decide +kernel⟩

theorem witness_DmaChannelsAndRing :
    (let ch : Nat := 1;
      let s : State := State.reset.wr (R.DMA.CTL.CTL 1) 0xE0002;
      (ch < 8) ∧ (s.appOn = true) ∧ (s.flag (R.DMA.CFG.EN ch) = false) ∧ (s.flag (R.DMA.CFG.PAUSE ch) = false) ∧ (s.ringMode ch = false) ∧ (s.dmaCount ch ≠ 0) ∧ (s.dmaTrig ch = 0) ∧ (s.descRefused ch = false) ∧ (s.unitOut ch = false)) ∧
    (let ch : Nat := 1;
      let s : State := State.reset.wr (R.DMA.CTL.CTL 1) 0x30002;
      (ch < 8) ∧ (s.appOn = true) ∧ (s.flag (R.DMA.CFG.EN ch) = false) ∧ (s.flag (R.DMA.CFG.PAUSE ch) = false) ∧ (s.ringMode ch = false) ∧ (s.dmaCount ch ≠ 0) ∧ (s.descRefused ch = true) ∧ (s.unitOut ch = false)) ∧
    (let ch : Nat := 1;
      let s : State := State.reset.withChannel;
      (ch < 8) ∧ (s.appOn = true) ∧ (s.unitOut ch = false)) ∧
    (let ch : Nat := 1;
      let s : State := State.reset.withChannel;
      (ch < 8) ∧ (s.appOn = true) ∧ (s.flag (R.DMA.CFG.EN ch) = true) ∧ (s.unitOut ch = false)) ∧
    (let ch : Nat := 1;
      let s : State := State.reset.withChannel.raise (R.DMA.CFG.PAUSE 1);
      (ch < 8) ∧ (s.appOn = true) ∧ (s.flag (R.DMA.CFG.EN ch) = true) ∧ (s.flag (R.DMA.CFG.PAUSE ch) = true) ∧ (s.ringMode ch = false) ∧ (ch ∈ s.dma.loaded) ∧ (ch ∈ s.dma.started) ∧ (s.descRefused ch = false)) ∧
    (let ch : Nat := 1;
      let s : State := (({ State.reset.withChannel with dma := { State.reset.withChannel.dma with started := [] } } : State).wr (R.DMA.CFG.TRIG 1) 2).wr (R.DMA.STAT.STATE 1) 1;
      (ch < 8) ∧ (s.appOn = true) ∧ (s.flag (R.DMA.CFG.EN ch) = true) ∧ (s.rd (R.DMA.STAT.STATE ch) = 1) ∧ (ch ∈ s.dma.loaded) ∧ (s.ringMode ch = false) ∧ (1 ≤ s.dmaTrig ch) ∧ (s.dmaTrig ch ≤ 8) ∧ (s.unitLine (s.dmaTrig ch) = true)) ∧
    (let ch : Nat := 1;
      let s : State := (({ State.reset.withChannel with dma := { State.reset.withChannel.dma with started := [], given := [0] }, slots := State.reset.slots.set 0 { emptySlot with owner := 3 } } : State).wr (R.DMA.CFG.TRIG 1) 9).wr (R.DMA.STAT.STATE 1) 1;
      (ch < 8) ∧ (s.appOn = true) ∧ (s.flag (R.DMA.CFG.EN ch) = true) ∧ (s.rd (R.DMA.STAT.STATE ch) = 1) ∧ (ch ∈ s.dma.loaded) ∧ (s.ringMode ch = false) ∧ (s.dmaTrig ch = 9) ∧ (s.dmaSlot ch ∈ s.dma.given) ∧ ((s.slot (s.dmaSlot ch)).owner = ownDma) ∧ (∀ c ∈ List.range ch, s.waitsSlot (s.dmaSlot ch) c = false)) ∧
    (let ch : Nat := 1;
      let n : Nat := 4;
      let src : Nat := 0x20000100;
      let dst : Nat := 0x20000200;
      let s : State := State.reset.withChannel;
      (ch < 8) ∧ (s.power.app.st = .on) ∧ (s.quiet = true) ∧ (s.flag (R.PWR.PACE_STATUS.UNDER .app) = false) ∧ (s.flag (R.DMA.CFG.EN ch) = true) ∧ (s.flag (R.DMA.CFG.PAUSE ch) = false) ∧ (s.ringMode ch = false) ∧ (ch ∈ s.dma.loaded) ∧ (ch ∈ s.dma.started) ∧ (s.dmaTrig ch = 0) ∧ (2 ≤ s.dmaCount ch) ∧ (n = s.dmaSize ch) ∧ (n ≤ 4) ∧ (src = s.rd (R.DMA.SRC.ADDR ch)) ∧ (dst = s.rd (R.DMA.DST.ADDR ch)) ∧ (src % n = 0) ∧ (dst % n = 0) ∧ (0x20000000 ≤ src) ∧ (src < 0x20020000) ∧ (0x20000000 ≤ dst) ∧ (dst < 0x20020000) ∧ (s.engaged .app (2 + ch) = false)) ∧
    (let ws : List Nat := [0, 1, 2];
      let r : List (List Nat) := [];
      let s : State := State.reset.withRing;
      (s.ringReady = true) ∧ (s.link.rx = ws :: r) ∧ (∀ x ∈ ws, x < 2 ^ 32) ∧ (ws.length = 3 + (ws.headD 0 % 1024 + 3) / 4) ∧ (ws.length ≤ s.ringFree) ∧ (s.rd R.DMA.RING_BASE.ADDR % 4 = 0) ∧ (0x20000000 ≤ s.rd R.DMA.RING_BASE.ADDR) ∧ (s.rd R.DMA.RING_BASE.ADDR + 4 * s.ringWords ≤ 0x20020000) ∧ (s.rd R.DMA.RING_WR.WR < s.ringWords)) ∧
    (let v : Nat := 63;
      let s : State := State.reset;
      (s.appOn = true) ∧ (v < s.ringWords)) ∧
    (let v : Nat := 64;
      let s : State := State.reset.wr R.DMA.RING_WORDS.WORDS 64;
      (s.appOn = true) ∧ (s.ringWords ≤ v)) ∧
    (let ch : Nat := 1;
      let s : State := ({ State.reset.withChannel with fabric := { State.reset.fabric with units := [{ ch := 1, stage := .read, env := [] }] } } : State);
      (ch < 8) ∧ (s.appOn = true) ∧ (s.unitOut ch = true)) ∧
    (let ch : Nat := 1;
      let s : State := ({ State.reset.withChannel with fabric := { State.reset.fabric with units := [{ ch := 1, stage := .read, env := [] }] } } : State);
      (ch < 8) ∧ (s.appOn = true) ∧ (s.unitOut ch = true)) :=
  ⟨by decide +kernel, by decide +kernel, by decide +kernel, by decide +kernel, by decide +kernel, by decide +kernel, by decide +kernel, by decide +kernel, by decide +kernel, by decide +kernel, by decide +kernel, by decide +kernel, by decide +kernel⟩

theorem witness_UartsAndServiceLink :
    (let s : State := ({ State.reset with ports := { State.reset.ports with posc := true } } : State);
      (s.ports.posc = true) ∧ (s.ports.ready = false)) ∧
    (let u : Nat := 0;
      let s : State := State.reset.withPorts;
      (s.uartWorks u = true) ∧ (s.ports.uarts.length = 2) ∧ (u = 0 ∨ s.rd R.UART1.SVC.FORM ≠ 2) ∧ (u = 0) ∧ (s.leadHeld 3 = false) ∧ ((s.uart u).rx.length < 16) ∧ (s.flag (R.UART.CFG.DATA7 u) = false)) ∧
    (let u : Nat := 0;
      let s : State := (State.reset.withPorts.setUart 0 { rx := List.replicate 16 0, tx := [], shifter := none });
      (s.uartWorks u = true) ∧ (s.ports.uarts.length = 2) ∧ (u = 0 ∨ s.rd R.UART1.SVC.FORM ≠ 2) ∧ (u = 0) ∧ (s.leadHeld 3 = false) ∧ (16 ≤ (s.uart u).rx.length)) ∧
    (let u : Nat := 0;
      let s : State := (State.reset.withPorts.setUart 0 { rx := [], tx := [7, 8], shifter := some 6 });
      (s.uartWorks u = true) ∧ (s.ports.uarts.length = 2) ∧ ((s.uart u).shifter.isSome = true)) ∧
    (let u : Nat := 0;
      let s : State := (State.reset.withPorts.setUart 0 { rx := [], tx := [7, 8], shifter := some 6 });
      (u < 2) ∧ (s.ports.uarts.length = 2) ∧ ((s.uart u).tx.length < 16) ∧ ((s.uart u).shifter.isSome = true)) ∧
    (let u : Nat := 0;
      let b : Nat := 5;
      let r : List Nat := [6];
      let s : State := (State.reset.withPorts.setUart 0 { rx := [5, 6], tx := [], shifter := none });
      (u < 2) ∧ (s.ports.uarts.length = 2) ∧ ((s.uart u).rx = b :: r) ∧ (r.length < 16)) ∧
    (let s : State := State.reset.withPorts;
      (s.svcWorks = true) ∧ (s.ports.svc = .idle)) ∧
    (let s : State := (State.reset.withPorts.setSvc .waiting none);
      (s.svcWorks = true) ∧ (s.ports.svc = .waiting)) ∧
    (let id : Nat := 5;
      let s : State := (State.reset.withPorts.setSvc .waiting none);
      (s.svcWorks = true) ∧ (s.ports.svc ≠ .claiming) ∧ (id < 2 ^ 64)) ∧
    (let s : State := (State.reset.withPorts.setSvc .claiming none);
      (s.svcWorks = true) ∧ (s.ports.svc = .claiming)) ∧
    (let s : State := (State.reset.withPorts.setSvc .claiming none);
      (s.svcWorks = true) ∧ (s.ports.svc = .claiming) ∧ (s.ports.round = none)) ∧
    (let k : Nat := 3;
      let s : State := (State.reset.withPorts.setSvc .claiming (some 3));
      (s.svcWorks = true) ∧ (s.ports.svc = .claiming) ∧ (s.ports.round = some k) ∧ (k < 15)) ∧
    (let k : Nat := 15;
      let s : State := (State.reset.withPorts.setSvc .claiming (some 15));
      (s.svcWorks = true) ∧ (s.ports.svc = .claiming) ∧ (s.ports.round = some k) ∧ (15 ≤ k)) ∧
    (let s : State := (State.reset.withPorts.setSvc .backoff (some 2));
      (s.svcWorks = true) ∧ (s.ports.svc = .backoff)) :=
  ⟨by decide +kernel, by decide +kernel, by decide +kernel, by decide +kernel, by decide +kernel, by decide +kernel, by decide +kernel, by decide +kernel, by decide +kernel, by decide +kernel, by decide +kernel, by decide +kernel, by decide +kernel, by decide +kernel⟩

theorem witness_SpiI2cGpioAndFieldPins :
    (let b : Nat := 3;
      let r : List Nat := [4];
      let s : State := (State.reset.withPorts.setSpi [] [3, 4]);
      (s.appOn = true) ∧ (s.flag R.SPI.CFG.EN = true) ∧ (s.flag R.SPI.CFG.ROLE = false) ∧ (s.ports.ready = true) ∧ (s.ports.spiTx = b :: r) ∧ (s.ports.spiRx.length < 8) ∧ (s.leadHeld 7 = false)) ∧
    (let s : State := State.reset.withPorts;
      (s.appOn = true) ∧ (s.flag R.I2C.CFG.EN = true) ∧ (s.ports.i2c = none)) ∧
    (let x : I2cXfer := { addr := 0x50, read := true, len := 2, stop := true };
      let s : State := (State.reset.withPorts.i2cStart 0x102D0);
      (s.ports.i2c = some x) ∧ (s.leadHeld 9 = false) ∧ (s.leadHeld 10 = false)) ∧
    (let x : I2cXfer := { addr := 0x50, read := true, len := 2, stop := true };
      let s : State := (State.reset.withPorts.i2cStart 0x102D0);
      (s.ports.i2c = some x) ∧ (s.leadHeld 9 = false) ∧ (s.leadHeld 10 = false)) ∧
    (let x : I2cXfer := { addr := 0x50, read := true, len := 2, stop := true };
      let s : State := (State.reset.withPorts.i2cStart 0x102D0);
      (s.ports.i2c = some x) ∧ (s.leadHeld 9 = false) ∧ (s.leadHeld 10 = false)) ∧
    (let x : I2cXfer := { addr := 0x50, read := true, len := 2, stop := true };
      let s : State := (State.reset.withPorts.i2cStart 0x102D0);
      (s.ports.i2c = some x) ∧ (s.leadHeld 9 = false)) ∧
    (let pin : Nat := 3;
      let s : State := State.reset.wr R.GPIO.DIR.OUT 8;
      (s.appOn = true) ∧ (pin < 12) ∧ (s.rdBit R.GPIO.DIR.OUT pin = true) ∧ (s.rdBit R.GPIO.OD.OD pin = false) ∧ (s.rdBit R.GPIO.CONTEND.CONTEND pin = false) ∧ (s.leadHeld pin = false)) ∧
    (let pin : Nat := 1;
      let s : State := (State.reset.wr (R.FIO.CFG.MODE 1) 2).wr R.FIO.OUT.OUT 2;
      (pin < 4) ∧ (s.ports.fio.length = 4) ∧ (2 ≤ s.fioMode pin) ∧ (s.fioDriven pin = true) ∧ (s.rdBit R.FIO.STATUS.SHORT pin = false)) ∧
    (let pin : Nat := 1;
      let s : State := (State.reset.wr (R.FIO.CFG.MODE 1) 2).wr R.FIO.OUT.OUT 2;
      (pin < 4) ∧ (s.ports.fio.length = 4) ∧ (2 ≤ s.fioMode pin) ∧ (s.fioDriven pin = true)) ∧
    (let pin : Nat := 1;
      let s : State := (State.reset.wr (R.FIO.CFG.MODE 1) 2).wr R.FIO.STATUS.LATCHED 2;
      (pin < 4) ∧ (s.ports.fio.length = 4) ∧ (2 ≤ s.fioMode pin) ∧ (s.fioMode pin ≠ 3) ∧ (s.rdBit R.FIO.STATUS.LATCHED pin = true) ∧ ((s.fioPin pin).therm = false)) ∧
    (let pin : Nat := 1;
      let s : State := State.reset;
      (pin < 4) ∧ (s.ports.fio.length = 4)) ∧
    (let pin : Nat := 1;
      let s : State := State.reset.setFio 1 { State.reset.fioPin 1 with therm := true };
      (pin < 4) ∧ (s.ports.fio.length = 4) ∧ (s.fioMode pin ≠ 3)) ∧
    (let pin : Nat := 1;
      let s : State := ((State.reset.wr (R.FIO.CFG.MODE 1) 1).setFio 1 { State.reset.fioPin 1 with level := some true, last := some false, run := 3 }).wr (R.FIO.THR.THR 1) 9;
      (pin < 4) ∧ (s.ports.fio.length = 4) ∧ (s.fioMode pin = 1) ∧ (s.power.ship = false) ∧ ((s.fioPin pin).level = some true) ∧ ((s.fioPin pin).last = some false) ∧ (s.rd (R.FIO.CFG.DEB pin) ≤ (s.fioPin pin).run + 1) ∧ ((s.fioPin pin).run < 15) ∧ (s.rd (R.FIO.CNT.CNT pin) < 2 ^ 32 - 1) ∧ (s.rd (R.FIO.CNT.CNT pin) + 1 ≠ s.rd (R.FIO.THR.THR pin))) ∧
    (let pin : Nat := 1;
      let s : State := (State.reset.wr (R.FIO.CFG.MODE 1) 1).setFio 1 { State.reset.fioPin 1 with level := some true, last := some true, run := 3 };
      (pin < 4) ∧ (s.ports.fio.length = 4) ∧ (s.fioMode pin = 1) ∧ (s.power.ship = false) ∧ ((s.fioPin pin).level = some true) ∧ ((s.fioPin pin).last = some true)) ∧
    (let pin : Nat := 1;
      let n : Nat := 3;
      let s : State := (State.reset.wr (R.FIO.CFG.MODE 1) 3);
      (pin < 4) ∧ (s.ports.fio.length = 4) ∧ (s.fioMode pin = 3) ∧ (n < 0x10000) ∧ (1 ≤ n) ∧ (s.rd (R.FIO.PEND.PEND pin) + n < 2 ^ (R.FIO.PEND.PEND pin).width) ∧ (s.fioFree pin = true) ∧ ((s.fioPin pin).gap = false)) ∧
    (let pin : Nat := 1;
      let s : State := (State.reset.wr (R.FIO.CFG.MODE 1) 3).wr (R.FIO.PEND.PEND 1) 3 |>.tryPulse 1;
      (pin < 4) ∧ (s.ports.fio.length = 4) ∧ ((s.fioPin pin).pulse = true) ∧ (1 ≤ s.rd (R.FIO.PEND.PEND pin))) ∧
    (let pin : Nat := 1;
      let s : State := (State.reset.wr (R.FIO.CFG.MODE 1) 3).wr (R.FIO.PEND.PEND 1) 3 |>.setFio 1 { State.reset.fioPin 1 with gap := true };
      (pin < 4) ∧ (s.ports.fio.length = 4) ∧ (s.fioMode pin = 3) ∧ (s.fioFree pin = true) ∧ ((s.fioPin pin).gap = true) ∧ ((s.fioPin pin).pulse = false) ∧ (1 ≤ s.rd (R.FIO.PEND.PEND pin))) :=
  ⟨by decide +kernel, by decide +kernel, by decide +kernel, by decide +kernel, by decide +kernel, by decide +kernel, by decide +kernel, by decide +kernel, by decide +kernel, by decide +kernel, by decide +kernel, by decide +kernel, by decide +kernel, by decide +kernel, by decide +kernel, by decide +kernel, by decide +kernel⟩

theorem witness_LeadsHeldByTheIsland :
    (let pin : Nat := 3;
      let s : State := ({ (State.reset.withMet.wr (R.LCD.PINSEL.SEL 3) 1) with ports := { State.reset.ports with ready := true, uarts := State.reset.ports.uarts } } : State);
      (s.leadHeld pin = true)) ∧
    (let s : State := ({ (State.reset.withMet.wr (R.LCD.PINSEL.SEL 3) 1) with ports := { State.reset.ports with ready := true, uarts := State.reset.ports.uarts } } : State);
      (s.leadHeld 3 = true)) ∧
    (let s : State := (({ (State.reset.withMet.wr (R.LCD.PINSEL.SEL 8) 1) with ports := { State.reset.ports with ready := true, uarts := State.reset.ports.uarts } } : State).wr R.SPI.CFG.ROLE 1);
      (s.flag R.SPI.CFG.ROLE = true) ∧ (s.leadHeld 5 = true ∨ s.leadHeld 8 = true)) ∧
    (let b : Nat := 3;
      let r : List Nat := [4];
      let s : State := ((({ (State.reset.withMet.wr (R.LCD.PINSEL.SEL 7) 1) with ports := { State.reset.ports with ready := true, uarts := State.reset.ports.uarts } } : State).wr R.SPI.CFG.EN 1).setSpi [] [3, 4]);
      (s.appOn = true) ∧ (s.flag R.SPI.CFG.EN = true) ∧ (s.flag R.SPI.CFG.ROLE = false) ∧ (s.ports.ready = true) ∧ (s.ports.spiTx = b :: r) ∧ (s.ports.spiRx.length < 8) ∧ (s.leadHeld 7 = true)) ∧
    (let x : I2cXfer := { addr := 0x50, read := true, len := 2, stop := true };
      let s : State := ((({ (State.reset.withMet.wr (R.LCD.PINSEL.SEL 10) 1) with ports := { State.reset.ports with ready := true, uarts := State.reset.ports.uarts } } : State).wr R.I2C.CFG.EN 1).i2cStart 0x102D0);
      (s.ports.i2c = some x) ∧ (s.leadHeld 10 = true)) ∧
    (let c : Nat := 0xD;
      let s : State := ({ (State.reset.withMet.wr (R.LCD.PINSEL.SEL 3) 1) with ports := { State.reset.ports with ready := true, uarts := State.reset.ports.uarts } } : State);
      (c = 5 ∧ (∀ n ∈ List.range 4, bitsOf (s.rd R.GPIO.WAKE_EDGE.EDGE) (2 * n) 2 = 0 ∨ s.leadHeld n = true) ∨ c = 0xD ∧ s.leadHeld 3 = true) ∧ (s.boot.sleeping = false)) ∧
    (let s : State := ({ (State.reset.withMet.wr (R.LCD.PINSEL.SEL 3) 1) with ports := { State.reset.ports with ready := true, uarts := State.reset.ports.uarts } } : State); s.leadHeld 3 = true) :=
  ⟨by decide +kernel, by decide +kernel, by decide +kernel, by decide +kernel, by decide +kernel, by decide +kernel, by decide +kernel⟩

theorem witness_UpdateReceptionAndApply :
    (let d : List Nat := sheafOne;
      let i : Nat := 1;
      let s : State := ({ (State.reset.withContainer.wr R.UPDATE.STATUS.STATE 1).forget (stagingBase 1) (stagingBase 1 + 0xC000) with update := { State.reset.update with sheaf := some sheafOne } } : State);
      (s.update.sheaf = some d) ∧ (s.updKeyOk = true) ∧ (s.stagOk d = true) ∧ (s.updState = 1) ∧ (s.rd R.UPDATE.CID.CID = leNat (d.take 4)) ∧ (i = leNat ((d.drop 4).take 2)) ∧ (1 ≤ i) ∧ (i < 469) ∧ (i < s.rd R.UPDATE.RX.TOTAL) ∧ (d.length = 112) ∧ (∀ b ∈ d, b < 256) ∧ (∃ k ∈ List.range (s.rd R.UPDATE.RX.TOTAL), k ≠ i ∧ k < 469 ∧ s.marked s.bankT k = false) ∧ (s.regionWritable (protRegion s.bankT 80) = true) ∧ (s.level < 5) ∧ (s.dwordErased (markAddr s.bankT i) = true) ∧ (∀ k ∈ List.range 12, s.dwordErased (stagingBase s.bankT + 96 * i + 8 * k) = true) ∧ (s.updFree = true) ∧ (s.flashSeqs = [])) ∧
    (let d : List Nat := List.replicate 112 0;
      let s : State := ({ State.reset.withContainer with update := { State.reset.update with sheaf := some (List.replicate 112 0) } } : State);
      (s.update.sheaf = some d) ∧ (s.updKeyOk = true) ∧ (s.stagOk d = false) ∧ (s.rd R.UPDATE.COUNTS.BAD + 1 < 2 ^ R.UPDATE.COUNTS.BAD.width) ∧ (s.updFree = true)) ∧
    (let s : State := State.reset.withContainer;
      (s.mayApply = true) ∧ (s.headerReason s.storedHeader = 0) ∧ (s.closedRegions (hdRegions s.storedHeader) = 0) ∧ (s.railPowered .app = true)) ∧
    (let s : State := State.reset;
      (s.mayApply = false) ∧ (s.railPowered .app = true)) ∧
    (let h : List Nat := State.reset.withContainer.storedHeader;
      let out : List Nat := [1, 2, 3, 4, 5, 6, 7, 8];
      let s : State := State.reset.withContainer.wr R.UPDATE.STATUS.STATE 3;
      (s.updState = 3) ∧ (h = s.storedHeader) ∧ (hdKind h = kindDirect) ∧ (hdPart h = 0) ∧ (hdParts h = 1) ∧ (1 ≤ hdLen h) ∧ (hdLen h % 8 = 0) ∧ (hdLen h ≤ 0x4FFC0) ∧ (hdStream h = hdLen h) ∧ (s.regionWritable (protRegion s.bankT 0) = true) ∧ (s.level < 5) ∧ (out = s.plainStream h) ∧ (cmacOf s.kImg (out ++ (trailerBytes h).take 32) = hdItag h) ∧ (s.updFree = true) ∧ (s.flashSeqs = []) ∧ (s.headerReason h = 0) ∧ (s.closedRegions (hdRegions h) = 0)) ∧
    (let s : State := State.reset.withContainer.wr R.UPDATE.TRIAL.COUNT 2;
      (s.rd R.UPDATE.ACTIVE.BANK < 2) ∧ (s.onTrial (s.rd R.UPDATE.ACTIVE.BANK) = true) ∧ (s.regionWritable (protRegion (s.rd R.UPDATE.ACTIVE.BANK) 79) = true) ∧ (s.level < 5) ∧ (s.updFree = true) ∧ (s.update.due = []) ∧ (s.flashSeqs = []) ∧ (s.railPowered .app = true)) ∧
    (let h : List Nat := State.reset.withContainer.storedHeader;
      let ofs : Nat := 2;
      let len : Nat := 4;
      let dst : Nat := 0x20000100;
      let s : State := ((State.reset.withContainer.wr R.UPDATE.DEC_OFS.VALUE 2).wr R.UPDATE.DEC_LEN.VALUE 4).wr R.UPDATE.DEC_DST.VALUE 0x20000100;
      (s.updState = 2) ∧ (h = s.storedHeader) ∧ (ofs = s.rd R.UPDATE.DEC_OFS.VALUE) ∧ (len = s.rd R.UPDATE.DEC_LEN.VALUE) ∧ (dst = s.rd R.UPDATE.DEC_DST.VALUE) ∧ (ofs + len ≤ hdStream h) ∧ (0x20000000 ≤ dst) ∧ (dst + len ≤ 0x20020000) ∧ (s.updFree = true) ∧ (s.update.due = []) ∧ ((s.plainStream h).length = hdStream h) ∧ (∀ b ∈ s.plainStream h, b < 256)) ∧
    (let s : State := State.reset.withContainer;
      (s.updState ≠ 3) ∧ (s.regionWritable (protRegion s.bankT 80) = true) ∧ (s.level < 5) ∧ (s.railPowered .app = true) ∧ (s.updFree = true) ∧ (s.update.due = []) ∧ (s.flashSeqs = [])) ∧
    (let bank : Nat := 1;
      let s : State := State.reset;
      (s.update.activeSet = false) ∧ (bank < 4) ∧ (s.updState ≠ 1) ∧ (s.updState ≠ 2) ∧ (s.railPowered .app = true)) ∧
    (let s : State := ({ State.reset with update := { State.reset.update with activeSet := true } } : State);
      (s.update.activeSet = true)) :=
  ⟨by decide +kernel, by decide +kernel, by decide +kernel, by decide +kernel, by decide +kernel, by decide +kernel, by decide +kernel, by decide +kernel, by decide +kernel, by decide +kernel⟩

theorem witness_RadioTestsCalibrationAndTuner :
    (let key : Nat := 0xB4;
      let s : State := State.reset.withLink.raise R.PWR.DOMAIN_REQ.RF_HOLD;
      (key = 0xB4) ∧ (s.radio.test = 0) ∧ (s.power.rf.st = .on) ∧ (s.flag R.PWR.DOMAIN_REQ.RF_HOLD = true) ∧ (s.linkBusy = false) ∧ ((bandOf s.ownCarrier).isSome = true) ∧ (s.level < 4)) ∧
    (let key : Nat := 0xB5;
      (key ≠ 0xB4)) ∧
    (let key : Nat := 0xB4;
      let s : State := State.reset.withLink.raise R.PWR.DOMAIN_REQ.RF_HOLD;
      (key = 0xB4) ∧ (s.radio.test = 0) ∧ (s.power.rf.st = .on) ∧ (s.flag R.PWR.DOMAIN_REQ.RF_HOLD = true) ∧ (s.linkBusy = false) ∧ ((bandOf s.ownCarrier).isSome = true) ∧ (s.level < 4)) ∧
    (let key : Nat := 0xB5;
      (key ≠ 0xB4)) ∧
    (let key : Nat := 0xB4;
      let s : State := State.reset.withLink.raise R.PWR.DOMAIN_REQ.RF_HOLD;
      (key = 0xB4) ∧ (s.radio.test = 0) ∧ (s.power.rf.st = .on) ∧ (s.flag R.PWR.DOMAIN_REQ.RF_HOLD = true) ∧ (s.linkBusy = false) ∧ ((bandOf s.ownCarrier).isSome = true) ∧ (s.level < 4)) ∧
    (let key : Nat := 0xB4;
      let s : State := (State.reset.withLink.raise R.PWR.DOMAIN_REQ.RF_HOLD).wr R.PWR.LADDER.LEVEL 4;
      (key = 0xB4) ∧ (s.radio.test = 0) ∧ (s.power.rf.st = .on) ∧ (s.flag R.PWR.DOMAIN_REQ.RF_HOLD = true) ∧ (s.linkBusy = false) ∧ (4 ≤ s.level)) ∧
    (let key : Nat := 0xB5;
      (key ≠ 0xB4)) ∧
    (let s : State := ({ State.reset.withLink with radio := { State.reset.radio with test := 2 } } : State);
      (s.radio.test ≠ 0) ∧ (s.listensOn = false)) ∧
    (let s : State := ({ State.reset.withLink with radio := { State.reset.radio with test := 1 } } : State);
      (s.testOnAir = true)) ∧
    (let s : State := ({ State.reset.withLink with radio := { State.reset.radio with calFor := some .test, calRetry := false }, link := { State.reset.link with att := none, glean := 0 } } : State);
      (s.radio.calFor = some .test)) ∧
    (let a : Attempt := rawAttempt .cal;
      let s : State := ({ State.reset.withLink with radio := { State.reset.radio with calFor := some .tx, calRetry := false }, link := { State.reset.link with att := some (rawAttempt .cal), glean := 0 } } : State);
      (s.radio.calFor = some .tx) ∧ (s.link.att = some a) ∧ (a.phase = .cal)) ∧
    (let s : State := ({ State.reset.withLink with radio := { State.reset.radio with calFor := some .glean, calRetry := false }, link := { State.reset.link with att := none, glean := 1 } } : State);
      (s.radio.calFor = some .glean) ∧ (s.link.glean = 1)) ∧
    (let c : CalFor := .tx;
      let s : State := ({ State.reset.withLink with radio := { State.reset.radio with calFor := some .tx, calRetry := false }, link := { State.reset.link with att := none, glean := 0 } } : State);
      (s.radio.calFor = some c) ∧ (s.radio.calRetry = false) ∧ (s.rd R.RADIO.COUNTS.CALS + 1 < 2 ^ R.RADIO.COUNTS.CALS.width)) ∧
    (let s : State := ({ State.reset.withLink with radio := { State.reset.radio with calFor := some .glean, calRetry := true }, link := { State.reset.link with att := none, glean := 1 } } : State);
      (s.radio.calFor = some .glean) ∧ (s.radio.calRetry = true)) ∧
    (let s : State := ({ State.reset.withLink with radio := { State.reset.radio with test := 1 } } : State);
      (s.power.rf.st = .on) ∧ (s.radio.test ≠ 0) ∧ (s.link.att = none) ∧ (s.listensOn = false)) ∧
    (let s : State := State.reset.withLink;
      (s.power.rf.st = .on)) ∧
    (let b : Nat := 2;
      let s : State := ({ State.reset with radio := { State.reset.radio with held := [2], recent := [2] } } : State);
      (b ∈ s.radio.held)) ∧
    (let b : Nat := 2;
      let a : Attempt := rawAttempt .tune;
      let s : State := ({ State.reset.withAttempt (rawAttempt .tune) with radio := { State.reset.radio with dirty := [2] } } : State);
      (s.link.att = some a) ∧ (a.phase = .tune) ∧ (bandOf a.freq = some b)) :=
  ⟨by decide +kernel, by decide +kernel, by decide +kernel, by decide +kernel, by decide +kernel, by decide +kernel, by decide +kernel, by decide +kernel, by decide +kernel, by decide +kernel, by decide +kernel, by decide +kernel, by decide +kernel, by decide +kernel, by decide +kernel, by decide +kernel, by decide +kernel, by decide +kernel⟩

theorem witness_LinkSubmissionsAndAttempts :
    (let slot : Nat := 7;
      let s : State := State.reset.withLink.withSubmission;
      ((s.slot (slot % 32)).owner = ownLink) ∧ (s.knowsSlot (slot % 32) = false) ∧ (s.flag R.LINK.CTRL.EN = true) ∧ (s.level < 4) ∧ ((s.slot (slot % 32)).giver ≠ ownDict) ∧ (s.txqDepth < 8) ∧ (s.submitBad (slot % 32) = false) ∧ (s.goesUp (s.slotFrame (slot % 32)) = false)) ∧
    (let slot : Nat := 7;
      let s : State := State.reset.withSubmission.clear R.LINK.CTRL.EN;
      ((s.slot (slot % 32)).owner = ownLink) ∧ (s.knowsSlot (slot % 32) = false) ∧ (s.flag R.LINK.CTRL.EN = false)) ∧
    (let k : Nat := 0;
      let f : TxFrame := { rawFrame with built := false, bytes := [], attempts := 0 };
      let s : State := ({ State.reset.withLink.withSubmission with link := { State.reset.link with txq := [{ rawFrame with built := false, bytes := [], attempts := 0 }], nextSeq := 1 } } : State);
      (s.mayStart = true) ∧ (s.level < 4) ∧ (s.link.att = none) ∧ (s.link.yielded = none) ∧ (s.pickFrom s.txOrder [] = some f) ∧ (f.wait ≠ some 0) ∧ (f.src = .slot) ∧ (f.form = 3) ∧ (k < s.backoffRange f.attempts)) ∧
    (let vres : Nat := 4000;
      let vbat : Nat := 3600;
      let temp : Int := 20;
      let a : Attempt := rawAttempt .backoff;
      let s : State := { State.reset.withAttempt (rawAttempt .backoff) with radio := { State.reset.radio with op := { State.reset.radio.op with tuner := false } } };
      (s.link.att = some a) ∧ (a.phase = .backoff) ∧ (s.rfReady = true) ∧ (s.frameOutside a.frame = false) ∧ (s.dutyCheck (s.latch a temp).freq (airUs ((s.latch a temp).bits * 1000000) (s.latch a temp).rate + 100) = .passes) ∧ (s.admission (s.pRes (s.latchPower (s.latch a temp)).ext (s.latchPower (s.latch a temp)).dbm) ((s.latch a temp).bits * 1000000) (s.latch a temp).rate vres vbat = .admitted) ∧ (a.tuned = true ∨ s.flag R.TUNER.CFG.EN = false)) ∧
    (let vres : Nat := 4000;
      let vbat : Nat := 3600;
      let a : Attempt := rawAttempt .energy;
      let s : State := ({ State.reset.withAttempt (rawAttempt .energy) with power := { (State.reset.withAttempt (rawAttempt .energy)).power with rf := { (State.reset.withAttempt (rawAttempt .energy)).power.rf with st := .retained } } } : State);
      (s.link.att = some a) ∧ (a.phase = .energy) ∧ (s.awake = true) ∧ (s.power.rf.st ≠ .on) ∧ (s.admission (s.pRes (s.latchPower a).ext (s.latchPower a).dbm) (a.bits * 1000000) a.rate vres vbat = .admitted)) ∧
    (let a : Attempt := rawAttempt .admitted;
      let s : State := ({ State.reset.withAttempt (rawAttempt .admitted) with power := { (State.reset.withAttempt (rawAttempt .admitted)).power with rf := { (State.reset.withAttempt (rawAttempt .admitted)).power.rf with st := .retained, exiting := true } } } : State);
      (s.link.att = some a) ∧ (a.phase = .admitted) ∧ (s.power.rf.exiting = true) ∧ (s.power.rf.entering = none) ∧ (s.awake = true) ∧ (s.radio.calAt = none) ∧ (a.tuned = true ∨ s.flag R.TUNER.CFG.EN = false)) ∧
    (let a : Attempt := rawAttempt .ready;
      let s : State := State.reset.withAttempt (rawAttempt .ready);
      (s.link.att = some a) ∧ (a.phase = .ready) ∧ (s.rfReady = true) ∧ (a.frame.src = .slot)) ∧
    (let n : Nat := 2;
      let a : Attempt := rawAttempt .tx;
      let s : State := State.reset.withAttempt (rawAttempt .tx);
      (s.link.att = some a) ∧ (a.phase = .tx) ∧ (a.frame.src = .slot) ∧ (a.frame.form = 3) ∧ (subBand a.freq = some n) ∧ (s.link.duty.length = 8) ∧ (s.slots.length = 32) ∧ (a.frame.slot < 32)) ∧
    (let a : Attempt := rawAttempt .ackWait;
      let s : State := (State.reset.withAttempt (rawAttempt .ackWait)).wr R.LINK.TXCFG.RETRY_MAX 3;
      (s.link.att = some a) ∧ (a.phase = .ackWait) ∧ (a.frame.wmbus = false) ∧ (s.level < 4) ∧ (a.frame.attempts ≤ s.retries a.frame)) ∧
    (let a : Attempt := { rawAttempt .ackWait with frame := { rawFrame with retry := 0 } };
      let s : State := State.reset.withAttempt { rawAttempt .ackWait with frame := { rawFrame with retry := 0 } };
      (s.link.att = some a) ∧ (a.phase = .ackWait) ∧ (a.frame.wmbus = false) ∧ (s.level < 4) ∧ (a.frame.src = .slot) ∧ (s.retries a.frame < a.frame.attempts)) ∧
    (let vres : Nat := 4000;
      let vbat : Nat := 3600;
      let k : AckOwed := { fcs := 5, dup := false, freq := 17509203 * 26000000 };
      let s : State := ({ State.reset.withLink with link := { State.reset.link with ack := some { fcs := 5, dup := false, freq := 17509203 * 26000000 } } } : State);
      (s.link.ack = some k) ∧ (s.rfReady = true) ∧ (s.ackDuty k.freq = true) ∧ (s.flag R.LINK.ACKCFG.EXT = false) ∧ (s.admission (s.pRes false (s.txPower false (some (s.srd R.LINK.ACKCFG.DBM)))) (160 * 1000000) s.rate vres vbat = .admitted) ∧ (s.rd R.LINK.COUNT3.ACKS_SENT + 1 < 2 ^ R.LINK.COUNT3.ACKS_SENT.width) ∧ (s.mayAck = true)) ∧
    (let e : DoneEntry := { slot := 7, giver := 2, result := 1, attempts := 1 };
      let r : List DoneEntry := [];
      let s : State := ({ State.reset with link := { State.reset.link with done := [{ slot := 7, giver := 2, result := 1, attempts := 1 }] } } : State);
      (s.link.done = e :: r) ∧ (r.length < 8)) ∧
    (let w : Nat := 5;
      let v : Nat := 6;
      let ws : List Nat := [7];
      let r : List (List Nat) := [];
      let s : State := ({ State.reset with link := { State.reset.link with rx := [[5, 6, 7]] } } : State);
      (s.link.rx = (w :: v :: ws) :: r)) ∧
    (let s : State := State.reset.withStead.wr R.PWR.LADDER.LEVEL 4;
      (s.alarmDue = true) ∧ (s.inStead = true)) ∧
    (let a : Attempt := wmbAttempt .ackWait;
      let s : State := State.reset.withAttempt (wmbAttempt .ackWait);
      (s.link.att = some a) ∧ (a.phase = .ackWait) ∧ (a.frame.wmbus = true) ∧ (s.radio.calFor = none)) ∧
    (let a : Attempt := wmbAttempt .window;
      let s : State := State.reset.withAttempt (wmbAttempt .window);
      (s.link.att = some a) ∧ (a.phase = .window) ∧ (a.frame.src = .slot)) ∧
    (let v : Nat := 7;
      let s : State := State.reset;
      (s.rd R.LINK.WMB_MCNT.MCNT ≤ v) ∧ (v < 2 ^ 32)) ∧
    (let v : Nat := 7;
      let s : State := State.reset.wr R.LINK.WMB_MCNT.MCNT 9;
      (v < s.rd R.LINK.WMB_MCNT.MCNT)) :=
  ⟨by decide +kernel, by decide +kernel, by decide +kernel, by decide +kernel, by decide +kernel, by decide +kernel, by decide +kernel, by decide +kernel, by decide +kernel, by decide +kernel, by decide +kernel, by decide +kernel, by decide +kernel, by decide +kernel, by decide +kernel, by decide +kernel, by decide +kernel, by decide +kernel⟩

theorem witness_LinkReceptionAndGleaning :
    (let bytes : List Nat := [0xAC, 0] ++ leBytes 2 (fcsOf [1, 2, 3, 4]) ++ leBytes 4 (fcsOf ([0xAC, 0] ++ leBytes 2 (fcsOf [1, 2, 3, 4])));
      let a : Attempt := rawAttempt .ackWait;
      let s : State := State.reset.withAttempt (rawAttempt .ackWait);
      (s.link.att = some a) ∧ (a.phase = .ackWait) ∧ (a.frame.wmbus = false) ∧ (a.frame.src = .slot) ∧ (acksAttempt a (bytes.map (fun x => x % 256)) = true)) ∧
    (let bytes : List Nat := [1, 2, 3, 4, 5, 6];
      let s : State := ({ State.reset.withLink with link := { State.reset.link with glean := 2 } } : State);
      (s.link.att = none) ∧ (s.hearsStook = true) ∧ (5 ≤ bytes.length) ∧ (bytes.length ≤ 510) ∧ (∀ b ∈ bytes, b < 256) ∧ (bytes.drop (bytes.length - 4) ≠ leBytes 4 (fcsOf (bytes.take (bytes.length - 4)))) ∧ (s.rd R.LINK.COUNT1.RX_FCS + 1 < 2 ^ R.LINK.COUNT1.RX_FCS.width)) ∧
    (let b : List Nat := testUplink;
      let s : State := ({ (State.reset.withStead.wr R.LINK.MESH_ID.ADDR 0xFC00).wr R.LINK.MESH_ROLE.ROLE 2 with variant := .c, link := { State.reset.link with glean := 2 } } : State);
      (s.link.att = none) ∧ (s.hearsStook = true) ∧ (1 ≤ b.length) ∧ (b.length ≤ 506) ∧ (∀ x ∈ b, x < 256) ∧ (s.flag R.LINK.CTRL.EN = true) ∧ (s.flag R.LINK.CTRL.STOOK_RX = true) ∧ (s.judge b = .take true false false false) ∧ (s.level < 2) ∧ (isBusyNotice b = false) ∧ (s.isDuplicate b = false) ∧ (s.toUpdate b = false) ∧ (s.rxFits b = true) ∧ (s.owesAck b = false) ∧ (s.rd R.LINK.COUNT1.RX_OK + 1 < 2 ^ R.LINK.COUNT1.RX_OK.width)) ∧
    (let s : State := State.reset.withLink.raise R.LINK.GLEAN.EN;
      (s.gleanArmed = true) ∧ (s.level ≤ 3) ∧ (s.link.glean = 0) ∧ (s.wmbListens = false) ∧ (s.receiverFree = true) ∧ ((bandOf s.ownCarrier).isSome = true) ∧ (s.rfReady = true)) ∧
    (let s : State := { State.reset.raise R.LINK.GLEAN.EN with resetHold := 0 };
      (s.gleanArmed = true) ∧ (s.level ≤ 3) ∧ (s.link.glean = 0) ∧ (s.wmbListens = false) ∧ (s.receiverFree = true) ∧ ((bandOf s.ownCarrier).isSome = true) ∧ (s.power.rf.st ≠ .on)) ∧
    (let s : State := ({ State.reset.withLink with power := { State.reset.withLink.power with rf := { State.reset.withLink.power.rf with st := .retained, exiting := true } }, link := { State.reset.link with glean := 1 } } : State);
      (s.power.rf.exiting = true) ∧ (s.awake = true) ∧ (s.link.att = none) ∧ (s.link.glean = 1 ∨ s.link.glean = 3) ∧ (s.radio.calFor = none)) ∧
    (let s : State := ({ State.reset.withLink with link := { State.reset.link with glean := 2 } } : State);
      (s.link.glean = 1 ∨ s.link.glean = 2) ∧ (s.contListens = false)) ∧
    (let s : State := State.reset.withStead.raise R.LINK.MESH_STATE.NO_PARENT;
      (s.flag R.LINK.MESH_STATE.NO_PARENT = true) ∧ (s.inStead = true) ∧ (s.isCollector = false) ∧ (s.level ≤ 2) ∧ (s.flag R.LINK.CTRL.EN = true) ∧ (s.link.glean < 3) ∧ (s.receiverFree = true) ∧ ((bandOf s.ownCarrier).isSome = true) ∧ (s.rfReady = true)) ∧
    (let s : State := ({ State.reset.withLink with link := { State.reset.link with glean := 4 } } : State);
      (3 ≤ s.link.glean)) ∧
    (let s : State := State.reset.withLink;
      (∀ f ∈ s.txOrder, f.wait = none) ∧ (s.awake = true)) :=
  ⟨by decide +kernel, by decide +kernel, by decide +kernel, by decide +kernel, by decide +kernel, by decide +kernel, by decide +kernel, by decide +kernel, by decide +kernel, by decide +kernel⟩

theorem witness_MeshBeaconsParentsAndGenerations :
    (let s : State := State.reset.withStead.raise R.LINK.MESH_STATE.RELAYING;
      (s.relaying = true) ∧ (s.inStead = true) ∧ (s.fcExhausted 2 = false) ∧ (s.fwdDepth < 16)) ∧
    (let b : BeaconIn := testBeacon;
      let r : List BeaconIn := [];
      let s : State := ({ State.reset.withStead.wr R.LINK.MESH_BCN.PARENT_RSSI 100 with link := { State.reset.link with beacons := [testBeacon] } } : State);
      (s.link.beacons = b :: r) ∧ (s.level < 4) ∧ (hKeys b.bytes = 2) ∧ (s.micPasses b.bytes = true) ∧ ((stookData b.bytes).length = 34) ∧ (b.rssi ≤ s.rd R.LINK.MESH_BCN.PARENT_RSSI) ∧ (s.isCollector = false) ∧ (s.link.parents = [])) ∧
    (let b : BeaconIn := { testBeacon with bytes := [] };
      let r : List BeaconIn := [];
      let s : State := ({ State.reset.withStead with link := { State.reset.link with beacons := [{ testBeacon with bytes := [] }] } } : State);
      (s.link.beacons = b :: r) ∧ (s.level < 4) ∧ (hKeys b.bytes ≠ 2 ∨ s.micPasses b.bytes = false)) ∧
    (let n : Nat := 0;
      let p : Parent := beaconParent testBeacon;
      let s : State := ({ State.reset.withStead.wr R.LINK.MESH_BCN.PARENT_TTL 3 with link := { State.reset.link with parents := [beaconParent testBeacon] } } : State);
      (s.link.parents[n]? = some p) ∧ (s.level < 4) ∧ (p.age + 1 < s.parentTtl)) ∧
    (let n : Nat := 0;
      let p : Parent := beaconParent testBeacon;
      let s : State := ({ State.reset.withStead.wr R.LINK.MESH_BCN.PARENT_TTL 1 with link := { State.reset.link with parents := [beaconParent testBeacon] } } : State);
      (s.link.parents[n]? = some p) ∧ (s.level < 4) ∧ (s.parentTtl ≤ p.age + 1)) ∧
    (let v : Nat := 9;
      let s : State := State.reset;
      (v < 2 ^ 32) ∧ (s.rd R.LINK.MESH_GEN.GEN ≤ v)) ∧
    (let v : Nat := 9;
      let s : State := State.reset.wr R.LINK.MESH_GEN.GEN 10;
      (v < s.rd R.LINK.MESH_GEN.GEN)) ∧
    (let which : Nat := 1;
      (which ≠ 0)) :=
  ⟨by decide +kernel, by decide +kernel, by decide +kernel, by decide +kernel, by decide +kernel, by decide +kernel, by decide +kernel, by decide +kernel⟩

theorem witness_DictRequestsCallbacksAndWatches :
    (let n : Nat := 7;
      let b : List Nat := State.reset.withRequest.bytes (slotAddr 7) 24;
      let ops : List DictOp := [newOp 1 0x7FFF 0 []];
      let rest : List (List Nat) := [];
      let s : State := State.reset.withRequest;
      (s.fabricIdle = true) ∧ (s.dictBridged = false) ∧ (s.dict.polling = none) ∧ (s.appOn = true) ∧ (s.level < 5) ∧ (s.flag (R.PWR.PACE_STATUS.UNDER .app) = false) ∧ (s.dict.job = none) ∧ (s.requests = [0x100 + n] :: rest) ∧ (n < 32) ∧ (s.slots.length = 32) ∧ ((s.slot n).writableBy ownDict = true) ∧ (b = s.bytes (slotAddr n) (s.slot n).len) ∧ (8 ≤ b.length) ∧ (le16 b 0 = 0x444C) ∧ (le16 b 2 = 0) ∧ (requestOps (b.drop 8) = some ops) ∧ (s.tag8 (b.getD 8 0 % 4) 0xFFFE (le32 b 4) ((b.drop 8).take ((b.drop 8).length - 8)) = some ((b.drop 8).drop ((b.drop 8).length - 8))) ∧ (s.aboveFloor 4 (le32 b 4) = true) ∧ (∀ o ∈ ops, o.op = opRead ∧ s.entry o.index o.sub = none) ∧ (s.rd R.DICT.COUNTS.REQS + 1 < 2 ^ R.DICT.COUNTS.REQS.width)) ∧
    (let n : Nat := 8;
      let m : Nat := 7;
      let j : DictJob := testJob .calls (some 8);
      let o : DictOp := (testJob .calls (some 8)).ops.headD (newOp 0 0 0 []);
      let d : Desc := paramEntry 0x1103 0 tU16 2 clsOper 0x220007C4 200 60000;
      let s : State := (State.reset.withJobOf .calls (some 8)).setBytes (slotAddr 8) [0x43, 0x44, 6];
      (s.fabricIdle = true) ∧ (s.dictBridged = false) ∧ (s.dict.polling = none) ∧ (s.appOn = true) ∧ (s.dict.job = some j) ∧ (j.slot = some m) ∧ (j.config = false) ∧ (m < 32) ∧ (n < 32) ∧ (m ≠ n) ∧ (s.slots.length = 32) ∧ ((s.slot m).writableBy ownDict = true) ∧ (j.call = some n) ∧ ((s.slot n).owner = ownDict) ∧ (j.next = 0) ∧ (j.ops = [o]) ∧ (o.op = opWrite) ∧ (o.desc = some d) ∧ (d.pair = false)) ∧
    (let n : Nat := 8;
      let m : Nat := 7;
      let j : DictJob := testJob .calls (some 8);
      let o : DictOp := (testJob .calls (some 8)).ops.headD (newOp 0 0 0 []);
      let s : State := ({ State.reset.withJobOf .calls (some 8) with slots := (State.reset.withJobOf .calls (some 8)).slots.set 8 { emptySlot with owner := 2 } } : State);
      (s.fabricIdle = true) ∧ (s.dictBridged = false) ∧ (s.dict.polling = none) ∧ (s.appOn = true) ∧ (s.dict.job = some j) ∧ (j.slot = some m) ∧ (j.config = false) ∧ (m < 32) ∧ (n < 32) ∧ (m ≠ n) ∧ (s.slots.length = 32) ∧ ((s.slot m).writableBy ownDict = true) ∧ (j.call = some n) ∧ ((s.slot n).owner ≠ ownDict) ∧ (j.next = 0) ∧ (j.ops = [o]) ∧ (o.op = opWrite) ∧ (o.desc.isSome = true)) ∧
    (let m : Nat := 7;
      let j : DictJob := testJob .fire none;
      let o : DictOp := (testJob .fire none).ops.headD (newOp 0 0 0 []);
      let s : State := ({ State.reset.withJobOf .fire none with fabric := { State.reset.fabric with fires := [{ req := 11, dict := true, groups := [3], stopped := [], applied := false }] } } : State);
      (s.appOn = true) ∧ (s.dict.job = some j) ∧ (j.phase = .fire) ∧ (s.dict.fired = none) ∧ (s.fabric.writes = []) ∧ (s.fabric.held = []) ∧ (s.fabric.units = []) ∧ (s.dictBridged = false) ∧ (s.dict.polling = none) ∧ (∀ x ∈ s.fabric.fires, x.dict = true ∧ x.applied = false) ∧ (j.slot = some m) ∧ (j.config = false) ∧ (m < 32) ∧ (s.slots.length = 32) ∧ ((s.slot m).writableBy ownDict = true) ∧ (j.ops = [o]) ∧ (o.direct = true)) ∧
    (let n : Nat := 0;
      let w : WatchedPair := { index := 0x1103, sub := 0, eff := 0, value := [0xD0, 7], settle := 2000, diverged := false };
      let d : Desc := paramEntry 0x1103 0 tU16 2 clsOper 0x220007C4 200 60000;
      let s : State := ({ State.reset.store 0x220007C4 2 2000 with dict := { State.reset.dict with watch := [{ index := 0x1103, sub := 0, eff := 0, value := [0xD0, 7], settle := 2000, diverged := false }] } } : State);
      (s.appOn = true) ∧ (s.dict.watch[n]? = some w) ∧ (w.diverged = false) ∧ (s.dictBridged = false) ∧ (s.entry w.index w.eff = some d) ∧ (s.reach d false false 0 .fresh = .here) ∧ ((s.entryRead d).1 = some w.value)) ∧
    (let n : Nat := 0;
      let w : WatchedPair := { index := 0x7FFF, sub := 0, eff := 0, value := [0xD0, 7], settle := 2000, diverged := false };
      let s : State := ({ State.reset with dict := { State.reset.dict with watch := [{ index := 0x7FFF, sub := 0, eff := 0, value := [0xD0, 7], settle := 2000, diverged := false }] } } : State);
      (s.appOn = true) ∧ (s.dict.watch[n]? = some w) ∧ (w.diverged = false) ∧ (s.entry w.index w.eff = none) ∧ (s.rd R.DICT.COUNTS2.DIVERGES + 1 < 2 ^ R.DICT.COUNTS2.DIVERGES.width) ∧ (s.dictBridged = false)) ∧
    (let n : Nat := 2;
      let v : Nat := 9;
      let s : State := State.reset.wr R.DICT.FLOOR_STAT.UNSET 31;
      (s.appOn = true) ∧ (n < 5) ∧ (v < 2 ^ 32) ∧ (s.rd (R.DICT.FLOOR.FC n) ≤ v)) ∧
    (let n : Nat := 2;
      let v : Nat := 9;
      let s : State := State.reset.wr (R.DICT.FLOOR.FC 2) 10;
      (s.appOn = true) ∧ (n < 5) ∧ (v < s.rd (R.DICT.FLOOR.FC n))) :=
  ⟨by decide +kernel, by decide +kernel, by decide +kernel, by decide +kernel, by decide +kernel, by decide +kernel, by decide +kernel, by decide +kernel⟩

theorem witness_RefusedKeyLoadsChangeNoSlot :
    (let ctl : Nat := 0x710;
      let s : State := State.reset;
      (bitsOf ctl 0 3 = 0) ∧ (s.railPowered .app = true)) ∧
    (let ctl : Nat := 0x710;
      let s : State := State.reset;
      (bitsOf ctl 0 3 = 0) ∧ (s.railPowered .app = true)) ∧
    (let ctl : Nat := 0x711;
      let s : State := State.reset;
      (bitsOf ctl 0 3 ≠ 0) ∧ (s.flag (R.CMACE.SLOT.VALID (8 + bitsOf ctl 13 1)) = false ∨ bit (s.rd (R.CMACE.SLOT.ATTR (8 + bitsOf ctl 13 1))) 2 = false) ∧ (s.railPowered .app = true)) ∧
    (let ctl : Nat := 0x711;
      let s : State := ((State.reset.raise (R.CMACE.SLOT.VALID 8)).wr (R.CMACE.SLOT.ATTR 8) 4).wr (R.CMACE.IV.IV 0) 0x30;
      (bitsOf ctl 0 3 ≠ 0) ∧ (s.flag (R.CMACE.SLOT.VALID (8 + bitsOf ctl 13 1)) = true) ∧ (bit (s.rd (R.CMACE.SLOT.ATTR (8 + bitsOf ctl 13 1))) 2 = true) ∧ (s.rd (R.CMACE.IV.IV 0) % 256 < 0x20 ∨ 0x2F < s.rd (R.CMACE.IV.IV 0) % 256) ∧ (s.railPowered .app = true)) ∧
    (let ctl : Nat := 0x711;
      (bitsOf ctl 0 3 ≠ 0)) ∧
    (let ctl : Nat := 0x711;
      let s : State := ((State.reset.raise (R.CMACE.SLOT.VALID 8)).wr (R.CMACE.SLOT.ATTR 8) 4).wr (R.CMACE.IV.IV 0) 0x2F;
      (bitsOf ctl 0 3 ≠ 0) ∧ (s.flag (R.CMACE.SLOT.VALID (8 + bitsOf ctl 13 1)) = true) ∧ (bit (s.rd (R.CMACE.SLOT.ATTR (8 + bitsOf ctl 13 1))) 2 = true) ∧ (0x20 ≤ s.rd (R.CMACE.IV.IV 0) % 256) ∧ (s.rd (R.CMACE.IV.IV 0) % 256 ≤ 0x2F)) :=
  ⟨by decide +kernel, by decide +kernel, by decide +kernel, by decide +kernel, by decide +kernel, by decide +kernel⟩

theorem witness_RefusedDescriptorsMoveNothing :
    (let ch : Nat := 1;
      let s : State := (State.reset.wr (R.DMA.CTL.CTL 1) 0x20002).wr (R.DMA.SRC.ADDR 1) 0x20000002;
      (ch < 8) ∧ (s.appOn = true) ∧ (s.flag (R.DMA.CFG.EN ch) = false) ∧ (s.flag (R.DMA.CFG.PAUSE ch) = false) ∧ (s.ringMode ch = false) ∧ (s.dmaCount ch ≠ 0) ∧ ((bitsOf (s.rd (R.DMA.CTL.CTL ch)) 16 2 = 3 ∨ bitsOf (s.rd (R.DMA.CTL.CTL ch)) 29 3 ≠ 0 ∨
    s.rd (R.DMA.SRC.ADDR ch) % 2 ^ bitsOf (s.rd (R.DMA.CTL.CTL ch)) 16 2 ≠ 0 ∨ s.rd (R.DMA.DST.ADDR ch) % 2 ^ bitsOf (s.rd (R.DMA.CTL.CTL ch)) 16 2 ≠ 0 ∨ s.rd (R.DMA.NEXT.NEXT ch) % 4 ≠ 0)) ∧ (s.unitOut ch = false)) ∧
    (let ch := 7; let s := (State.reset.wr (R.DMA.CTL.CTL 7) 0x30002); ch < 8 ∧ (bitsOf (s.rd (R.DMA.CTL.CTL ch)) 16 2 = 3 ∨ bitsOf (s.rd (R.DMA.CTL.CTL ch)) 29 3 ≠ 0 ∨ s.rd (R.DMA.SRC.ADDR ch) % 2 ^ bitsOf (s.rd (R.DMA.CTL.CTL ch)) 16 2 ≠ 0 ∨ s.rd (R.DMA.DST.ADDR ch) % 2 ^ bitsOf (s.rd (R.DMA.CTL.CTL ch)) 16 2 ≠ 0 ∨ s.rd (R.DMA.NEXT.NEXT ch) % 4 ≠ 0)) :=
  ⟨by decide +kernel, by decide +kernel⟩

theorem witness_AppResetsFreeTheirSlots :
    (let s : State := ({ State.reset with slots := (List.range 32).map (fun n => { emptySlot with owner := n % 6, publish := n % 2 == 0 }) } : State);
      (s.slots.length = 32) ∧ (s.acoreExecuting = true) ∧ (s.awdtPeriod ≠ 0) ∧ (s.awake = true) ∧ (s.rd R.AON.WDT.REMAIN = 0)) ∧
    (let key : Nat := 0xA5;
      let s : State := ({ State.reset with slots := (List.range 32).map (fun n => { emptySlot with owner := n % 6, publish := n % 2 == 0 }) } : State);
      (s.slots.length = 32) ∧ (key % 256 = 0xA5) ∧ (s.power.app.st = .on)) ∧
    (let id : Nat := 0x03;
      let stall : Bool := true;
      let s : State := ({ State.reset with bridges := { State.reset.bridges with pulses := [0x03] }, slots := (List.range 32).map (fun n => { emptySlot with owner := n % 6, publish := n % 2 == 0 }) } : State);
      (s.slots.length = 32) ∧ (isWordBridge id = true ∨ isPulseBridge id = true) ∧ (bridgeSide id = .app) ∧ (s.awake = true) ∧ ((stall = true ∧ id ∈ s.bridges.pulses) ∨ (s.rd (R.BRIDGE.LOCKUP.LOCKUP_N .app) ≠ 0 ∧ s.rd (R.BRIDGE.LOCKUP.LOCKUP_N .app) ≤ s.bridges.runs.count id))) :=
  ⟨by decide +kernel, by decide +kernel, by decide +kernel⟩

theorem witness_MeshGenerationSurvivesResets :
    (let s : State := State.reset.wr R.LINK.MESH_GEN.GEN 9;
      (s.power.ship = false) ∧ (s.resetHold = 0)) ∧
    (let v : Nat := 9;
      let s : State := State.reset.wr R.LINK.MESH_GEN.GEN 10;
      (v < s.rd R.LINK.MESH_GEN.GEN)) ∧
    (let v : Nat := 10;
      let s : State := State.reset.wr R.LINK.MESH_GEN.GEN 10;
      (v < 2 ^ 32) ∧ (s.rd R.LINK.MESH_GEN.GEN ≤ v)) :=
  ⟨by decide +kernel, by decide +kernel, by decide +kernel⟩

theorem witness_LoftReserveAndFrames :
    (let party : Nat := 2;
      let slot : Nat := 31;
      let s : State := ({ State.reset with slots := (List.range 32).map (fun n => { emptySlot with owner := if n < 30 then 2 else 0 }) } : State).wr R.MLOFTC.RESERVE.MET_RSV 2;
      (actsAs .app party = true) ∧ (s.freeNow ≤ min 8 (s.rd R.MLOFTC.RESERVE.MET_RSV)) ∧ (s.rd (R.LOFTC.STATS.REFUSED .app) < 0xFFFF) ∧ (party ≠ ownMet) ∧ ((s.slot (slot % 32)).owner = 0) ∧ (s.variant ≠ .c) ∧ (s.railPowered .app = true)) ∧
    (let party : Nat := 2;
      let s : State := ({ State.reset with slots := (List.range 32).map (fun n => { emptySlot with owner := if n < 30 then 2 else 0 }) } : State).wr R.MLOFTC.RESERVE.MET_RSV 2;
      (actsAs .app party = true) ∧ (s.freeNow ≤ min 8 (s.rd R.MLOFTC.RESERVE.MET_RSV)) ∧ (s.rd (R.LOFTC.STATS.REFUSED .app) < 0xFFFF) ∧ (party ≠ ownMet) ∧ (s.variant ≠ .c) ∧ (s.railPowered .app = true)) ∧
    (let party : Nat := 1;
      let s : State := ({ State.reset.withMet with slots := (List.range 32).map (fun n => { emptySlot with owner := if n < 30 then 2 else 0 }) } : State).wr R.MLOFTC.RESERVE.MET_RSV 2;
      (s.freeNow ≠ 0) ∧ (s.slots.length = 32) ∧ (actsAs .met party = true) ∧ (s.railPowered .met = true) ∧ (s.variant ≠ .c)) :=
  ⟨by decide +kernel, by decide +kernel, by decide +kernel⟩

theorem witness_ContestedWritesFollowTheCollisionCodes :
    (let req : Nat := 1;
      let s : State := State.reset.wr R.GPIO.CONTEND.CONTEND 7;
      (s.accepts .app req = true)) ∧
    (let req : Nat := 1;
      let s : State := State.reset;
      (s.accepts .app req = true)) ∧
    (let req : Nat := 1;
      let f : Fld := R.GPIO.OUT.OUT;
      let s : State := State.reset;
      (s.accepts .app req = true) ∧ (f ∈ [R.GPIO.DIR.OUT, R.GPIO.OD.OD, R.GPIO.OUT.OUT])) ∧
    (let req : Nat := 1;
      let a : Nat := 0x40001008;
      let s : State := State.reset;
      (s.accepts .app req = true) ∧ (a ∈ [0x40001008, 0x40001048, 0x40001064, 0x4001200C, 0x4000300C]) ∧ (s.locked (windowBase a) = false)) ∧
    (let req : Nat := 1;
      let bits : Nat := 1;
      let s : State := State.reset.wr (R.CMACE.IV.IV 0) 5;
      (s.accepts .app req = true) ∧ (bits % 2 ^ 32 ≠ 0)) :=
  ⟨by decide +kernel, by decide +kernel, by decide +kernel, by decide +kernel, by decide +kernel⟩

theorem witness_PinsFollowModesAndRadio :
    (let a : Attempt := rawAttempt .ready;
      let s : State := State.reset.withAttempt (rawAttempt .ready);
      (s.link.att = some a) ∧ (a.phase = .ready) ∧ (s.rfReady = true) ∧ (a.frame.src = .slot)) ∧
    (let s : State := ({ State.reset.withLink with radio := { State.reset.radio with test := 3 } } : State);
      (s.radio.test = 3) ∧ (s.listensOn = false)) ∧
    (let s : State := { State.reset with power := { State.reset.power with rf := { State.reset.power.rf with st := .on } } };
      (s.resetHold = 0) ∧ (s.power.ship = false) ∧ (s.power.shipping = false) ∧ (s.power.rf.entering = none) ∧ (s.power.rf.exiting = false) ∧ (s.power.rf.st = .on) ∧ (s.demanded .rf ≠ .on) ∧ (s.blocksBusy .rf = false)) ∧
    (let s : State := State.reset; s.power.ship = true ∨ s.power.rf.st ≠ .on) ∧
    (let s : State := State.reset.withRf; s.power.ship = false ∧ s.power.rf.st = .on ∧ s.radio.pins = { pa := false, gain := false, tx := false, lna := false }) ∧
    (let s : State := State.reset.withFlow [] true; s.power.ship = false ∧ s.power.met.st = .on ∧ s.flow.sending = some 1) ∧
    (let s : State := { State.reset with power := { State.reset.power with ship := true } }; s.power.ship = true) :=
  ⟨by decide +kernel, by decide +kernel, by decide +kernel, by decide +kernel, by decide +kernel, by decide +kernel, by decide +kernel⟩
end

section
/-! SUPPORT. The slots of the Loft: what FREE makes of one, and that the operations that do not speak of the Loft leave all
of them.  Each lemma `<operation>_slots` says it of one operation of the model, in the order in which the model defines
them. -/

namespace Sys2Proof.Machine

open Sys2Proof

/-! ### Repeated operations -/

/-- An operation that keeps the slots keeps them when it is repeated over a list. -/
theorem foldl_slots {α : Type} {f : State → α → State} (hf : ∀ s a, (f s a).slots = s.slots) (l : List α) (s : State) :
    (l.foldl f s).slots = s.slots := by
  induction l generalizing s with
  | nil => rfl
  | cons a l ih => rw [List.foldl_cons, ih, hf]

theorem forEach_slots {f : Nat → State → State} (hf : ∀ n s, (f n s).slots = s.slots) (k : Nat) (s : State) :
    (forEach k f s).slots = s.slots := foldl_slots (fun s n => hf n s) _ s

/-! ### Register fields, free values and memory -/

@[simp] theorem State.wrBool_slots (s : State) (f : Fld) (b : Bool) : (s.wrBool f b).slots = s.slots := rfl
@[simp] theorem State.raise_slots (s : State) (f : Fld) : (s.raise f).slots = s.slots := rfl
@[simp] theorem State.clear_slots (s : State) (f : Fld) : (s.clear f).slots = s.slots := rfl
@[simp] theorem State.count_slots (s : State) (f : Fld) (k : Nat) : (s.count f k).slots = s.slots := rfl
@[simp] theorem State.fresh_slots (s : State) : s.fresh.2.slots = s.slots := rfl
@[simp] theorem State.dropShadow_slots (s : State) (b : Nat) : (s.dropShadow b).slots = s.slots := rfl

@[simp] theorem State.store_slots (s : State) (a n v : Nat) : (s.store a n v).slots = s.slots := by
  simp [State.store]

/-! ### The mode controller (ch. 04) -/

@[simp] theorem State.settleHold_slots (s : State) (d : Dom) : (s.settleHold d).slots = s.slots := by
  simp [State.settleHold]

@[simp] theorem State.showDomains_slots (s : State) : s.showDomains.slots = s.slots := by
  simp [State.showDomains, foldl_slots State.settleHold_slots]

@[simp] theorem State.biasSide_slots (s : State) (sd : Side) : (s.biasSide sd).slots = s.slots := by
  simp only [State.biasSide]
  split
  · simp [State.enterBias]
  · rfl

@[simp] theorem State.restEntered_slots (s : State) (b : Bool) : (s.restEntered b).slots = s.slots := by
  unfold State.restEntered
  split <;> simp

@[simp] theorem State.modeComplete_slots (s : State) : s.modeComplete.slots = s.slots := by
  simp [State.modeComplete]

@[simp] theorem State.updateMode_slots (s : State) : s.updateMode.slots = s.slots := by
  unfold State.updateMode
  split <;> simp

@[simp] theorem State.startExit_slots (s : State) (d : Dom) : (s.startExit d).slots = s.slots := by
  simp only [State.startExit]
  split <;> simp

@[simp] theorem State.loftOn_slots (s : State) : s.loftOn.slots = s.slots := by
  simp [State.loftOn]

/-! ### Fuses and keys (ch. 09, 22) -/

@[simp] theorem State.syncArb_slots (s : State) : s.syncArb.slots = s.slots := by
  simp [State.syncArb]

@[simp] theorem State.orphanBurns_slots (s : State) (sd : Side) : (s.orphanBurns sd).slots = s.slots := rfl

@[simp] theorem State.putKey_slots (s : State) (n size attr : Nat) (r : Bool) (k : List Nat) :
    (s.putKey n size attr r k).slots = s.slots := by
  simp [State.putKey, State.setKeyBytes]

@[simp] theorem State.emptyKey_slots (s : State) (n : Nat) : (s.emptyKey n).slots = s.slots := by
  simp [State.emptyKey, State.setKeyBytes]

@[simp] theorem State.loseSessions_slots (s : State) : s.loseSessions.slots = s.slots := by
  simp [State.loseSessions]

@[simp] theorem State.deriveClassKeys_slots (s : State) : s.deriveClassKeys.slots = s.slots := rfl

@[simp] theorem State.logArb_slots (s : State) (i c : Nat) (d : List Nat) : (s.logArb i c d).slots = s.slots := by
  unfold State.logArb
  split <;> simp

@[simp] theorem State.logSplits_slots (s : State) : s.logSplits.slots = s.slots :=
  foldl_slots (fun s p => by simp) _ s

@[simp] theorem State.readOtp_slots (s : State) : s.readOtp.slots = s.slots := by
  simp only [State.readOtp]
  split <;> simp

@[simp] theorem State.sealFromFuses_slots (s : State) : s.sealFromFuses.slots = s.slots := by
  simp [State.sealFromFuses, State.syncSeal]

/-! ### Flash (ch. 08) -/

@[simp] theorem State.syncFlash_slots (s : State) (sd : Side) : (s.syncFlash sd).slots = s.slots := rfl
@[simp] theorem State.loseSequences_slots (s : State) (sd : Side) : (s.loseSequences sd).slots = s.slots := rfl
@[simp] theorem State.setCached_slots (s : State) (a b v : Nat) : (s.setCached a b v).slots = s.slots := rfl
@[simp] theorem State.rebuildCache_slots (s : State) (sd : Side) : (s.rebuildCache sd).slots = s.slots := rfl
@[simp] theorem State.loseHeader_slots (s : State) (a b : Nat) : (s.loseHeader a b).slots = s.slots := rfl
@[simp] theorem State.markDword_slots (s : State) (p c : Nat) : (s.markDword p c).slots = s.slots := rfl
@[simp] theorem State.undefDword_slots (s : State) (p : Nat) : (s.undefDword p).slots = s.slots := rfl
@[simp] theorem State.blankBlock_slots (s : State) (p : Nat) : (s.blankBlock p).slots = s.slots := rfl
@[simp] theorem State.undefBlock_slots (s : State) (p : Nat) : (s.undefBlock p).slots = s.slots := rfl

@[simp] theorem State.setFlashOp_slots (s : State) (sd : Side) (o : Option FlashOp) :
    (s.setFlashOp sd o).slots = s.slots := by
  cases sd <;> rfl

@[simp] theorem State.setTired_slots (s : State) (a b : Nat) : (s.setTired a b).slots = s.slots := by
  simp only [State.setTired]
  split <;> simp

@[simp] theorem State.programDword_slots (s : State) (p : Nat) (d : List Nat) (c : Bool) :
    (s.programDword p d c).slots = s.slots := by
  simp [State.programDword]

@[simp] theorem State.programDone_slots (s : State) (sd : Side) (pulses verify : Nat) :
    (s.programDone sd pulses verify).slots = s.slots := by
  unfold State.programDone
  cases s.flashOp sd with
  | none => rfl
  | some o =>
    by_cases he : o.erase = true
    · simp [he]
    · simp only [he, Bool.false_eq_true, if_false]
      split <;> simp [apply_ite State.slots]

@[simp] theorem State.cutFlash_slots (s : State) (sd : Side) (dark : Bool) : (s.cutFlash sd dark).slots = s.slots := by
  unfold State.cutFlash
  cases s.flashOp sd with
  | none => rfl
  | some o => simp [apply_ite State.slots, State.stopErase]

@[simp] theorem State.recordEcc_slots (s : State) (sd : Side) (req : Nat) (fetch : Bool) (addr e : Nat) :
    (s.recordEcc sd req fetch addr e).slots = s.slots := by
  simp [State.recordEcc, apply_ite State.slots]

@[simp] theorem State.readRun_slots (s : State) (sd : Side) (req n a : Nat) : (s.readRun sd req n a).slots = s.slots := by
  induction n generalizing s a with
  | zero => rfl
  | succ n ih =>
    rw [State.readRun, ih]
    split <;> simp [State.readFlashAt]

@[simp] theorem State.appReads_slots (s : State) (req a n : Nat) : (s.appReads req a n).slots = s.slots := by
  unfold State.appReads State.readSpan
  split <;> simp

/-! ### The radio and its tests (ch. 15) -/

@[simp] theorem State.charge_slots (s : State) (freq us : Nat) : (s.charge freq us).slots = s.slots := by
  unfold State.charge
  split <;> rfl

@[simp] theorem State.radioRest_slots (s : State) : s.radioRest.slots = s.slots := rfl
@[simp] theorem State.radioListens_slots (s : State) : s.radioListens.slots = s.slots := rfl
@[simp] theorem State.radioTurns_slots (s : State) (ext rx : Bool) : (s.radioTurns ext rx).slots = s.slots := rfl

@[simp] theorem State.receiverEnds_slots (s : State) : s.receiverEnds.slots = s.slots := by
  unfold State.receiverEnds
  split <;> simp

@[simp] theorem State.endTest_slots (s : State) (why onAir : Nat) : (s.endTest why onAir).slots = s.slots := by
  simp [State.endTest, apply_ite State.slots]

@[simp] theorem State.holdChecked_slots (s : State) (onAir : Nat) : (s.holdChecked onAir).slots = s.slots := by
  unfold State.holdChecked
  split <;> simp

/-! ### Voted storage (R181, R182) -/

@[simp] theorem State.force_slots (s : State) (id i v : Nat) : (s.force id i v).slots = s.slots := rfl
@[simp] theorem State.agree_slots (s : State) (id i : Nat) : (s.agree id i).slots = s.slots := rfl
@[simp] theorem State.loseMap_slots (s : State) : s.loseMap.slots = s.slots := rfl
@[simp] theorem State.rereadOption_slots (s : State) (i : Nat) : (s.rereadOption i).slots = s.slots := rfl

@[simp] theorem State.setVoted_slots (s : State) (id i v : Nat) : (s.setVoted id i v).slots = s.slots := by
  unfold State.setVoted
  split <;> simp [apply_ite State.slots, foldl_slots]

@[simp] theorem State.voteFix_slots (s : State) (id : Nat) : (s.voteFix id).slots = s.slots := by
  simp [State.voteFix, apply_ite State.slots]

@[simp] theorem State.voteAction_slots (s : State) (id i : Nat) : (s.voteAction id i).slots = s.slots := by
  unfold State.voteAction
  split <;> simp [apply_ite State.slots]

@[simp] theorem State.vote_slots (s : State) (id i : Nat) : (s.vote id i).slots = s.slots := by
  simp only [State.vote]
  split
  · rfl
  · split
    · simp [State.voteLost]
    · simp [apply_ite State.slots]

@[simp] theorem State.useVoted_slots (s : State) (id : Nat) : (s.useVoted id).slots = s.slots := by
  unfold State.useVoted
  split
  · rfl
  · exact forEach_slots (fun i a => a.vote_slots id i) _ s

/-! ### The boot ROM (ch. 09) -/

@[simp] theorem State.twinBad_slots (s : State) (t : Nat) : (s.twinBad t).slots = s.slots := by
  simp [State.twinBad]

@[simp] theorem State.tryTwins_slots (s : State) (l : List Nat) : (s.tryTwins l).1.slots = s.slots := by
  induction l generalizing s with
  | nil => rfl
  | cons t l ih =>
    simp only [State.tryTwins]
    split <;> simp [ih]

@[simp] theorem State.forcedMiss_slots (s : State) (b : Option Nat) : (s.forcedMiss b).slots = s.slots := by
  simp [State.forcedMiss, apply_ite State.slots]

@[simp] theorem State.bootTwin_slots (s : State) (t : Nat) : (s.bootTwin t).slots = s.slots := by
  simp [State.bootTwin, State.defaultParams, apply_ite State.slots]

@[simp] theorem State.startLoader_slots (s : State) : s.startLoader.slots = s.slots := by
  simp [State.startLoader]

@[simp] theorem State.chooseTwin_slots (s : State) : s.chooseTwin.slots = s.slots := by
  have trailers (a : State) : (forEach 2 (fun t a => if a.trailerOk t then a else a.twinBad t) a).slots = a.slots :=
    forEach_slots (fun t a => by split <;> simp) 2 a
  simp only [State.chooseTwin, State.feedApp, State.ownCopies_keeps, State.wr_keeps]
  split <;> simp [trailers]

@[simp] theorem State.startAcore_slots (s : State) : s.startAcore.slots = s.slots := by
  simp [State.startAcore, State.logStart]

/-! ### The link engine and DICT's queue (ch. 16, 20) -/

@[simp] theorem State.showDirtyAt_slots (s : State) (b : Nat) : (s.showDirtyAt b).slots = s.slots := rfl
@[simp] theorem State.showDirty_slots (s : State) : s.showDirty.slots = s.slots := rfl
@[simp] theorem State.showDone_slots (s : State) : s.showDone.slots = s.slots := rfl

@[simp] theorem State.raisePeak_slots (s : State) (f : Fld) (v : Nat) : (s.raisePeak f v).slots = s.slots := by
  unfold State.raisePeak
  split <;> simp

@[simp] theorem State.showFill_slots (s : State) : s.showFill.slots = s.slots := by
  simp [State.showFill]

@[simp] theorem State.linkDemands_slots (s : State) : s.linkDemands.slots = s.slots := by
  simp [State.linkDemands, apply_ite State.slots]

@[simp] theorem State.syncLink_slots (s : State) : s.syncLink.slots = s.slots := by
  simp only [State.syncLink, State.linkDemands_slots, State.showFill_slots, State.showDone_slots]
  split <;> simp [apply_ite State.slots]

/-! ### Ports (ch. 25) -/

@[simp] theorem State.setUart_slots (s : State) (u : Nat) (x : Uart) : (s.setUart u x).slots = s.slots := rfl

@[simp] theorem State.showUncal_slots (s : State) : s.showUncal.slots = s.slots :=
  forEach_slots (fun u a => by simp) 2 s

@[simp] theorem State.loadShifter_slots (s : State) (u : Nat) : (s.loadShifter u).slots = s.slots := by
  simp only [State.loadShifter]
  split
  · simp [apply_ite State.slots]
  · rfl
  · rfl

@[simp] theorem State.followPosc_slots (s : State) : s.followPosc.slots = s.slots := by
  simp [State.followPosc, apply_ite State.slots]

@[simp] theorem State.tryPulse_slots (s : State) (n : Nat) : (s.tryPulse n).slots = s.slots := by
  simp [State.tryPulse, State.setFio, apply_ite State.slots]

@[simp] theorem State.portsResume_slots (s : State) : s.portsResume.slots = s.slots := by
  simp [State.portsResume, forEach_slots fun n a => a.tryPulse_slots n]

@[simp] theorem State.resetPorts_slots (s : State) : s.resetPorts.slots = s.slots := by
  simp [State.resetPorts]

/-! ### Updates (ch. 26) and the windows of a domain -/

@[simp] theorem State.loseSheaf_slots (s : State) : s.loseSheaf.slots = s.slots := rfl

@[simp] theorem State.autoApply_slots (s : State) : s.autoApply.slots = s.slots := by
  simp [State.autoApply, State.startApply, apply_ite State.slots]

@[simp] theorem State.stopApply_slots (s : State) : s.stopApply.slots = s.slots := by
  simp only [State.stopApply]
  split
  · rfl
  · simp only [State.applyStopped, State.log_keeps, State.wr_keeps]
    exact foldl_slots (fun a b => by simp [apply_ite State.slots]) _ s

@[simp] theorem State.resetWindow_slots (s : State) (keep : Fld → Bool) (b : Nat) :
    (s.resetWindow keep b).slots = s.slots := by
  simp [State.resetWindow, apply_ite State.slots]

@[simp] theorem State.resetWindows_slots (s : State) (keep : Fld → Bool) (l : List Nat) :
    (s.resetWindows keep l).slots = s.slots := foldl_slots (fun a b => a.resetWindow_slots keep b) l s

end Sys2Proof.Machine
end

section
/-! SUPPORT. The slots of the Loft over FREE (Table MET-5), over the loss of DICT's work, and over a reset of APP scope
(R25). -/

namespace Sys2Proof.Machine

open Sys2Proof

/-- A slot as FREE leaves it. -/
def Slot.freed (x : Slot) : Slot := { x with owner := 0, publish := false, frozen := false }

@[simp] theorem Slot.freed_owner (x : Slot) : x.freed.owner = 0 := rfl
@[simp] theorem Slot.freed_publish (x : Slot) : x.freed.publish = false := rfl

theorem State.slot_congr {s t : State} (h : t.slots = s.slots) (n : Nat) : t.slot n = s.slot n := by
  simp [State.slot, h]

/-! ### One slot freed -/

@[simp] theorem State.lowerMin_slots (s : State) (sd : Side) : (s.lowerMin sd).slots = s.slots := by
  simp [State.lowerMin, apply_ite State.slots]

/-- FREE of a slot leaves the others.  A number of no slot reads as an empty slot, which FREE would not change. -/
theorem State.slot_freeSlot (s : State) (n m : Nat) :
    (s.freeSlot n).slot m = if m = n then (s.slot m).freed else s.slot m := by
  have hs : (s.freeSlot n).slots = s.slots.set n (s.slot n).freed := by
    simp [State.freeSlot, State.setSlot, Slot.freed]
  by_cases hm : m = n
  · subst hm
    by_cases hl : m < s.slots.length
    · simp [State.slot, hs, hl]
    · simp [State.slot, hs, hl, Slot.freed, emptySlot]
  · simp [State.slot, hs, List.getElem?_set_ne (Ne.symm hm), hm]

/-- The slots that satisfy a test of the owner freed, of the first `k`. -/
theorem State.slot_forEach_freeSlot (p : Nat → Bool) (k m : Nat) (s : State) :
    (forEach k (fun n a => if p (a.slot n).owner then a.freeSlot n else a) s).slot m =
      if m < k ∧ p (s.slot m).owner then (s.slot m).freed else s.slot m := by
  induction k with
  | zero => simp [forEach]
  | succ k ih =>
    rw [forEach, List.range_succ, List.foldl_append, List.foldl_cons, List.foldl_nil, ← forEach]
    by_cases hm : m = k
    · subst hm
      rw [if_neg (by omega)] at ih
      rw [ih]
      by_cases hp : p (s.slot m).owner <;> simp [hp, State.slot_freeSlot, ih]
    · have hlt : m < k + 1 ↔ m < k := by omega
      simp only [hlt, ← ih]
      split
      · rw [State.slot_freeSlot, if_neg hm]
      · rfl

/-! ### Some slots of one owner freed -/

/-- `t` has the slots of `s`, but that some slots of `owner` are freed. -/
def FreesSome (owner : Nat) (s t : State) : Prop :=
  ∀ n, t.slot n = s.slot n ∨ (s.slot n).owner = owner ∧ t.slot n = (s.slot n).freed

theorem FreesSome.of_slots {o : Nat} {s t : State} (h : t.slots = s.slots) : FreesSome o s t :=
  fun n => .inl (State.slot_congr h n)

theorem FreesSome.trans {o : Nat} {s t u : State} (h1 : FreesSome o s t) (h2 : FreesSome o t u) : FreesSome o s u := by
  intro n
  rcases h1 n with e1 | ⟨ho, e1⟩ <;> rcases h2 n with e2 | ⟨ho', e2⟩ <;> rw [e1] at e2
  · exact .inl e2
  · exact .inr ⟨e1 ▸ ho', e2⟩
  · exact .inr ⟨ho, e2⟩
  · exact .inr ⟨ho, e2⟩

theorem FreesSome.foldl {α : Type} {o : Nat} {f : State → α → State} (hf : ∀ s a, FreesSome o s (f s a)) (l : List α)
    (s : State) : FreesSome o s (l.foldl f s) := by
  induction l generalizing s with
  | nil => exact .of_slots rfl
  | cons a l ih => exact (hf s a).trans (ih (f s a))

/-- DICT gives up a slot only where it owns it. -/
theorem State.dictFrees_frees (s : State) (n : Nat) : FreesSome ownDict s (s.dictFrees n) := by
  intro m
  unfold State.dictFrees
  split
  · next ho =>
    rw [State.slot_freeSlot]
    split
    · next hm => exact .inr ⟨hm ▸ ho, rfl⟩
    · exact .inl rfl
  · exact .inl rfl

/-- The slot of a request that waits for DICT given up. -/
def dropRequest (a : State) (r : List Nat) : State :=
  match r with
  | [x] => a.dictFrees (x - 0x100)
  | _ => a

/-- The job of DICT given up, with the slot it works in. -/
def State.dropJob (s : State) : State :=
  match s.dict.job with
  | none => s
  | some j =>
    let a := match j.slot with
      | none => s
      | some n => s.dictFrees n
    { a with dict := { a.dict with stale := a.dict.stale ++ j.call.toList } }

theorem State.dropDict_slots (s : State) :
    s.dropDict.slots = (s.requests.foldl dropRequest s).dropJob.slots := by
  let s1 := s.requests.foldl dropRequest s
  calc s.dropDict.slots
    _ = (s1.dropJob.dict.locks.foldl (fun a b => a.clear (R.CFG_COMMIT.LOCKED b)) s1.dropJob).slots := by
      unfold State.dropDict
      rw [State.showFill_slots]
      rfl
    _ = s1.dropJob.slots := foldl_slots (fun a b => a.clear_slots (R.CFG_COMMIT.LOCKED b)) _ _

theorem dropRequest_frees (s : State) (r : List Nat) : FreesSome ownDict s (dropRequest s r) := by
  unfold dropRequest
  split
  · exact s.dictFrees_frees _
  · exact .of_slots rfl

theorem State.dropJob_frees (s : State) : FreesSome ownDict s s.dropJob := by
  unfold State.dropJob
  cases s.dict.job with
  | none => exact .of_slots rfl
  | some j =>
    cases hj : j.slot with
    | none => exact .of_slots (by simp [hj])
    | some n => exact (s.dictFrees_frees n).trans (.of_slots (by simp [hj]))

/-- What DICT leaves behind frees slots of DICT alone. -/
theorem State.dropDict_frees (s : State) : FreesSome ownDict s s.dropDict := by
  have requests : FreesSome ownDict s (s.requests.foldl dropRequest s) := .foldl dropRequest_frees _ s
  exact (requests.trans (State.dropJob_frees _)).trans (.of_slots s.dropDict_slots)

/-! ### A reset of APP scope -/

/-- The owners whose slots a reset of APP scope frees (R25). -/
def appOwners : List Nat := [ownApp, ownDma, ownDict]

theorem State.slot_freeAppSlots (s : State) {n : Nat} (hn : n < 32) :
    s.freeAppSlots.slot n = if (s.slot n).owner ∈ appOwners then (s.slot n).freed else s.slot n :=
  (State.slot_forEach_freeSlot appOwners.contains 32 n s).trans (by simp [hn])

/-- DICT's own slots may be free already when the slots of APP, DMA and DICT are freed: that makes no difference. -/
theorem FreesSome.slot_freeAppSlots {s t : State} (h : FreesSome ownDict s t) {n : Nat} (hn : n < 32) :
    t.freeAppSlots.slot n = if (s.slot n).owner ∈ appOwners then (s.slot n).freed else s.slot n := by
  rw [t.slot_freeAppSlots hn]
  rcases h n with e | ⟨ho, e⟩
  · rw [e]
  · have dict : ownDict ∈ appOwners := by decide
    have free : (s.slot n).freed.owner ∉ appOwners := by rw [Slot.freed_owner]; decide
    rw [e, if_neg free, if_pos (ho ▸ dict)]

theorem State.slot_resetAppBlocks (s : State) {n : Nat} (hn : n < 32) :
    s.resetAppBlocks.slot n = if (s.slot n).owner ∈ appOwners then (s.slot n).freed else s.slot n := by
  let s0 := ((s.stopApply.loseSheaf.cutFlash .app false).loseSequences .app).orphanBurns .app
  have before : FreesSome ownDict s s0.dropDict :=
    (FreesSome.of_slots (t := s0) (by simp [s0])).trans s0.dropDict_frees
  simp only [State.resetAppBlocks, State.slot, State.rebuildCache_slots, State.deriveClassKeys_slots, State.wr_keeps]
  exact (before.trans (.of_slots (by simp [s0]))).slot_freeAppSlots hn

/-- What a reset of APP scope does to slot `n` (R25). -/
theorem State.slot_resetApp (s : State) (cause : Fld) (onAir : Nat) {n : Nat} (hn : n < 32) :
    (s.resetApp cause onAir).slot n =
      if (s.slot n).owner ∈ appOwners then (s.slot n).freed else s.slot n := by
  let s1 := (s.clear R.PWR.DOMAIN_REQ.RF_HOLD).holdChecked onAir
  have before : s1.slots = s.slots := by simp [s1]
  have after : (s.resetApp cause onAir).slots = s1.resetAppBlocks.slots := by
    simp only [State.resetApp]
    simp [apply_ite State.slots, s1]
  rw [State.slot_congr after, s1.slot_resetAppBlocks hn, State.slot_congr before]

end Sys2Proof.Machine
end

section
/-! PROOFS. The resets of APP scope and the Loft (R25). -/

namespace Sys2Proof.Machine

open Sys2Proof

/-! ### The three resets of APP scope, where their conditions hold -/

theorem exec_acoreWatchdog {s : State} {onAir : Nat} (hx : s.acoreExecuting = true) (hp : s.awdtPeriod ≠ 0)
    (ha : s.awake = true) (hr : s.rd R.AON.WDT.REMAIN = 0) :
    exec (.acoreWatchdog onAir) s = .next (s.resetApp R.AON.RST_CAUSE.AWDT onAir) := by
  change execAcoreWatchdog onAir s = _
  simp [execAcoreWatchdog, hx, hp, ha, hr]

theorem exec_softwareReset {s : State} {key onAir : Nat} (hk : key % 256 = 0xA5) (hon : s.power.app.st = .on) :
    exec (.softwareReset key onAir) s = .next (s.resetApp R.AON.RST_CAUSE.SOFT onAir) := by
  change execSoftwareReset key onAir s = _
  simp [execSoftwareReset, hk, hon]

/-- A lockup of the application side is logged, and the timeout counts of the side start afresh, before the reset. -/
def State.lockupLogged (s : State) : State :=
  let s1 := s.logSide .app 0x0A12 []
  { s1 with bridges := { s1.bridges with runs := s1.bridges.runs.filter (fun e => bridgeSide e.1 != .app) } }

@[simp] theorem State.lockupLogged_slots (s : State) : s.lockupLogged.slots = s.slots := by
  simp [State.lockupLogged]

theorem exec_bridgeLockup_app {s : State} {id onAir : Nat} {stall : Bool} {ops : List Nat}
    (hid : isWordBridge id = true ∨ isPulseBridge id = true) (hsd : bridgeSide id = .app) (ha : s.awake = true)
    (hlock : (stall = true ∧ id ∈ s.bridges.pulses) ∨
      (s.rd (R.BRIDGE.LOCKUP.LOCKUP_N .app) ≠ 0 ∧ s.rd (R.BRIDGE.LOCKUP.LOCKUP_N .app) ≤ s.bridges.runs.count id)) :
    exec (.bridgeLockup id stall onAir ops) s = .next (s.lockupLogged.resetApp R.AON.RST_CAUSE.LOCKUP onAir) := by
  change execBridgeLockup id stall onAir ops s = _
  unfold execBridgeLockup
  simp only [hsd]
  rw [if_neg, if_pos]
  · simp only [Side.pick, State.lockupLogged]
  · rcases hlock with ⟨hst, hm⟩ | ⟨hn, hle⟩
    · simp [hst, hm]
    · simp [hn, hle]
  · rcases hid with h | h <;> simp [h, ha]

/-! ### The slots after such a reset -/

/-- Of the 32 slots, those of APP, DMA and DICT are FREE with PUBLISH cleared, and those of MET and LINK are as before. -/
def AppSlotsFreed (s t : State) : Prop :=
  ∀ n ∈ List.range 32, ((s.slot n).owner ∈ [ownApp, ownDma, ownDict] → (t.slot n).owner = 0 ∧ (t.slot n).publish = false) ∧
    ((s.slot n).owner ∈ [ownMet, ownLink] → t.slot n = s.slot n)

/-- A slot of MET or LINK is none of APP, DMA or DICT. -/
theorem not_mem_appOwners_of_met_or_link {o : Nat} (h : o ∈ [ownMet, ownLink]) : o ∉ appOwners := by
  simp only [List.mem_cons, List.not_mem_nil, or_false] at h
  rcases h with rfl | rfl <;> decide

theorem State.resetApp_freesAppSlots (s : State) (cause : Fld) (onAir : Nat) :
    AppSlotsFreed s (s.resetApp cause onAir) := by
  intro n hn
  rw [s.slot_resetApp cause onAir (List.mem_range.1 hn)]
  constructor
  · intro ho
    rw [if_pos (show _ ∈ appOwners from ho)]
    exact ⟨Slot.freed_owner _, Slot.freed_publish _⟩
  · intro ho
    rw [if_neg (not_mem_appOwners_of_met_or_link ho)]

/-- Settles O53: each of the three commands ends in `State.resetApp`, whose effect on a slot is `State.slot_resetApp`. -/
theorem appResetsFreeTheirSlots : Obligations.AppResetsFreeTheirSlots := by
  unfold Obligations.AppResetsFreeTheirSlots
  refine ⟨?_, ?_, ?_⟩
  · intro onAir s _ hx hp ha hr
    exact ⟨_, exec_acoreWatchdog hx hp ha hr, s.resetApp_freesAppSlots _ onAir⟩
  · intro key onAir s _ hk hon
    exact ⟨_, exec_softwareReset hk hon, s.resetApp_freesAppSlots _ onAir⟩
  · intro id stall onAir ops s _ hid hsd ha hlock
    refine ⟨_, exec_bridgeLockup_app hid hsd ha hlock, fun n hn => ?_⟩
    have h := s.lockupLogged.resetApp_freesAppSlots R.AON.RST_CAUSE.LOCKUP onAir n hn
    rwa [State.slot_congr s.lockupLogged_slots] at h

end Sys2Proof.Machine
end

section
/-! SUPPORT. What follows a command by itself: nothing, where nothing waits in the fabric and DICT serves no request. -/

namespace Sys2Proof.Machine

open Sys2Proof

theorem State.quiet_iff (s : State) :
    s.quiet = true ↔ s.fabric.fires = [] ∧ s.fabric.writes = [] ∧ s.fabric.held = [] ∧ s.fabric.raised = [] ∧
      s.fabric.units = [] ∧ s.dict.job = none := by
  simp [State.quiet, State.fabricIdle, and_assoc]

theorem State.pumpFires_of_no_fires {s : State} (h : s.fabric.fires = []) : s.pumpFires = s := by
  simp [State.pumpFires, h, State.fireSteps]

theorem State.dictRun_of_no_job {s : State} (h : s.dict.job = none) : s.dictRun = s := by
  simp [State.dictRun, State.dictSteps, h]

theorem State.replay_of_none_aside {s : State} (hw : s.fabric.writes = []) (hh : s.fabric.held = []) : s.replay = s := by
  have emptied : ({ s with fabric := { s.fabric with writes := [], held := [] } } : State) = s := by
    rw [← hw, ← hh]
  simp [State.replay, hw, hh, inOrder, emptied]

theorem State.resumeUnits_of_no_units {s : State} (h : s.fabric.units = []) : s.resumeUnits = s := by
  simp [State.resumeUnits, h]

/-- What is said of the next state holds of the one that the command answers. -/
theorem Completes.of_exec {i : Instr} {s t : State} {P : State → Prop} (h : Completes i s P) (ht : exec i s = .next t) :
    P t := by
  obtain ⟨u, hu, hP⟩ := h
  rw [ht] at hu
  cases hu
  exact hP

/-- A command in the quiet is not followed by anything. -/
theorem State.settle_of_quiet {s : State} (h : s.quiet = true) : s.settle = s := by
  obtain ⟨fires, writes, held, -, units, job⟩ := s.quiet_iff.1 h
  simp only [State.settle, State.pumpFires_of_no_fires fires, State.dictRun_of_no_job job,
    State.replay_of_none_aside writes held, State.resumeUnits_of_no_units units]

/-- The quiet is a matter of the fabric and of DICT alone. -/
theorem State.quiet_congr {s t : State} (hf : t.fabric = s.fabric) (hd : t.dict = s.dict) : t.quiet = s.quiet := by
  simp [State.quiet, State.fabricIdle, hf, hd]

end Sys2Proof.Machine
end

section
/-! PROOFS. The timeout of an access that waits in a word bridge (R51). -/

namespace Sys2Proof.Machine

open Sys2Proof

/-- The record of a timeout leaves what waits, the fabric and DICT alone. -/
theorem State.recordTimeout_keeps (s : State) (id req : Nat) (write off : Bool) (addr : Nat) :
    (s.recordTimeout id req write off addr).bridges = s.bridges ∧
    (s.recordTimeout id req write off addr).fabric = s.fabric ∧
    (s.recordTimeout id req write off addr).dict = s.dict := by
  simp only [State.recordTimeout, State.logSide_keeps, State.count_eq, State.wr_keeps]
  split <;> simp [State.raise_eq, State.wrBool_eq]

/-- So does the bus fault of a requester that is no channel of DMA. -/
theorem State.busFault_keeps (s : State) {sd : Side} {req : Nat} (kind cause addr : Nat)
    (h : ¬(sd = .app ∧ 2 ≤ req ∧ req ≤ 9)) :
    (s.busFault sd req kind cause addr).bridges = s.bridges ∧ (s.busFault sd req kind cause addr).fabric = s.fabric ∧
    (s.busFault sd req kind cause addr).dict = s.dict := by
  have noChannel : (sd == .app && decide (2 ≤ req) && decide (req ≤ 9)) = false := by
    simpa [and_assoc] using h
  simp [State.busFault, noChannel, State.raise_eq, State.count_eq, apply_ite State.bridges, apply_ite State.fabric,
    apply_ite State.dict]

/-- What a withdrawn access leaves: in its bridge's FIFO the next access has a limit of its own (R48, R51). -/
theorem State.withdraw_keeps {s : State} {a : BridgeAccess} (h : a.ofDma = false) :
    (s.withdraw a).bridges.waiting = fillFifo a.id (s.bridgeLimit a.id) 2 (dropHead a.id s.bridges.waiting) ∧
    (s.withdraw a).fabric = s.fabric ∧ (s.withdraw a).dict = s.dict := by
  have noChannel : ¬(bridgeSide a.id = .app ∧ 2 ≤ a.req ∧ a.req ≤ 9) := by
    simpa [BridgeAccess.ofDma, and_assoc] using h
  obtain ⟨bridges, fabric, dict⟩ :=
    (s.popBridge a.id).recordTimeout_keeps a.id a.req a.write false (issuedAddr a.mode a.addr)
  simp only [State.withdraw, State.busFault_keeps _ _ _ _ noChannel, State.lengthenRun, State.setRun, bridges, fabric, dict]
  exact ⟨rfl, rfl, rfl⟩

/-- BRIDGE_TIMEOUT of a word bridge in the quiet withdraws the access at its head. -/
theorem exec_bridgeTimeout_of_head {id : Nat} {a : BridgeAccess} {s : State} (hp : isPulseBridge id = false)
    (hq : s.quiet = true) (hr : s.timeoutsRun = true) (hh : s.bridgeHead id = some a) (hd : a.ofDma = false)
    (hdict : ¬(bridgeSide a.id = .app ∧ a.req = 11)) :
    exec (.bridgeTimeout id) s = .next (s.withdraw a) := by
  obtain ⟨-, fabric, dict⟩ := State.withdraw_keeps (s := s) hd
  have quiet : (s.withdraw a).quiet = true := (State.quiet_congr fabric dict).trans hq
  change execBridgeTimeout id s = _
  simp [execBridgeTimeout, hr, hp, hh, State.headTimesOut, hdict, State.settle_of_quiet quiet]

/-- A write of WDT that waits in AON_W with a limit. -/
def feedWaiting (limit : Nat) : BridgeAccess :=
  { id := 0x01, req := 1, write := true, addr := R.AON.WDT.FEED.addr, data := 0x3C, mode := 0, limit := limit, sync := false
    taken := false }

/-- Two writes in the FIFO of AON_W, the second without a limit of its own.  `State.enterBridge` and `State.popBridge` give an
access in the FIFO its limit, so that no run is meant to end here; the statement speaks of every state. -/
def State.fifoWithoutLimit : State :=
  { State.reset with bridges := { State.reset.bridges with waiting := [feedWaiting 256, feedWaiting 0] } }

/-- Refutes O8 by its clause of a word bridge's timeout, which says of every state with at most two accesses in the bridge
that the one behind the head stays as it is: one that has no limit yet gets its own as the head leaves
(`State.withdraw_keeps`). -/
theorem not_bridgesCarryAndTimeOut : ¬ Obligations.BridgesCarryAndTimeOut := by
  unfold Obligations.BridgesCarryAndTimeOut
  rintro ⟨-, -, -, -, -, -, timeout, -⟩
  let s := State.fifoWithoutLimit
  let a := feedWaiting 256
  have quiet : s.quiet = true := by decide
  have run : s.timeoutsRun = true := by decide
  have head : s.bridgeHead 0x01 = some a := by decide
  obtain ⟨waiting, -⟩ :=
    (timeout 0x01 a s (by decide) quiet run head (by decide) (by decide) (by decide)).of_exec
      (exec_bridgeTimeout_of_head (by decide) quiet run head (by decide) (by decide))
  have limited : fillFifo 0x01 (s.bridgeLimit 0x01) 2 [feedWaiting 0] = [feedWaiting 256] := by decide
  have unlimited : fillFifo 0x01 (s.bridgeLimit 0x01) 2 [feedWaiting 0] = [feedWaiting 0] :=
    (State.withdraw_keeps (s := s) (a := a) (by decide)).1.symm.trans waiting
  exact absurd (limited.symm.trans unlimited) (by decide)

end Sys2Proof.Machine
end

section
/-! SUPPORT. A plain write of a register of the application side that no bridge, no fire and no lock holds (R163, R204). -/

namespace Sys2Proof.Machine

open Sys2Proof

theorem State.accepts_app_iff (s : State) (req : Nat) :
    s.accepts .app req = true ↔ s.sideOn .app = true ∧ s.outstanding .app req = false ∧ s.quiet = true := by
  simp [State.accepts, portOf, and_assoc]

theorem State.fireHolds_of_quiet {s : State} (h : s.quiet = true) (base : Nat) : s.fireHolds base = false := by
  obtain ⟨fires, -⟩ := s.quiet_iff.1 h
  simp [State.fireHolds, fires]

/-- An accepted write of such a register is performed at once and completes. -/
theorem State.command_app_local {s : State} {req addr : Nat} (data : Nat) (env : WriteEnv) (hs : s.accepts .app req = true)
    (harea : areaOf .app addr = .register) (halign : addr % 4 = 0) (himpl : s.ignoresWrites addr = false)
    (hbridge : sideBridge .app (sharedReg (regAddr addr)) = none)
    (hlock : s.lockWaits req 0 (sharedReg (regAddr addr)) (data % 2 ^ 32) = false) :
    s.command .app req addr data env =
      ((s.performWrite req 0 addr (data % 2 ^ 32) env.world env.contest).done 0).settle := by
  obtain ⟨hon, hout, hquiet⟩ := (s.accepts_app_iff req).1 hs
  simp only [Nat.reducePow] at hlock
  simp [State.command, State.request, portOf, hon, hout, State.access, halign, userRefused, State.serveAccess, harea,
    State.windowWrite, State.regWrite, himpl, State.writeChecked, State.fireHolds_of_quiet hquiet, hbridge, hlock,
    State.performStore]

/-- A plain write at the address of a named register that is no CFG_COMMIT. -/
theorem State.performWrite_named {s : State} {a : Nat} (req data : Nat) (env : List Nat) (ct : Contest)
    (haddr : sharedReg (regAddr a) = a) (himpl : s.ignoresWrites a = false) (hnamed : isNamed a = true)
    (hcommit : a % 0x100 ≠ 0xFC) (hclk : a ≠ 0x48002014) :
    s.performWrite req 0 a data env ct = s.writePlain req a data env ct := by
  have implemented : (s.readsZero a || windowBase a == 0x40014000) = false := himpl
  simp [State.performWrite, haddr, implemented, hnamed, State.writeNamed, hcommit, hclk]

end Sys2Proof.Machine
end

section
/-! PROOFS. A write of an IV word that CMACE updates in the same window (R185, Table CMAC-6). -/

namespace Sys2Proof.Machine

open Sys2Proof

theorem regFields_iv0 : regFields 0x40006080 = [R.CMACE.IV.IV 0] := by decide

theorem colOf_iv0 : colOf (R.CMACE.IV.IV 0) = .hw := by decide

/-- IV0 fills its register. -/
theorem bitsOf_iv0 (v : Nat) : bitsOf v (R.CMACE.IV.IV 0).lsb (R.CMACE.IV.IV 0).width = v % 2 ^ 32 := by
  simp [bitsOf, R.CMACE.IV.IV]

/-- The word stored where CMACE has touched IV0: what CMACE has left in it, cut to 32 bits. -/
theorem State.contested_iv0 (s : State) {ct : Contest} {data : Nat} (hct : ct.bits % 2 ^ 32 ≠ 0) (hdata : data < 2 ^ 32) :
    s.contested ct 0x40006080 data = s.rd (R.CMACE.IV.IV 0) % 2 ^ 32 := by
  have touched : ct ≠ Contest.none := by
    rintro rfl
    exact hct rfl
  have left : resolve (R.CMACE.IV.IV 0) ct (s.hwValue (R.CMACE.IV.IV 0)) (dataFor (R.CMACE.IV.IV 0) data) =
      s.rd (R.CMACE.IV.IV 0) := by
    have live : s.hwValue (R.CMACE.IV.IV 0) = s.rd (R.CMACE.IV.IV 0) := rfl
    simp only [resolve, colOf_iv0, dataFor, bitsOf_iv0, hct, live]
    rfl
  simp only [State.contested, if_neg touched, regFields_iv0, List.foldl_cons, List.foldl_nil, left, bitsOf_iv0]
  simp only [R.CMACE.IV.IV, Nat.pow_zero, Nat.mul_one, Nat.mod_eq_of_lt hdata, Nat.sub_self, Nat.zero_add]

theorem State.ignoresWrites_iv0 (s : State) : s.ignoresWrites 0x40006080 = false := by
  simp [State.ignoresWrites, State.readsZero, windowBase]

/-- Such a write of IV0 stores what CMACE has left in it. -/
theorem State.performWrite_iv0 (s : State) (req : Nat) {data : Nat} (env : List Nat) {ct : Contest}
    (hct : ct.bits % 2 ^ 32 ≠ 0) (hdata : data < 2 ^ 32) :
    s.performWrite req 0 0x40006080 data env ct = s.wr (R.CMACE.IV.IV 0) (s.rd (R.CMACE.IV.IV 0) % 2 ^ 32) := by
  have plain : s.writePlain req 0x40006080 data env ct =
      s.setField env (R.CMACE.IV.IV 0) (dataFor (R.CMACE.IV.IV 0) (s.contested ct 0x40006080 data)) := by
    simp only [State.writePlain, regFields_iv0]
    rfl
  rw [State.performWrite_named req data env ct (by decide) s.ignoresWrites_iv0 (by decide) (by decide) (by decide),
    plain, s.contested_iv0 hct hdata, dataFor, bitsOf_iv0, Nat.mod_mod]
  rfl

/-- REGISTER_WRITE of IV0 where CMACE updates it in the same window. -/
theorem exec_registerWrite_iv0 {s : State} {req bits : Nat} (data adds : Nat) (env : List Nat)
    (hs : s.accepts .app req = true) (hbits : bits % 2 ^ 32 ≠ 0) :
    exec (.registerWrite .app req 0x40006080 data { world := env, contest := { bits := bits, adds := adds } }) s =
      .next ((s.wr (R.CMACE.IV.IV 0) (s.rd (R.CMACE.IV.IV 0) % 2 ^ 32)).done 0) := by
  have free : s.lockWaits req 0 0x40006080 (data % 2 ^ 32) = false := by
    have unbuffered (d : Nat) : writesRwc 0 0x40006080 d = false := by
      simp [writesRwc, regFields_iv0, R.CMACE.IV.IV]
    simp [State.lockWaits, unbuffered, regAddr, windowBase]
  obtain ⟨-, -, quiet⟩ := (s.accepts_app_iff req).1 hs
  let t := (s.wr (R.CMACE.IV.IV 0) (s.rd (R.CMACE.IV.IV 0) % 2 ^ 32)).done 0
  have settled : t.settle = t := State.settle_of_quiet ((State.quiet_congr rfl rfl).trans quiet)
  change execRegisterWrite .app req 0x40006080 data _ s = _
  rw [execRegisterWrite, State.command_app_local data _ hs (by decide) (by decide) s.ignoresWrites_iv0 (by decide) free,
    s.performWrite_iv0 req env hbits (Nat.mod_lt _ (by decide)), settled]

/-- A state with a number of 33 bits under the key of IV0.  `State.wr` cuts what it stores to the field's width, so that no run
is meant to end here; the statement speaks of every state. -/
def State.wideIv : State := { State.reset with regs := [((R.CMACE.IV.IV 0).key, 2 ^ 32)] }

/-- Refutes O56 by its last clause, which says of every state that a contested write leaves IV0 as it reads: the write stores
the low 32 bits of that (`State.performWrite_iv0`), which differ where the state holds more than a word there. -/
theorem not_contestedWritesFollowTheCollisionCodes : ¬ Obligations.ContestedWritesFollowTheCollisionCodes := by
  unfold Obligations.ContestedWritesFollowTheCollisionCodes
  rintro ⟨-, -, -, -, kept⟩
  have accepted : State.wideIv.accepts .app 1 = true := by decide
  have same := (kept 1 0 1 0 [] State.wideIv accepted (by decide)).of_exec
    (exec_registerWrite_iv0 0 0 [] accepted (by decide))
  have before : State.wideIv.rd (R.CMACE.IV.IV 0) = 2 ^ 32 := by decide
  have after : ((State.wideIv.wr (R.CMACE.IV.IV 0) (State.wideIv.rd (R.CMACE.IV.IV 0) % 2 ^ 32)).done 0).rd
      (R.CMACE.IV.IV 0) = 0 := by decide
  exact absurd (after.symm.trans (same.trans before)) (by decide)

end Sys2Proof.Machine
end

section
/-! PROOFS. What the watchdog commands leave alone (R136, Table START-13). -/

namespace Sys2Proof.Machine

open Sys2Proof

/-! ### Frames over nothing, and over one register field -/

theorem SameMemory.refl (s : State) : SameMemory s s := fun _ => rfl

theorem Frame.refl (fs : List Fld) {put : State → State → State} {s : State} (hput : put s s = s) : Frame fs put s s :=
  ⟨SameFields.refl fs s, SameMemory.refl s, hput⟩

theorem Frame.wr {fs : List Fld} {f : Fld} (hf : f ∈ fs) (s : State) (v : Nat) : Frame fs putRegs s (s.wr f v) :=
  ⟨(SameFields.refl fs s).wr v hf, SameMemory.of_eq rfl rfl rfl, rfl⟩

/-! ### The two feeds and the write of the period -/

theorem State.feed_frame (s : State) (sd : Side) :
    Frame [sd.pick R.AON.WDT.REMAIN R.MPWR.WDT.REMAIN] putRegs s (sd.pick s.feedApp s.feedMet) := by
  cases sd with
  | app => exact Frame.wr (List.mem_singleton_self _) s _
  | met => exact Frame.wr (List.mem_singleton_self _) s _

/-- What a write of the period may touch put back: the registers and the mark that the period has been written. -/
def putPeriod (s t : State) : State := { t with regs := s.regs, mrom := s.mrom }

theorem State.metPeriod_frame (s : State) (p : Nat) :
    Frame [R.MPWR.WDT.PERIOD, R.MPWR.WDT.REMAIN] putPeriod s (s.metPeriod p) := by
  unfold State.metPeriod
  split
  · exact Frame.refl _ rfl
  · let s1 : State := { s with mrom := { s.mrom with wdtSet := true } }
    have marked : SameFields [R.MPWR.WDT.PERIOD, R.MPWR.WDT.REMAIN] s s1 := (SameFields.refl _ s).of_regs rfl
    exact ⟨(marked.wr p (by simp)).wr _ (by simp), SameMemory.of_eq rfl rfl rfl, rfl⟩

/-- Settles O14: a command that is ignored changes nothing, and one that is taken is `State.feedApp`, `State.feedMet` or
`State.metPeriod`, whose frames are `State.feed_frame` and `State.metPeriod_frame`. -/
theorem onlyTheFirstPeriodWriteTakesEffect : Obligations.OnlyTheFirstPeriodWriteTakesEffect := by
  unfold Obligations.OnlyTheFirstPeriodWriteTakesEffect
  refine ⟨?_, ?_⟩
  · intro sd key s t ht
    change execWatchdogFeed sd key s = .next t at ht
    unfold execWatchdogFeed at ht
    split at ht <;> cases ht
    · exact Frame.refl _ rfl
    · exact s.feed_frame sd
  · intro period s t ht
    change execWdtPeriodWrite period s = .next t at ht
    unfold execWdtPeriodWrite at ht
    split at ht <;> cases ht
    · exact s.metPeriod_frame _
    · exact Frame.refl (put := putPeriod) _ rfl

end Sys2Proof.Machine
end

section
/-! PROOFS. A key-load record read with a corrected bit error (R219, R220, R600). -/

namespace Sys2Proof.Machine

open Sys2Proof

/-- KEY_UNWRAP of a record that is read without a fault and that verifies: what it makes of the state after the reads. -/
theorem exec_keyUnwrap_of_verified {s : State} {a0 : Nat} (hrun : s.appRuns = true)
    (hload : (s.romCall.takes a0 64).code = 0) (hok : ((s.romCall.takes a0 64).s.unwrap (s.appBytes a0 64)).2 = 0) :
    exec (.keyUnwrap a0) s =
      .next (((s.romCall.takes a0 64).s.unwrap (s.appBytes a0 64)).1.romResult 0) := by
  change execKeyUnwrap a0 s = _
  simp [execKeyUnwrap, hrun, hload, hok]

/-- A key-load record for slot 1 that verifies under the root key and the unit ID of `State.reset`. -/
def keyRecord : List Nat :=
  [1, 0, 1, 1, 5, 0, 0, 0] ++ List.replicate 8 0 ++ List.replicate 32 9 ++
    [218, 188, 224, 235, 61, 123, 125, 227, 209, 74, 36, 92, 105, 102, 27, 137]

/-- The record at the base of flash bank 0, one bit of its first double word in error. -/
def State.recordInFlash : State := (State.reset.setBytes 0x100000 keyRecord).markDword 0x100000 1

/-- Refutes O32 by its clause of KEY_UNWRAP, which says of every address of the record that 0x0761 takes the sequence number
that was next at the call.  The ROM reads the record first, and a corrected bit error there is an event too: 0x0210 takes
that number, and 0x0761 the one after it. -/
theorem not_bootRomRoutinesAndLoader : ¬ Obligations.BootRomRoutinesAndLoader := by
  unfold Obligations.BootRomRoutinesAndLoader
  rintro ⟨-, -, unwrap, -⟩
  let s := State.recordInFlash
  let u := (s.romCall.takes 0x100000 64).s.unwrap (s.appBytes 0x100000 64)
  let t := u.1.romResult 0
  have run : s.appRuns = true := by decide +kernel
  have record : keyRecord = s.appBytes 0x100000 64 := by decide +kernel
  have load : (s.romCall.takes 0x100000 64).code = 0 := by decide +kernel
  have verifies : cmacOf (s.rootDerive labelWmac) (s.unitIdBytes ++ keyRecord.take 0x30) = (keyRecord.drop 0x30).take 16 := by
    decide +kernel
  have completed : u.2 = 0 := by decide +kernel
  have called : exec (.keyUnwrap 0x100000) s = .next t := exec_keyUnwrap_of_verified run load completed
  obtain ⟨-, -, -, -, -, -, -, e, last, seq, -⟩ :=
    (unwrap 0x100000 keyRecord s run rfl rfl record (by decide) verifies load).of_exec called
  have logged : t.logs.sys.map (fun x => (x.seq, x.code)) = [(1, 0x0210), (2, 0x0761)] := by decide +kernel
  have newest : (e.seq, e.code) = (2, 0x0761) := by
    have h := congrArg List.getLast? logged
    rwa [List.getLast?_map, Option.mem_def.1 last, Option.map_some, List.getLast?_cons_cons, List.getLast?_singleton,
      Option.some.injEq] at h
  have next : s.logs.nextSeq = 1 := by decide +kernel
  obtain ⟨second, -⟩ := Prod.mk.inj newest
  rw [second, next] at seq
  exact absurd seq (by decide)

end Sys2Proof.Machine
end

section
/-! PROOFS. A forced requester of which the record says that it has been granted ahead of itself (R205, R207). -/

namespace Sys2Proof.Machine

open Sys2Proof

/-- ARBITER_DECISION where some of those that wait are forced and none of them may be granted: the requests are raised and
nothing else happens. -/
theorem exec_arbiterDecision_of_no_winner {target : Nat} {raised : List Nat} {s t : State} (ht : s.raiseAt target raised = t)
    (hon : s.appOn = true) (htarget : target ≤ 4) (hunder : s.flag (R.PWR.PACE_STATUS.UNDER .app) = false)
    (hforced : (t.waitersAt target).filter t.isForced ≠ [])
    (hwinner : t.forcedWinner ((t.waitersAt target).filter t.isForced) = none) :
    exec (.arbiterDecision target raised) s = .next t := by
  have still : t.decideAt target = t := by
    simp only [State.decideAt, List.isEmpty_iff, hforced, if_false, hwinner]
  have made : (!s.appOn || decide (4 < target) || s.flag (R.PWR.PACE_STATUS.UNDER .app)) = false := by
    rw [hon, hunder, decide_eq_false (Nat.not_lt.2 htarget)]
    rfl
  change execArbiterDecision target raised s = _
  simp only [execArbiterDecision, made, Bool.false_eq_true, if_false, ht, still]

/-- Requester 4 is forced, and granted ahead of itself by the record.  `State.forcedWin` records pairs of two requesters alone,
so that no run is meant to end here; the statement speaks of every state. -/
def State.yieldedToItself : State :=
  { State.reset with fabric := { State.reset.fabric with forced := [4], passed := [(4, 4)] } }

/-- Refutes O19 by its clause of a forced requester, which says of every state that it is granted: `State.fairForced` takes out
one that another has yielded to, and does not ask whether the other is the requester itself.  Requester 4 then is the only one
forced and not granted (`exec_arbiterDecision_of_no_winner`): it stays forced. -/
theorem not_arbiterServesPriorityUnlessForced : ¬ Obligations.ArbiterServesPriorityUnlessForced := by
  unfold Obligations.ArbiterServesPriorityUnlessForced
  rintro ⟨-, forced, -⟩
  let s := State.yieldedToItself
  let t := s.raiseAt 0 [1, 4]
  have on : s.appOn = true := by decide
  have under : s.flag (R.PWR.PACE_STATUS.UNDER .app) = false := by decide
  have waits : (t.waitersAt 0).filter t.isForced = [4] := by decide
  have winner : t.forcedWinner ((t.waitersAt 0).filter t.isForced) = none := by rw [waits]; decide
  have decided : exec (.arbiterDecision 0 [1, 4]) s = .next t :=
    exec_arbiterDecision_of_no_winner rfl on (by decide) under (by rw [waits]; exact List.cons_ne_nil 4 []) winner
  obtain ⟨-, -, released⟩ :=
    (forced 0 1 4 s on (by decide) (by decide) (by decide) (by decide) (by decide) (by decide) under rfl rfl).of_exec decided
  have kept : 4 ∈ t.fabric.forced := by decide
  exact released kept

end Sys2Proof.Machine
end

section
/-! SUPPORT. A number stored in memory and loaded again (R194). -/

namespace Sys2Proof.Machine

open Sys2Proof

@[simp] theorem length_leBytes (n v : Nat) : (leBytes n v).length = n := by
  induction n generalizing v with
  | zero => rfl
  | succ n ih => simp [leBytes, ih]

/-- A store touches memory alone. -/
theorem State.store_only (s : State) (a n v : Nat) : s.store a n v = { s with mem := (s.store a n v).mem } :=
  s.setBytes_only a (leBytes n v)

theorem State.store_outside (s : State) (a n v : Nat) : SameMemoryOutside a n s (s.store a n v) := fun c hc =>
  State.byte_setBytes_outside (leBytes n v) s a c (by rwa [length_leBytes])

/-- What a load gives is a matter of the bytes alone. -/
theorem SameMemory.load {s t : State} (h : SameMemory s t) (a n : Nat) : t.load a n = s.load a n := by
  induction n generalizing a with
  | zero => rfl
  | succ n ih =>
    calc t.load a (n + 1)
      _ = (t.byte a).toNat + 256 * t.load (a + 1) n := rfl
      _ = s.load a (n + 1) := by rw [h a, ih]; rfl

theorem State.load_done (s : State) (d a n : Nat) : (s.done d).load a n = s.load a n :=
  SameMemory.load (s := s) (t := s.done d) (SameMemory.of_eq rfl rfl rfl) a n

/-- In a memory that is not flash a load gives back what a store has put there, cut to its bytes. -/
theorem State.load_store (s : State) {a n : Nat} (v : Nat) (hr : ∀ j, j < n → (memRegion (a + j)).isSome = true) :
    (s.store a n v).load a n = v % 256 ^ n := by
  induction n generalizing s a v with
  | zero => simp [State.load, State.bytes, leNat, Nat.mod_one]
  | succ n ih =>
    let b := BitVec.ofNat 8 (v % 256)
    obtain ⟨r, here⟩ := Option.isSome_iff_exists.1 (hr 0 n.succ_pos)
    have first : ((s.setByte a b).store (a + 1) n (v / 256)).byte a = b := by
      rw [(s.setByte a b).store_outside (a + 1) n (v / 256) a (.inl a.lt_succ_self), s.byte_setByte_self a b here]
    have rest : ((s.setByte a b).store (a + 1) n (v / 256)).load (a + 1) n = v / 256 % 256 ^ n :=
      ih (s.setByte a b) (v / 256) fun j hj => by
        rw [Nat.add_right_comm a 1 j]
        exact hr (j + 1) (by omega)
    calc (s.store a (n + 1) v).load a (n + 1)
      _ = b.toNat + 256 * (v / 256 % 256 ^ n) := by rw [← first, ← rest]; rfl
      _ = v % 256 ^ (n + 1) := by rw [Nat.pow_succ', Nat.mod_mul]; simp [b]

end Sys2Proof.Machine
end

section
/-! SUPPORT. What a bus fault leaves (R201 to R203, R623). -/

namespace Sys2Proof.Machine

open Sys2Proof

theorem State.dmaFault_keeps (s : State) (ch cause : Nat) :
    (s.dmaFault ch cause).mem = s.mem ∧ (s.dmaFault ch cause).epochs = s.epochs ∧
    (s.dmaFault ch cause).flashMarks = s.flashMarks ∧ (s.dmaFault ch cause).dict = s.dict ∧
    (s.dmaFault ch cause).fabric = { s.fabric with units := s.fabric.units.filter (fun u => u.ch != ch) } := by
  simp [State.dmaFault, State.dropUnit, State.clear_eq, State.wrBit_eq]

/-- It gives zero and its cause, and to a core its exception. -/
theorem State.busFault_last (s : State) (sd : Side) (req kind cause addr : Nat) :
    (s.busFault sd req kind cause addr).last =
      { data := 0, cause := cause, mcause := if isCore req then mcauseOf kind else 0
        mtval := if isCore req then addr else 0 } := by
  simp [State.busFault, State.raise_eq, State.count_eq, apply_ite State.last]

theorem State.busFault_memory (s : State) (sd : Side) (req kind cause addr : Nat) :
    SameMemory s (s.busFault sd req kind cause addr) := by
  apply SameMemory.of_eq <;>
    simp [State.busFault, State.raise_eq, State.count_eq, apply_ite State.mem, apply_ite State.epochs,
      apply_ite State.flashMarks, State.dmaFault_keeps]

/-- It starts nothing in the fabric: what a channel of DMA has there is dropped. -/
theorem State.busFault_quiet {s : State} (h : s.quiet = true) (sd : Side) (req kind cause addr : Nat) :
    (s.busFault sd req kind cause addr).quiet = true := by
  obtain ⟨-, -, -, -, units, -⟩ := s.quiet_iff.1 h
  have dropped (ch : Nat) :
      ({ s.fabric with units := s.fabric.units.filter (fun u => u.ch != ch) } : Fabric) = s.fabric := by
    rw [units, List.filter_nil, ← units]
  refine (State.quiet_congr (s := s) ?_ ?_).trans h <;>
    simp [State.busFault, State.raise_eq, State.count_eq, apply_ite State.fabric, apply_ite State.dict,
      State.dmaFault_keeps, dropped]

end Sys2Proof.Machine
end

section
/-! SUPPORT. MEMORY_ACCESS of a requester whose access meets nothing, and a memory access of the application side served at
once (R196, R204). -/

namespace Sys2Proof.Machine

open Sys2Proof

theorem ne_kindFetch {kind : Nat} (hk : kind = 1 ∨ kind = 2) : kind ≠ kindFetch := by
  rcases hk with rfl | rfl <;> decide

/-- The command is the access and what follows it. -/
theorem exec_memoryAccess_of_accepts {sd : Side} {req kind n : Nat} (addr data : Nat) (rom : Bool) (env : WriteEnv) {s : State}
    (hs : s.accepts sd req = true) (hn : n = 1 ∨ n = 2 ∨ n = 4) (hk : kind = 1 ∨ kind = 2) :
    exec (.memoryAccess sd req kind n addr data rom AccessEnv.none env) s =
      .next (s.access { sd := sd, req := req, kind := kind, size := n, addr := addr, data := data % 2 ^ (8 * n), rom := rom }
        env.world env.contest false).settle := by
  have hon : s.sideOn sd = true ∧ s.outstanding sd (portOf sd req) = false := by
    simp only [State.accepts, Bool.and_eq_true, Bool.not_eq_true'] at hs
    exact hs.1
  have size : sizeOf' n = n := by rcases hn with rfl | rfl | rfl <;> rfl
  have isData : kind % 3 = kind := by omega
  change execMemoryAccess sd req kind n addr data rom AccessEnv.none env s = _
  simp [execMemoryAccess, AccessEnv.none, State.strikes, State.meetErrors, State.request, size, isData, hon]

/-- An aligned data access of the application side that meets no UNDER and waits for nobody is served at once, where no
register lies. -/
theorem State.access_app_served {s : State} {req kind n addr : Nat} (data : Nat) (rom : Bool) (env : List Nat) (ct : Contest)
    (hq : s.quiet = true) (hu : s.flag (R.PWR.PACE_STATUS.UNDER .app) = false) (hk : kind = 1 ∨ kind = 2)
    (ha : addr % n = 0) (hr : appArea addr ≠ .register) (hl : appArea addr ≠ .aliased) :
    s.access { sd := .app, req := req, kind := kind, size := n, addr := addr, data := data, rom := rom } env ct false =
      s.memAccess .app req kind n addr data rom := by
  obtain ⟨-, -, held, raised, -⟩ := s.quiet_iff.1 hq
  have notFetch := ne_kindFetch hk
  have waits (h : HeldAccess) : s.mustWait h false = false := by
    cases t : targetOf h.addr <;> simp [State.mustWait, t, held, raised]
  have stops (h : HeldAccess) (hsd : h.sd = .app) : s.fetchStops h = false := by simp [State.fetchStops, hsd]
  cases area : appArea addr with
  | register => exact absurd area hr
  | aliased => exact absurd area hl
  | nothing | rom | flash | sram | loft | retention =>
    simp [State.access, portOf, ha, userRefused, State.serveAccess, areaOf, Side.pick, area, State.underHolds, hu, waits,
      stops, State.serveMemory, notFetch]

/-- MEMORY_ACCESS of such an access, with what follows it. -/
theorem exec_memoryAccess_app_served {req kind n addr : Nat} (data : Nat) (rom : Bool) (env : WriteEnv) {s : State}
    (hs : s.accepts .app req = true) (hu : s.flag (R.PWR.PACE_STATUS.UNDER .app) = false) (hn : n = 1 ∨ n = 2 ∨ n = 4)
    (ha : addr % n = 0) (hk : kind = 1 ∨ kind = 2) (hr : appArea addr ≠ .register) (hl : appArea addr ≠ .aliased) :
    exec (.memoryAccess .app req kind n addr data rom AccessEnv.none env) s =
      .next (s.memAccess .app req kind n addr (data % 2 ^ (8 * n)) rom).settle := by
  obtain ⟨-, -, quiet⟩ := (s.accepts_app_iff req).1 hs
  rw [exec_memoryAccess_of_accepts addr data rom env hs hn hk, State.access_app_served _ rom _ _ quiet hu hk ha hr hl]

end Sys2Proof.Machine
end

section
/-! PROOFS. Accesses of SRAM, of addresses where nothing lies, and of what the user mode of MCORE may not reach (R194, R196,
R201, R280). -/

namespace Sys2Proof.Machine

open Sys2Proof

/-! ### SRAM -/

theorem appArea_sram {a : Nat} (h1 : 0x20000000 ≤ a) (h2 : a < 0x20020000) : appArea a = .sram := by
  have noFlash : flashArray .app a = none := by
    simp only [flashArray]
    repeat rw [if_neg (by omega)]
  simp only [appArea, noFlash]
  rw [if_neg (by omega), if_neg (by simp; omega), if_pos ⟨h1, h2⟩]

theorem State.unwindow_sram (s : State) {a : Nat} (h : 0x20000000 ≤ a) : s.unwindow a = some a := by
  rw [State.unwindow, if_neg (by omega)]

/-- An aligned access within SRAM stays in SRAM, whose bytes are no flash. -/
theorem memRegion_sram {a n : Nat} (hn : n = 1 ∨ n = 2 ∨ n = 4) (h1 : 0x20000000 ≤ a) (h2 : a < 0x20020000) (ha : a % n = 0) :
    ∀ j, j < n → (memRegion (a + j)).isSome = true := by
  intro j hj
  have inside : a + j < 0x20020000 := by rcases hn with rfl | rfl | rfl <;> omega
  rw [memRegion, if_pos ⟨by omega, inside⟩]
  rfl

/-- An aligned data access of SRAM is served without fault. -/
theorem State.memAccess_sram (s : State) {req kind n a : Nat} (data : Nat) (rom : Bool) (hk : kind = 1 ∨ kind = 2)
    (h1 : 0x20000000 ≤ a) (h2 : a < 0x20020000) (ha : a % n = 0) :
    s.memAccess .app req kind n a data rom = if kind = 2 then (s.store a n data).done 0 else s.done (s.load a n) := by
  have notFetch := ne_kindFetch hk
  simp [State.memAccess, State.useFlashVoters, State.memCause, State.memServe, State.physical, areaOf, Side.pick,
    appArea_sram h1 h2, ha, notFetch, s.unwindow_sram h1, kindWrite]

/-- MEMORY_ACCESS of SRAM touches memory and the answer alone; nothing follows it. -/
theorem exec_memoryAccess_sram {req kind n a : Nat} (data : Nat) (rom : Bool) (env : WriteEnv) {s t : State}
    (hs : s.accepts .app req = true) (hu : s.flag (R.PWR.PACE_STATUS.UNDER .app) = false) (hn : n = 1 ∨ n = 2 ∨ n = 4)
    (h1 : 0x20000000 ≤ a) (h2 : a < 0x20020000) (ha : a % n = 0) (hk : kind = 1 ∨ kind = 2)
    (ht : (if kind = 2 then (s.store a n (data % 2 ^ (8 * n))).done 0 else s.done (s.load a n)) = t) :
    exec (.memoryAccess .app req kind n a data rom AccessEnv.none env) s = .next t ∧
      { t with mem := s.mem, last := s.last } = s := by
  obtain ⟨-, -, quiet⟩ := (s.accepts_app_iff req).1 hs
  have area := appArea_sram h1 h2
  have rest : { t with mem := s.mem, last := s.last } = s := by
    subst ht
    split
    · rw [State.store_only]
      rfl
    · rfl
  have settled : t.settle = t := State.settle_of_quiet ((congrArg State.quiet rest).trans quiet)
  refine ⟨?_, rest⟩
  rw [exec_memoryAccess_app_served data rom env hs hu hn ha hk (by simp [area]) (by simp [area]),
    s.memAccess_sram _ rom hk h1 h2 ha, ht, settled]

/-! ### Bus faults of cause DECODE -/

/-- Where nothing lies, an access ends in a bus fault. -/
theorem State.memAccess_nothing (s : State) {req kind n a : Nat} (data : Nat) (rom : Bool) (hk : kind = 1 ∨ kind = 2)
    (harea : appArea a = .nothing) (ha : a % n = 0) :
    s.memAccess .app req kind n a data rom = s.busFault .app req kind causeDecode a := by
  have notFetch := ne_kindFetch hk
  simp [State.memAccess, State.useFlashVoters, State.memCause, State.memFault, areaOf, Side.pick, harea, ha, notFetch,
    causeDecode, causeLoftOwner, causeXoRead, causeProtWrite]

/-- So does an access that MCORE in user mode may not make, as one of its data port. -/
theorem State.access_userRefused (s : State) {kind n a : Nat} (data : Nat) (rom : Bool) (env : List Nat) (ct : Contest)
    (busy : Bool) (ha : a % n = 0) (harea : areaOf .met a = .register ∨ areaOf .met a = .flash ∧ kind = 2) :
    s.access { sd := .met, req := 2, kind := kind, size := n, addr := a, data := data, rom := rom } env ct busy =
      s.busFault .met 1 kind causeDecode a := by
  have refused : userRefused .met 2 kind a = true := by
    rcases harea with area | ⟨area, rfl⟩ <;> simp [userRefused, mcoreUser, area, kindWrite]
  simp [State.access, portOf, mcoreUser, ha, refused]

/-- Settles O20: an access that meets nothing is served at once (`exec_memoryAccess_of_accepts`, `State.access_app_served`), by
SRAM (`exec_memoryAccess_sram`) or with a bus fault (`State.memAccess_nothing`, `State.access_userRefused`), and nothing follows
it in the quiet. -/
theorem memoryAccessesOfTheApplicationSide : Obligations.MemoryAccessesOfTheApplicationSide := by
  unfold Obligations.MemoryAccessesOfTheApplicationSide
  refine ⟨?_, ?_, ?_, ?_⟩
  · intro req n a data rom env s hs hu hn h1 h2 ha
    let t := (s.store a n (data % 2 ^ (8 * n))).done 0
    obtain ⟨served, rest⟩ := exec_memoryAccess_sram data rom env hs hu hn h1 h2 ha (.inr rfl) (if_pos rfl : _ = t)
    refine ⟨t, served, ?_, s.store_outside a n _, rfl, rest⟩
    calc t.load a n
      _ = (s.store a n (data % 2 ^ (8 * n))).load a n := State.load_done _ 0 a n
      _ = data % 2 ^ (8 * n) % 256 ^ n := s.load_store _ (memRegion_sram hn h1 h2 ha)
      _ = data % 2 ^ (8 * n) := by rw [Nat.pow_mul, Nat.mod_mod]
  · intro req n a data rom env s hs hu hn h1 h2 ha
    obtain ⟨served, -⟩ := exec_memoryAccess_sram data rom env hs hu hn h1 h2 ha (.inl rfl) (if_neg (by decide))
    exact ⟨s.done (s.load a n), served, rfl, SameMemory.of_eq rfl rfl rfl, rfl⟩
  · intro req kind n a data rom env s hs hu hn ha hk area
    obtain ⟨-, -, quiet⟩ := (s.accepts_app_iff req).1 hs
    let t := s.busFault .app req kind causeDecode a
    have last := s.busFault_last .app req kind causeDecode a
    have settled : t.settle = t := State.settle_of_quiet (State.busFault_quiet quiet ..)
    refine ⟨t, ?_, by rw [last], by rw [last], s.busFault_memory .app req kind causeDecode a⟩
    rw [exec_memoryAccess_app_served data rom env hs hu hn ha hk (by simp [area]) (by simp [area]),
      s.memAccess_nothing _ rom hk area ha, settled]
  · intro kind n a data rom env s hs hn ha hk harea
    have quiet : s.quiet = true := (Bool.and_eq_true_iff.1 hs).2
    let t := s.busFault .met 1 kind causeDecode a
    have settled : t.settle = t := State.settle_of_quiet (State.busFault_quiet quiet ..)
    refine ⟨t, ?_, s.busFault_last .met 1 kind causeDecode a, s.busFault_memory .met 1 kind causeDecode a⟩
    rw [exec_memoryAccess_of_accepts a data rom env hs hn hk, s.access_userRefused _ rom _ _ false ha harea, settled]

end Sys2Proof.Machine
end

section
/-! SUPPORT. A field that is set or raised, as it reads; an entry of a log, seen from an earlier and from a later state. -/

namespace Sys2Proof.Machine

open Sys2Proof

theorem State.rd_wr_of_lt (s : State) {f : Fld} {v : Nat} (h : v < 2 ^ f.width) : (s.wr f v).rd f = v := by
  rw [State.rd_wr_self, Nat.mod_eq_of_lt h]

theorem State.rd_wrBool_self (s : State) {f : Fld} (b : Bool) (hw : f.width ≠ 0) : (s.wrBool f b).rd f = b2n b :=
  s.rd_wr_of_lt (Nat.lt_of_lt_of_le (by cases b <;> decide) (Nat.pow_le_pow_right (n := 2) (by decide) (Nat.pos_of_ne_zero hw)))

theorem State.rd_raise_self (s : State) {f : Fld} (hw : f.width ≠ 0) : (s.raise f).rd f = 1 := s.rd_wrBool_self true hw

/-- A frame of either outcome is one of both. -/
theorem SameFields.ite {fs : List Fld} {s t u : State} {p : Prop} [Decidable p] (ht : SameFields fs s t)
    (hu : SameFields fs s u) : SameFields fs s (if p then t else u) := by
  split
  · exact ht
  · exact hu

/-- What is newest in the log from one state is so from any that agrees in the next number and in the time. -/
theorem Logged.of_same {s s' t t' : State} {code : Nat} {data : List Nat} (h : Logged s' t' code data)
    (number : s'.logs.nextSeq = s.logs.nextSeq) (time : s'.utime = s.utime) (log : t.logs.sys = t'.logs.sys) :
    Logged s t code data := by
  obtain ⟨e, newest, seq, utime, rest⟩ := h
  exact ⟨e, by rwa [log], seq.trans number, utime.trans time, rest⟩

end Sys2Proof.Machine
end

section
/-! SUPPORT. What shows the state of the flash controllers, of CMACE, of the fuse programmer and of the seal: the fields that
each update of it may write. -/

namespace Sys2Proof.Machine

open Sys2Proof

/-- The bits of STATUS that show the operation of a flash controller (Table FLASH-7). -/
def flashShown (sd : Side) : List Fld :=
  [R.FLASHC.STATUS.BUSY sd, R.FLASHC.STATUS.BUSY0 sd, R.FLASHC.STATUS.BUSY1 sd, R.FLASHC.STATUS.BUSYB sd, R.FLASHC.STATUS.OP sd,
    R.FLASHC.STATUS.ARMED sd]

theorem State.syncFlash_fields (s : State) (sd : Side) : SameFields (flashShown sd) s (s.syncFlash sd) := by
  cases sd <;>
    exact ((((((SameFields.refl _ s).wr _ (by decide)).wr _ (by decide)).wr _ (by decide)).wr _ (by decide)).wr _
      (by decide)).wr _ (by decide)

@[simp] theorem State.syncFlash_keeps (s : State) (sd : Side) :
    (s.syncFlash sd).protEntry = s.protEntry ∧ (s.syncFlash sd).logs = s.logs := ⟨rfl, rfl⟩

theorem State.rd_op_syncFlash (s : State) (sd : Side) :
    (s.syncFlash sd).rd (R.FLASHC.STATUS.OP sd) = s.opCode sd % 8 := by
  have armed : (R.FLASHC.STATUS.ARMED sd).key ≠ (R.FLASHC.STATUS.OP sd).key := by cases sd <;> decide
  rw [State.syncFlash, State.wrBool_eq, State.rd_wr_ne _ _ armed, State.rd_wr_self]
  rfl

theorem State.opCode_entry {s : State} (idle : s.appFlash = none) (entry : s.protEntry.isSome = true) : s.opCode .app = 3 := by
  simp [State.opCode, State.flashOp, Side.pick, idle, entry]

/-- The bits of STATUS that show the contexts of CMACE (R582). -/
def contextFlags : List Fld :=
  [R.CMACE.STATUS.BUSY, R.CMACE.STATUS.QUEUED, R.CMACE.STATUS.SUSP, R.CMACE.STATUS.URG_BUSY, R.CMACE.STATUS.BG_OWNER]

theorem State.syncCmac_fields (s : State) : SameFields contextFlags s s.syncCmac :=
  (((((SameFields.refl _ s).wr _ (by decide)).wr _ (by decide)).wr _ (by decide)).wr _ (by decide)).wr _ (by decide)

theorem State.rd_urgBusy_syncCmac (s : State) : s.syncCmac.rd R.CMACE.STATUS.URG_BUSY = b2n (!s.cmac.urgent.isEmpty) := by
  rw [State.syncCmac, State.rd_wr_ne _ _ (by decide), State.rd_wrBool_self _ _ (by decide)]

theorem State.setContexts_fields (s : State) (bg urg : List CmacJob) (susp : Bool) :
    SameFields contextFlags s (s.setContexts bg urg susp) :=
  ((SameFields.refl _ s).of_regs
    (u := { s with cmac := { s.cmac with background := bg, urgent := urg, suspended := susp } }) rfl).trans
    (State.syncCmac_fields _)

theorem State.submitEngine_fields (s : State) (user op : Nat) : SameFields contextFlags s (s.submitEngine user op) :=
  .ite (s.setContexts_fields _ _ _) (s.setContexts_fields _ _ _)

theorem State.rd_urgBusy_submitEngine (s : State) {user : Nat} (op : Nat) (urgent : isUrgent user = true) :
    (s.submitEngine user op).rd R.CMACE.STATUS.URG_BUSY = 1 := by
  rw [State.submitEngine, if_pos urgent, State.setContexts, State.rd_urgBusy_syncCmac]
  simp [b2n]

/-- The flags that show the fuse programmer at work (R249). -/
def burnFlags : List Fld := [R.FLASHC.ARB_STATUS.BURN, R.MPWR.ARB2.BURN, R.MPWR.SEAL_STATUS.BURN]

theorem State.syncBurn_fields (s : State) : SameFields burnFlags s s.syncBurn :=
  (((SameFields.refl _ s).wr _ (by decide)).wr _ (by decide)).wr _ (by decide)

theorem State.rd_burn_syncBurn (s : State) : s.syncBurn.rd R.FLASHC.ARB_STATUS.BURN = b2n (!s.burns.isEmpty) := by
  rw [State.syncBurn, State.wrBool_eq, State.rd_wr_ne _ _ (by decide), State.wrBool_eq, State.rd_wr_ne _ _ (by decide),
    State.rd_wrBool_self _ _ (by decide)]

@[simp] theorem State.queueBurns_burns (s : State) (l : List Burn) : (s.queueBurns l).burns = s.burns ++ l := rfl

@[simp] theorem State.queueBurns_otp (s : State) (l : List Burn) : (s.queueBurns l).otp = s.otp := rfl

theorem State.queueBurns_fields (s : State) (l : List Burn) : SameFields burnFlags s (s.queueBurns l) :=
  ((SameFields.refl _ s).of_regs (u := { s with burns := s.burns ++ l }) rfl).trans (State.syncBurn_fields _)

/-- The fields of SEAL_STATUS that give the fuses (R267). -/
def sealFuseFields : List Fld := [R.MPWR.SEAL_STATUS.CYCLE, R.MPWR.SEAL_STATUS.REMAIN, R.MPWR.SEAL_STATUS.SPLIT]

theorem State.syncSeal_fields (s : State) : SameFields sealFuseFields s s.syncSeal :=
  (((SameFields.refl _ s).wr _ (by decide)).wr _ (by decide)).wr _ (by decide)

end Sys2Proof.Machine
end

section
/-! SUPPORT. The fields that the arrival of a wake cause may write (R116 to R118). -/

namespace Sys2Proof.Machine

open Sys2Proof

/-- The list of causes of a side. -/
def causeFields (sd : Side) : List Fld :=
  [R.PWR.WAKE_CAUSE.C0 sd, R.PWR.WAKE_CAUSE.C1 sd, R.PWR.WAKE_CAUSE.C2 sd, R.PWR.WAKE_CAUSE.C3 sd, R.PWR.WAKE_CAUSE.COUNT sd,
    R.PWR.WAKE_CAUSE.MORE sd, R.PWR.WAKE_CAUSE.FROM sd]

/-- The demand that a wake raises, with the watchdog of a core that leaves its WFI. -/
def demandFields : List Fld := [R.MPWR.MCTL.RUN, R.AON.WDT.REMAIN, R.MPWR.WDT.REMAIN]

def wakeFields (sd : Side) : List Fld :=
  causeFields sd ++ R.UART.STATUS.WOKE 0 :: demandFields ++ modeFields ++ logFields

theorem wakeSlot_mem (sd : Side) (n : Nat) : wakeSlot sd n ∈ causeFields sd := by
  match n with
  | 0 | 1 | 2 | _ + 3 => simp [wakeSlot, causeFields]

theorem State.listCause_fields (s : State) (sd : Side) (c : Nat) :
    SameFields (causeFields sd ++ logFields) s (s.listCause sd c) := by
  have listed : ∀ f ∈ causeFields sd, f ∈ causeFields sd ++ logFields := fun _ => List.mem_append_left _
  have count : R.PWR.WAKE_CAUSE.COUNT sd ∈ causeFields sd := by simp [causeFields]
  have more : R.PWR.WAKE_CAUSE.MORE sd ∈ causeFields sd := by simp [causeFields]
  have origin : R.PWR.WAKE_CAUSE.FROM sd ∈ causeFields sd := by simp [causeFields]
  have same := SameFields.refl (causeFields sd ++ logFields) s
  have overflown : SameFields (causeFields sd ++ logFields) s ((s.raise (R.PWR.WAKE_CAUSE.MORE sd)).log 0x0121 []) :=
    (same.wr 1 (listed _ more)).trans ((State.log_fields _ _ _).mono fun _ => List.mem_append_right _)
  have taken := (same.wr c (listed _ (wakeSlot_mem sd (s.rd (R.PWR.WAKE_CAUSE.COUNT sd))))).wr
    (s.rd (R.PWR.WAKE_CAUSE.COUNT sd) + 1) (listed _ count)
  exact same.ite (.ite (same.ite overflown) (.ite (taken.wr _ (listed _ origin)) taken))

theorem State.raiseDemand_fields (s : State) (sd : Side) : SameFields demandFields s (s.raiseDemand sd) := by
  cases sd with
  | app =>
    let s1 : State :=
      { s with power := { s.power with acoreRuns := s.power.acoreRuns || !s.power.acoreHeld, acoreWfi := false } }
    have demanded : SameFields demandFields s s1 := (SameFields.refl _ s).of_regs rfl
    exact .ite (demanded.wr _ (by decide)) demanded
  | met =>
    let s1 := ({ s with power := { s.power with mcoreWfi := false } } : State).raise R.MPWR.MCTL.RUN
    have demanded : SameFields demandFields s s1 := SameFields.wr ((SameFields.refl _ s).of_regs rfl) 1 (by decide)
    exact .ite (demanded.wr _ (by decide)) demanded

@[simp] theorem State.startExit_regs (s : State) (d : Dom) : (s.startExit d).regs = s.regs := by
  simp only [State.startExit]
  split <;> simp

theorem State.wake_fields (s : State) (sd : Side) (c : Nat) : SameFields (wakeFields sd) s (s.wake sd c) := by
  have same := SameFields.refl (wakeFields sd) s
  have woken : SameFields (wakeFields sd) s (s.raise (R.UART.STATUS.WOKE 0)) := same.wr 1 (by simp [wakeFields])
  have listed (t : State) : SameFields (wakeFields sd) t (t.listCause sd c) :=
    (t.listCause_fields sd c).mono fun f hf => by
      rcases List.mem_append.1 hf with cause | log
      · simp [wakeFields, cause]
      · simp [wakeFields, log]
  have demanded (t : State) : SameFields (wakeFields sd) t (t.raiseDemand sd) :=
    (t.raiseDemand_fields sd).mono fun f hf => by simp [wakeFields, hf]
  have shown (t : State) : SameFields (wakeFields sd) t t.updateMode :=
    t.updateMode_fields.mono fun f hf => by simp [wakeFields, hf]
  have arrived {t : State} (h : SameFields (wakeFields sd) s t) :
      SameFields (wakeFields sd) s ((t.listCause sd c).raiseDemand sd) := (h.trans (listed t)).trans (demanded _)
  have reached := arrived (.ite (p := c = 0xD ∧ sd = .app ∧ s.power.app.st = .retained) woken same)
  exact same.ite (.ite (same.of_regs (by simp)) (.trans
    (.ite (reached.of_regs (by simp)) (.ite (reached.of_regs (by simp)) reached)) (shown _)))

end Sys2Proof.Machine
end

section
/-! SUPPORT. A protection entry and a relock (R258 to R262). -/

namespace Sys2Proof.Machine

open Sys2Proof

/-! ### Write 5 of an entry, and its check -/

theorem State.startEntry_protEntry (s : State) (req mask : Nat) : (s.startEntry req mask).protEntry = some (req, mask) := rfl

theorem State.startEntry_urgent (s : State) (req mask : Nat) :
    (s.startEntry req mask).cmac.urgent = s.cmac.urgent ++ [engineJob 5 1] := rfl

/-- An entry shows in STATUS of FLASHC and of CMACE alone. -/
theorem State.startEntry_fields (s : State) (req mask : Nat) :
    SameFields (contextFlags ++ flashShown .app) s (s.startEntry req mask) := by
  let s1 : State := { s with protEntry := some (req, mask) }
  have taken : SameFields contextFlags s s1 := (SameFields.refl _ s).of_regs rfl
  exact ((taken.trans (s1.submitEngine_fields 5 1)).mono fun _ => List.mem_append_left _).trans
    (((s1.submitEngine 5 1).syncFlash_fields .app).mono fun _ => List.mem_append_right _)

theorem State.rd_op_startEntry {s : State} (req mask : Nat) (idle : s.appFlash = none) :
    (s.startEntry req mask).rd (R.FLASHC.STATUS.OP .app) = 3 := by
  have entry := State.opCode_entry (s := ({ s with protEntry := some (req, mask) } : State).submitEngine 5 1) idle rfl
  rw [State.startEntry, State.rd_op_syncFlash, entry]

theorem State.rd_urgBusy_startEntry (s : State) (req mask : Nat) :
    (s.startEntry req mask).rd R.CMACE.STATUS.URG_BUSY = 1 := by
  rw [State.startEntry, (State.syncFlash_fields _ .app) _ (by decide), State.rd_urgBusy_submitEngine _ _ rfl]

/-- The sequences that write 5 of an entry leaves (R259). -/
def State.endEntrySequence (s : State) (req : Nat) : State :=
  { s with flashSeqs := s.flashSeqs.filter (fun q => !(q.req == req && q.cmd == 0x44 && q.arr != 3)) }

/-- The command, where APP is On and no entry is checked. -/
theorem exec_protectionEntry_of_free {req mask : Nat} {s : State} (on : s.power.app.st = .on) (free : s.protEntry = none) :
    exec (.protectionEntry req mask) s = .next ((s.endEntrySequence req).startEntry req (mask % 512)) :=
  if_neg (by simp [on, free])

/-! ### What an entry lifts -/

/-- The state in which a lifting is logged. -/
def State.liftShown (s : State) (mask : Nat) : State :=
  ((s.wr R.FLASHC.PROT_STATUS.LIFTED (s.rd R.FLASHC.PROT_STATUS.LIFTED ||| (mask % 512))).ownCopies 3 1).raise
    R.FLASHC.PROT_STATUS.LIFT_OK

theorem State.lift_eq (s : State) (mask : Nat) : s.lift mask = (s.liftShown mask).log 0x0730 [] := rfl

theorem State.liftShown_fields (s : State) (mask : Nat) :
    SameFields [R.FLASHC.PROT_STATUS.LIFTED, R.FLASHC.PROT_STATUS.LIFT_OK] s (s.liftShown mask) :=
  SameFields.wr (SameFields.of_regs ((SameFields.refl _ s).wr _ (by decide)) (u := State.ownCopies _ 3 1) rfl) 1 (by decide)

theorem State.rd_lifted_lift (s : State) (mask : Nat) :
    (s.lift mask).rd R.FLASHC.PROT_STATUS.LIFTED = (s.rd R.FLASHC.PROT_STATUS.LIFTED ||| (mask % 512)) % 512 := by
  rw [State.lift_eq, (State.log_fields _ _ _) _ (by decide), State.liftShown, State.raise_eq, State.rd_wr_ne _ _ (by decide)]
  exact State.rd_wr_self s _ _

theorem State.rd_liftOk_lift (s : State) (mask : Nat) : (s.lift mask).rd R.FLASHC.PROT_STATUS.LIFT_OK = 1 := by
  rw [State.lift_eq, (State.log_fields _ _ _) _ (by decide), State.liftShown, State.rd_raise_self _ (by decide)]

theorem State.lift_logged (s : State) (mask : Nat) : Logged s (s.lift mask) 0x0730 [] :=
  (State.log_logged (s.liftShown mask) _ _).of_same rfl (s.liftShown_fields mask _ (by decide)) rfl

theorem State.lift_protEntry (s : State) (mask : Nat) : (s.lift mask).protEntry = s.protEntry :=
  (congrArg State.protEntry (State.log_rest (s.liftShown mask) 0x0730 []) :)

/-! ### PW0 to PW3 -/

@[simp] theorem State.clearPassword_keeps (s : State) :
    s.clearPassword.protEntry = s.protEntry ∧ s.clearPassword.logs = s.logs := ⟨rfl, rfl⟩

theorem State.clearPassword_fields (s : State) :
    SameFields ((List.range 4).map R.FLASHC.PW.PW) s s.clearPassword :=
  ((((SameFields.refl _ s).wr _ (by decide)).wr _ (by decide)).wr _ (by decide)).wr _ (by decide)

theorem State.rd_pw_clearPassword (s : State) : ∀ n ∈ List.range 4, s.clearPassword.rd (R.FLASHC.PW.PW n) = 0 := by
  simp (disch := decide) [State.clearPassword, forEach, List.range_succ, State.clear_eq, State.rd_wr_ne]

/-! ### The end of the check -/

/-- What follows the outcome of a check. -/
def State.entryClosed (s : State) : State := (s.clearPassword.syncFlash .app).done 0

theorem State.entryClosed_keeps (s : State) : s.entryClosed.protEntry = s.protEntry ∧ s.entryClosed.logs = s.logs := by
  simp [State.entryClosed]

/-- After PW0 to PW3 only the bits that show the operation are written. -/
theorem State.entryClosed_fields_of_cleared (s : State) : SameFields (flashShown .app) s.clearPassword s.entryClosed :=
  (s.clearPassword.syncFlash_fields .app).of_regs (by simp [State.entryClosed])

theorem State.entryClosed_fields (s : State) :
    SameFields ((List.range 4).map R.FLASHC.PW.PW ++ flashShown .app) s s.entryClosed :=
  (s.clearPassword_fields.mono fun _ => List.mem_append_left _).trans
    (s.entryClosed_fields_of_cleared.mono fun _ => List.mem_append_right _)

theorem State.rd_pw_entryClosed (s : State) {n : Nat} (hn : n ∈ List.range 4) : s.entryClosed.rd (R.FLASHC.PW.PW n) = 0 := by
  have word : ∀ n ∈ List.range 4, (R.FLASHC.PW.PW n).key ∉ (flashShown .app).map Fld.key := by decide
  exact (s.entryClosed_fields_of_cleared _ (word n hn)).trans (s.rd_pw_clearPassword n hn)

/-- The check passes where no password is stored, with no lockout and the map whole. -/
theorem State.protectionCheck_of_tagBlank {s : State} (mask : Nat) (pw : List Nat)
    (lockout : s.flag R.FLASHC.PROT_STATUS.LOCKOUT = false) (lost : s.flag R.FLASHC.PROT_STATUS.MAP_LOST = false)
    (blank : s.tagBlank = true) : s.protectionCheck mask pw = s.lift mask := by
  simp [State.protectionCheck, lockout, lost, blank]

/-- The state with no entry in its check. -/
def State.withoutEntry (s : State) : State := { s with protEntry := none }

theorem State.endEntry_of_tagBlank {s : State} {req mask : Nat} (entry : s.protEntry = some (req, mask))
    (lockout : s.flag R.FLASHC.PROT_STATUS.LOCKOUT = false) (lost : s.flag R.FLASHC.PROT_STATUS.MAP_LOST = false)
    (blank : s.tagBlank = true) : s.endEntry = (s.withoutEntry.lift mask).entryClosed := by
  have passed := State.protectionCheck_of_tagBlank (s := s.withoutEntry) mask s.withoutEntry.password lockout lost blank
  simp only [State.endEntry, entry]
  exact congrArg State.entryClosed passed

/-! ### A relock -/

/-- The state in which a relock is logged. -/
def State.relockShown (s : State) (mask : Nat) : State :=
  (s.wr R.FLASHC.PROT_STATUS.LIFTED (clearBits (s.rd R.FLASHC.PROT_STATUS.LIFTED) (mask % 512))).ownCopies 3 1

theorem exec_protRelock_of_key {mask : Nat} {s : State} (on : s.power.app.st = .on) :
    exec (.protRelock mask 0xD2) s = .next ((s.relockShown mask).log 0x0733 []) :=
  if_pos ⟨rfl, on⟩

theorem State.relockShown_fields (s : State) (mask : Nat) :
    SameFields [R.FLASHC.PROT_STATUS.LIFTED] s (s.relockShown mask) :=
  ((SameFields.refl _ s).wr _ (by decide)).of_regs rfl

theorem State.rd_lifted_relockShown {s : State} (mask : Nat) (h : s.rd R.FLASHC.PROT_STATUS.LIFTED < 512) :
    (s.relockShown mask).rd R.FLASHC.PROT_STATUS.LIFTED = clearBits (s.rd R.FLASHC.PROT_STATUS.LIFTED) (mask % 512) :=
  s.rd_wr_of_lt (f := R.FLASHC.PROT_STATUS.LIFTED) (Nat.lt_of_le_of_lt (Nat.sub_le _ _) h)

end Sys2Proof.Machine
end

section
/-! SUPPORT. Advances of the counters and the burns of the fuse programmer (R249, R253 to R255), and what they leave. -/

namespace Sys2Proof.Machine

open Sys2Proof

theorem putLogs_ite {s t u : State} {p : Prop} [Decidable p] (ht : putLogs s t = s) (hu : putLogs s u = s) :
    putLogs s (if p then t else u) = s := by
  split
  · exact ht
  · exact hu

/-! ### Advances -/

theorem exec_arbAdvance_of_free {sd : Side} {key idx target : Nat} {s : State} (powered : s.railPowered sd = true)
    (free : s.awaitsBurn sd 1 = false) : exec (.arbAdvance sd key idx target) s = .next (s.advanceArb sd 1 key idx target) :=
  if_pos (by simp [powered, free])

theorem State.advanceArb_of_wrong_key {s : State} {sd : Side} {key : Nat} (req idx target : Nat) (wrong : key ≠ 0x9B) :
    s.advanceArb sd req key idx target = s.refuseAdvance (sd.pick idx 2) :=
  if_pos (.inl wrong)

/-- An advance of counter 0 or 1 that is not refused and has an effect. -/
theorem State.advanceArb_app {s : State} {req idx target : Nat} (counter : idx < 2) (range : target ≤ 64)
    (record : idx = 0 → target ≤ s.rd R.AON.BOOT_STATUS.ROLLBACK) (ahead : s.arb idx < target) :
    s.advanceArb .app req 0x9B idx target = s.queueBurns (advanceBurns .app req idx (s.arb idx) target) := by
  have accepted : ¬((0x9B : Nat) ≠ 0x9B ∨ (Side.app = .app ∧ idx ≥ 2) ∨ target > 64 ∨
      (idx = 0 ∧ target > s.rd R.AON.BOOT_STATUS.ROLLBACK)) := by
    rintro (key | ⟨-, high⟩ | far | ⟨zero, beyond⟩)
    · exact key rfl
    · exact Nat.not_lt_of_le high counter
    · exact Nat.not_le_of_lt far range
    · exact Nat.not_le_of_lt beyond (record zero)
  exact (if_neg accepted).trans (if_neg (Nat.not_le_of_lt ahead))

/-- A refusal shows in registers and in the logs alone. -/
theorem State.refuseAdvance_rest (s : State) (i : Nat) : putLogs s (s.refuseAdvance i) = s := by
  have refused (f : Fld) : putLogs s (s.raise f) = s := rfl
  have both (f g : Fld) : putLogs s ((s.raise f).raise g) = s := rfl
  unfold State.refuseAdvance
  exact putLogs_ite (putLogs_trans (both _ _) (State.logMet_rest _ _ _)) (putLogs_trans (refused _) (State.log_rest _ _ _))

theorem State.refuseAdvance_burns (s : State) (i : Nat) : (s.refuseAdvance i).burns = s.burns :=
  (congrArg State.burns (s.refuseAdvance_rest i) :)

theorem State.refuseAdvance_otp (s : State) (i : Nat) : (s.refuseAdvance i).otp = s.otp :=
  (congrArg State.otp (s.refuseAdvance_rest i) :)

theorem State.rd_refused_refuseAdvance (s : State) (i : Nat) :
    (s.refuseAdvance i).rd R.FLASHC.ARB_STATUS.REFUSED = 1 := by
  simp only [State.refuseAdvance]
  split
  · rw [(State.logMet_fields _ _ _) _ (by decide), State.raise_eq, State.rd_wr_ne _ _ (by decide),
      State.rd_raise_self _ (by decide)]
  · rw [(State.log_fields _ _ _) _ (by decide), State.rd_raise_self _ (by decide)]

theorem advanceBurns_ne_nil {sd : Side} {req i v target : Nat} (ahead : v < target) :
    advanceBurns sd req i v target ≠ [] := by
  simpa [advanceBurns] using Nat.sub_ne_zero_of_lt ahead

/-! ### The end of a burn -/

theorem exec_fuseBurnDone_of_awake {split : Bool} {s : State} (held1 : s.resetHold ≠ 1) (held3 : s.resetHold ≠ 3)
    (ship : s.power.ship = false) : exec (.fuseBurnDone split) s = .next (s.burnDone split) :=
  if_neg (by simp [held1, held3, ship])

/-- The state from which the fuse programmer goes on with the burns that remain. -/
def State.nextBurn (s : State) (r : List Burn) : State := ({ s with burns := r } : State).syncBurn

@[simp] theorem State.nextBurn_burns (s : State) (r : List Burn) : (s.nextBurn r).burns = r := rfl

@[simp] theorem State.nextBurn_otp (s : State) (r : List Burn) : (s.nextBurn r).otp = s.otp := rfl

theorem State.nextBurn_fields (s : State) (r : List Burn) : SameFields burnFlags s (s.nextBurn r) :=
  ((SameFields.refl _ s).of_regs (u := { s with burns := r }) rfl).trans (State.syncBurn_fields _)

theorem State.burnDone_counter {s : State} {b : Burn} {r : List Burn} (front : s.burns = b :: r) (counter : b.item ≠ 3) :
    s.burnDone false = ((s.nextBurn r).stepBlown b).burnAnswered b := by
  simp [State.burnDone, State.nextBurn, front, counter]

theorem State.burnDone_seal {s : State} {b : Burn} {r : List Burn} (front : s.burns = b :: r) (ofSeal : b.item = 3) :
    s.burnDone false = ((s.nextBurn r).sealBlown b 2).burnAnswered b := by
  simp [State.burnDone, State.nextBurn, front, ofSeal]

@[simp] theorem State.burnAnswered_keeps (s : State) (b : Burn) :
    (s.burnAnswered b).regs = s.regs ∧ (s.burnAnswered b).logs = s.logs ∧ (s.burnAnswered b).otp = s.otp ∧
    (s.burnAnswered b).burns = s.burns := by
  unfold State.burnAnswered
  split <;> simp

/-- The state in which a step of a counter has been blown. -/
def State.arbStepped (s : State) (b : Burn) : State :=
  ({ s with otp := { s.otp with arb := s.otp.arb.set b.item (max (s.arb b.item) (b.pair + 1)) } } : State).syncArb

theorem State.logArb_rest (s : State) (i code : Nat) (data : List Nat) : putLogs s (s.logArb i code data) = s :=
  putLogs_ite (State.logMet_rest _ _ _) (State.log_rest _ _ _)

/-- Beside the value, a step shows in registers and in the logs. -/
theorem State.stepBlown_rest (s : State) (b : Burn) : putLogs (s.arbStepped b) (s.stepBlown b) = s.arbStepped b := by
  have raised {t : State} (f : Fld) (h : putLogs (s.arbStepped b) t = s.arbStepped b) :
      putLogs (s.arbStepped b) (t.raise f) = s.arbStepped b := h
  have advanced : putLogs (s.arbStepped b) (if b.last then (s.arbStepped b).logArb b.item 0x0740
      [b.item, b.before, max (s.arb b.item) (b.pair + 1)] else s.arbStepped b) = s.arbStepped b :=
    putLogs_ite (State.logArb_rest _ _ _ _) rfl
  have saturated := raised R.FLASHC.ARB_STATUS.SAT advanced
  unfold State.stepBlown
  exact putLogs_ite (putLogs_trans (putLogs_ite (raised R.MPWR.ARB2.SAT saturated) saturated)
    (State.logArb_rest _ _ _ _)) advanced

theorem State.arb_arbStepped {s : State} {b : Burn} (h : b.item < s.otp.arb.length) :
    (s.arbStepped b).arb b.item = max (s.arb b.item) (b.pair + 1) := by
  change (s.otp.arb.set b.item _).getD b.item 0 = _
  simp [List.getD, h]

theorem State.arb_stepBlown {s : State} {b : Burn} (h : b.item < s.otp.arb.length) :
    (s.stepBlown b).arb b.item = max (s.arb b.item) (b.pair + 1) := by
  have fuses : (s.stepBlown b).otp = (s.arbStepped b).otp := (congrArg State.otp (s.stepBlown_rest b) :)
  rw [State.arb, fuses]
  exact State.arb_arbStepped h

@[simp] theorem State.stepBlown_burns (s : State) (b : Burn) : (s.stepBlown b).burns = s.burns :=
  (congrArg State.burns (s.stepBlown_rest b) :)

end Sys2Proof.Machine
end

section
/-! SUPPORT. The seal: the burn that sets it, the switch that breaks it and the commands (R267 to R270, R274). -/

namespace Sys2Proof.Machine

open Sys2Proof

/-! ### S_k blown -/

/-- The state in which the blowing of S_k is logged. -/
def State.sealSetShown (s : State) (k f : Nat) : State :=
  (({ s with otp := { s.otp with sealS := s.otp.sealS.set k f } } : State).syncSeal.wr R.MPWR.SEAL_STATUS.STATE 1).ownCopies 2 0

/-- The end of the burn of S_k. -/
theorem State.burnDone_sealSet {s : State} {b : Burn} {r : List Burn} {k : Nat} (front : s.burns = b :: r)
    (ofSeal : b.item = 3) (pair : b.pair = 2 * k) :
    s.burnDone false = (((s.nextBurn r).sealSetShown k 2).logMet (if b.reseal then 0x0722 else 0x0720) []).burnAnswered b := by
  have even : b.pair % 2 = 0 := by omega
  have half : b.pair / 2 = k := by omega
  rw [State.burnDone_seal front ofSeal, State.sealBlown, if_pos even, half]
  rfl

theorem State.sealSetShown_fields (s : State) (k f : Nat) :
    SameFields (R.MPWR.SEAL_STATUS.STATE :: sealFuseFields) s (s.sealSetShown k f) := by
  let s1 : State := { s with otp := { s.otp with sealS := s.otp.sealS.set k f } }
  have blown : SameFields sealFuseFields s s1 := (SameFields.refl _ s).of_regs rfl
  have shown := (blown.trans s1.syncSeal_fields).mono fun _ => List.mem_cons_of_mem R.MPWR.SEAL_STATUS.STATE
  exact (shown.wr 1 List.mem_cons_self).of_regs rfl

@[simp] theorem State.sealSetShown_burns (s : State) (k f : Nat) : (s.sealSetShown k f).burns = s.burns := rfl

theorem State.rd_state_sealSetShown (s : State) (k f : Nat) : (s.sealSetShown k f).rd R.MPWR.SEAL_STATUS.STATE = 1 :=
  State.rd_wr_self _ R.MPWR.SEAL_STATUS.STATE 1

theorem State.sealS_sealSetShown {s : State} {k : Nat} (f : Nat) (h : k < s.otp.sealS.length) :
    (s.sealSetShown k f).otp.sealS.getD k 0 = f := by
  change (s.otp.sealS.set k f).getD k 0 = f
  simp [h]

/-! ### The switch -/

/-- The level of the switch shown, as a debounced sample gives it. -/
def State.sealswShown (s : State) (level : Bool) : State :=
  (s.wrBool R.MPWR.SEAL_STATUS.SW level).raise R.MPWR.SEAL_STATUS.SW_VALID

theorem State.sealswShown_fields (s : State) (level : Bool) :
    SameFields [R.MPWR.SEAL_STATUS.SW, R.MPWR.SEAL_STATUS.SW_VALID] s (s.sealswShown level) :=
  ((SameFields.refl _ s).wr _ (by decide)).wr _ (by decide)

theorem State.rd_sw_sealswShown (s : State) (level : Bool) :
    (s.sealswShown level).rd R.MPWR.SEAL_STATUS.SW = b2n level := by
  rw [State.sealswShown, State.raise_eq, State.rd_wr_ne _ _ (by decide), State.rd_wrBool_self _ _ (by decide)]

theorem State.rd_swValid_sealswShown (s : State) (level : Bool) :
    (s.sealswShown level).rd R.MPWR.SEAL_STATUS.SW_VALID = 1 := by
  rw [State.sealswShown, State.rd_raise_self _ (by decide)]

/-- A change shows the level, may wake MET, and the seal is checked. -/
theorem exec_sealswChange_of_awake {level : Bool} {s : State} (ship : s.power.ship = false) (awake : s.resetHold = 0)
    (variant : s.variant ≠ .c) :
    ∃ t, SameFields (wakeFields .met) (s.sealswShown level) t ∧ exec (.sealswChange level) s = .next t.sealCheck := by
  refine ⟨_, ?_, if_neg (by simp [ship, awake, variant])⟩
  exact .ite (State.wake_fields _ .met 9) (.refl _ _)

/-- The state in which the breaking of the seal is logged. -/
def State.brokenShown (s : State) : State :=
  ((s.wr R.MPWR.SEAL_STATUS.STATE 2).ownCopies 2 0).raise R.MPWR.SEAL_STATUS.BROKE

theorem State.rd_state_brokenShown (s : State) : s.brokenShown.rd R.MPWR.SEAL_STATUS.STATE = 2 := by
  rw [State.brokenShown, State.raise_eq, State.rd_wr_ne _ _ (by decide)]
  exact State.rd_wr_self s R.MPWR.SEAL_STATUS.STATE 2

theorem State.rd_broke_brokenShown (s : State) : s.brokenShown.rd R.MPWR.SEAL_STATUS.BROKE = 1 :=
  State.rd_raise_self _ (by decide)

/-- What follows the breaking of the seal: its event and the burn of B_k. -/
theorem State.breakSeal_fields (s : State) : SameFields (bothLogFields ++ burnFlags) s.brokenShown s.breakSeal :=
  ((State.logMet_fields _ _ _).mono fun _ => List.mem_append_left _).trans
    ((State.queueBurns_fields _ _).mono fun _ => List.mem_append_right _)

theorem State.sealCheck_fields (s : State) :
    SameFields ([R.MPWR.SEAL_STATUS.STATE, R.MPWR.SEAL_STATUS.BROKE] ++ (bothLogFields ++ burnFlags)) s s.sealCheck := by
  have shown : SameFields [R.MPWR.SEAL_STATUS.STATE, R.MPWR.SEAL_STATUS.BROKE] s s.brokenShown :=
    SameFields.wr (.of_regs ((SameFields.refl _ s).wr 2 (by decide)) (u := State.ownCopies _ 2 0) rfl) 1 (by decide)
  have broken := (shown.mono fun _ => List.mem_append_left _).trans
    (s.breakSeal_fields.mono fun _ => List.mem_append_right _)
  exact .ite broken (.refl _ s)

/-- The seal is broken where the switch is open while it is SEALED. -/
theorem State.sealCheck_of_open {s : State} (valid : s.rd R.MPWR.SEAL_STATUS.SW_VALID = 1)
    (opened : s.rd R.MPWR.SEAL_STATUS.SW = 0) (sealed : s.rd R.MPWR.SEAL_STATUS.STATE = 1) : s.sealCheck = s.breakSeal :=
  if_pos (by simp [State.flag, valid, opened, sealed])

/-! ### SEAL and RESEAL -/

/-- A command under its conditions queues the burn of the S pair after the highest blown. -/
theorem State.sealCommand_burns {s : State} {fromState : Nat} (reseal : Bool) (on : s.power.met.st = .on)
    (free : s.awaitsBurn .met 1 = false) (state : s.rd R.MPWR.SEAL_STATUS.STATE = fromState) (service : s.inService = true)
    (closed : s.flag R.MPWR.SEAL_STATUS.SW = true) (remain : 1 ≤ s.sealRemain) (level : s.level ≤ 4) :
    (s.sealCommand 0x5E fromState reseal).burns = s.burns ++
      [{ item := 3, pair := 2 * ((s.highestSeal.map (fun h => h + 1)).getD 0), before := 0, last := true, reseal := reseal
         sd := .met, req := 1 }] := by
  have taken : ¬(s.power.met.st ≠ .on ∨ (0x5E : Nat) ≠ 0x5E ∨ s.awaitsBurn .met 1 = true) := by simp [on, free]
  rw [State.sealCommand, if_neg taken, if_pos ⟨state, service, closed, remain, level⟩]
  cases s.highestSeal <;> rfl

end Sys2Proof.Machine
end

section
/-! PROOFS. The commands of protection, of the counters and of the seal (ch. 09). -/

namespace Sys2Proof.Machine

open Sys2Proof

/-- Settles O22, command by command: what each leaves is the state that its `exec_` lemma names, read through the fields that
the updates of that state may write. -/
theorem protectionCountersAndSeal : Obligations.ProtectionCountersAndSeal := by
  unfold Obligations.ProtectionCountersAndSeal
  refine ⟨?entry, ?checked, ?relock, ?advance, ?wrongKey, ?step, ?sealBurn, ?switch, ?set, ?reseal, ?lock⟩
  case entry =>
    intro req mask s on free
    let s1 := s.endEntrySequence req
    exact ⟨_, exec_protectionEntry_of_free on free, s1.startEntry_protEntry req _, s1.startEntry_urgent req _,
      fun idle => State.rd_op_startEntry (s := s1) req _ idle, s1.rd_urgBusy_startEntry req _,
      s1.startEntry_fields req _ _ (by decide)⟩
  case checked =>
    intro req mask s entry lockout lost blank
    let s1 := s.withoutEntry
    let t := s1.lift mask
    rw [State.endEntry_of_tagBlank entry lockout lost blank]
    obtain ⟨checked, logs⟩ := t.entryClosed_keeps
    exact ⟨checked.trans (s1.lift_protEntry mask),
      (t.entryClosed_fields _ (by decide)).trans (s1.rd_lifted_lift mask),
      (t.entryClosed_fields _ (by decide)).trans (s1.rd_liftOk_lift mask),
      fun n hn => t.rd_pw_entryClosed hn,
      (s1.lift_logged mask).of_same rfl rfl (congrArg Logs.sys logs)⟩
  case relock =>
    intro mask s range on
    refine ⟨_, exec_protRelock_of_key on, ?_, ?_⟩
    · rw [(State.log_fields _ _ _) _ (by decide), State.rd_lifted_relockShown mask range]
    · exact (State.log_logged (s.relockShown mask) _ _).of_same rfl (s.relockShown_fields mask _ (by decide)) rfl
  case advance =>
    intro idx target s counter range record ahead powered free
    have accepted := State.advanceArb_app (req := 1) counter range record ahead
    refine ⟨_, exec_arbAdvance_of_free powered free, ?_⟩
    rw [accepted]
    have burning : (s.burns ++ advanceBurns .app 1 idx (s.arb idx) target).isEmpty = false := by
      simp [advanceBurns_ne_nil ahead]
    refine ⟨s.queueBurns_burns _, ?_, s.queueBurns_otp _⟩
    rw [State.queueBurns, State.rd_burn_syncBurn, burning]
    rfl
  case wrongKey =>
    intro key idx target s wrong powered free
    refine ⟨_, exec_arbAdvance_of_free powered free, ?_⟩
    rw [State.advanceArb_of_wrong_key 1 idx target wrong]
    exact ⟨s.rd_refused_refuseAdvance _, s.refuseAdvance_burns _, s.refuseAdvance_otp _⟩
  case step =>
    intro b r s front counter fuses held1 held3 ship
    refine ⟨_, exec_fuseBurnDone_of_awake held1 held3 ship, ?_⟩
    rw [State.burnDone_counter front (by omega)]
    refine ⟨by simp, ?_⟩
    simpa [State.arb] using State.arb_stepBlown (s := s.nextBurn r) (b := b) (by simpa [fuses] using counter)
  case sealBurn =>
    intro k reseal r s front fuses pair held1 held3 ship
    let b : Burn := { item := 3, pair := 2 * k, before := 0, last := true, reseal := reseal, sd := .met, req := 1 }
    let u := (s.nextBurn r).sealSetShown k 2
    have shown := (u.logMet_fields (if reseal then 0x0722 else 0x0720) []).of_regs (State.burnAnswered_keeps _ b).1
    have time : u.utime = s.utime :=
      ((s.nextBurn r).sealSetShown_fields k 2 _ (by decide)).trans (s.nextBurn_fields r _ (by decide))
    refine ⟨_, exec_fuseBurnDone_of_awake held1 held3 ship, ?_⟩
    rw [State.burnDone_sealSet front rfl rfl]
    refine ⟨by simp, ?_, (shown _ (by decide)).trans (State.rd_state_sealSetShown _ _ _),
      (u.logMet_logged _ _).of_same rfl time (by simp [u])⟩
    simpa using State.sealS_sealSetShown (s := s.nextBurn r) 2 (by simpa [fuses] using pair)
  case switch =>
    intro level s ship awake variant
    obtain ⟨t, woken, shows⟩ := exec_sealswChange_of_awake (level := level) ship awake variant
    have sw : t.rd R.MPWR.SEAL_STATUS.SW = b2n level := (woken _ (by decide)).trans (s.rd_sw_sealswShown level)
    have valid : t.rd R.MPWR.SEAL_STATUS.SW_VALID = 1 := (woken _ (by decide)).trans (s.rd_swValid_sealswShown level)
    refine ⟨_, shows, (t.sealCheck_fields _ (by decide)).trans sw, (t.sealCheck_fields _ (by decide)).trans valid, ?_⟩
    rintro rfl sealed
    have still : t.rd R.MPWR.SEAL_STATUS.STATE = 1 :=
      ((woken _ (by decide)).trans (s.sealswShown_fields false _ (by decide))).trans sealed
    rw [State.sealCheck_of_open valid sw still]
    exact ⟨(t.breakSeal_fields _ (by decide)).trans t.rd_state_brokenShown,
      (t.breakSeal_fields _ (by decide)).trans t.rd_broke_brokenShown⟩
  case set =>
    intro s _ state service closed remain level on free
    exact ⟨_, rfl, State.sealCommand_burns false on free state service closed remain level⟩
  case reseal =>
    intro s _ state service closed remain level on free
    exact ⟨_, rfl, State.sealCommand_burns true on free state service closed remain level⟩
  case lock =>
    intro mask s on range
    have bits : s.rd R.MFLASHC.MPROT.LOCK ||| (mask % 32) < 2 ^ 5 :=
      Nat.or_lt_two_pow range (Nat.mod_lt _ (by decide))
    exact ⟨_, if_pos on, s.rd_wr_of_lt bits⟩

end Sys2Proof.Machine
end

section
/-! SUPPORT. Runs of bytes read and written one after another. -/

namespace Sys2Proof.Machine

open Sys2Proof

@[simp] theorem State.length_bytes (s : State) (a n : Nat) : (s.bytes a n).length = n := by
  induction n generalizing a with
  | zero => rfl
  | succ n ih => simp [State.bytes, ih]

theorem State.bytes_add (s : State) (a m n : Nat) : s.bytes a (m + n) = s.bytes a m ++ s.bytes (a + m) n := by
  induction m generalizing a with
  | zero => simp [State.bytes]
  | succ m ih => rw [Nat.add_right_comm m 1 n, State.bytes, State.bytes, ih, Nat.add_right_comm a 1 m]; rfl

theorem State.getD_bytes (s : State) (a : Nat) {i n : Nat} (h : i < n) : (s.bytes a n).getD i 0 = (s.byte (a + i)).toNat := by
  induction n generalizing a i with
  | zero => exact absurd h i.not_lt_zero
  | succ n ih =>
    cases i with
    | zero => rfl
    | succ i =>
      rw [State.bytes, List.getD_cons_succ, ih (a + 1) (Nat.lt_of_succ_lt_succ h), Nat.add_right_comm a 1 i]
      rfl

theorem State.setBytes_append (s : State) (a : Nat) (l m : List Nat) :
    s.setBytes a (l ++ m) = (s.setBytes a l).setBytes (a + l.length) m := by
  induction l generalizing s a with
  | nil => rfl
  | cons b l ih =>
    rw [List.cons_append, State.setBytes, State.setBytes, ih, List.length_cons, Nat.add_assoc a 1, Nat.add_comm 1]

/-- What is written outside a run of bytes leaves it. -/
theorem State.bytes_setBytes_outside (s : State) {a b n : Nat} {l : List Nat} (h : a + n ≤ b ∨ b + l.length ≤ a) :
    (s.setBytes b l).bytes a n = s.bytes a n := by
  induction n generalizing a with
  | zero => rfl
  | succ n ih => rw [State.bytes, State.bytes, ih (by omega), State.byte_setBytes_outside _ _ _ _ (by omega)]

/-- A byte copied to a memory that is not flash. -/
theorem State.byte_setBytes_bytes (s u : State) {a b i n : Nat} (h : i < n)
    (hr : ∀ j, j < n → (memRegion (b + j)).isSome = true) : (s.setBytes b (u.bytes a n)).byte (b + i) = u.byte (a + i) := by
  rw [State.byte_setBytes_inside _ _ _ _ (by simpa using h) (by simpa using hr), u.getD_bytes a h]
  simp

theorem SameMemory.trans {s t u : State} (h1 : SameMemory s t) (h2 : SameMemory t u) : SameMemory s u :=
  fun a => (h2 a).trans (h1 a)

end Sys2Proof.Machine
end

section
/-! SUPPORT. The slots of the Loft as CLAIM, GIVE and the other commands write them (Tables MET-5 and MET-10). -/

namespace Sys2Proof.Machine

open Sys2Proof

/-! ### One slot written -/

/-- The registers and the slots put back. -/
def putSlots (s t : State) : State := { t with regs := s.regs, slots := s.slots }

theorem State.lowerMin_rest (s : State) (sd : Side) : putRegs s (s.lowerMin sd) = s := by
  simp only [State.lowerMin]
  split <;> rfl

/-- A slot written shows in FREE_MIN and in nothing else. -/
theorem State.setSlot_rest (s : State) (n : Nat) (x : Slot) : putSlots s (s.setSlot n x) = s := by
  let s1 : State := { s with slots := s.slots.set n x }
  have lowered : putRegs s1 (s.setSlot n x) = s1 :=
    rest_trans (put := putRegs) (fun _ _ _ => rfl) (s1.lowerMin_rest .app) ((s1.lowerMin .app).lowerMin_rest .met)
  exact congrArg (fun t : State => { t with regs := s.regs, slots := s.slots }) lowered

@[simp] theorem State.setSlot_slots (s : State) (n : Nat) (x : Slot) : (s.setSlot n x).slots = s.slots.set n x := by
  simp [State.setSlot]

theorem State.slot_setSlot_self {s : State} {n : Nat} (x : Slot) (h : n < s.slots.length) : (s.setSlot n x).slot n = x := by
  simp [State.slot, h]

theorem State.setSlot_memory (s : State) (n : Nat) (x : Slot) : SameMemory s (s.setSlot n x) :=
  have rest := s.setSlot_rest n x
  .of_eq (congrArg State.mem rest :) (congrArg State.epochs rest :) (congrArg State.flashMarks rest :)

theorem State.setSlot_copy (s : State) (n : Nat) (x : Slot) : (s.setSlot n x).copy = s.copy :=
  (congrArg State.copy (s.setSlot_rest n x) :)

/-! ### A slot claimed -/

/-- The addresses of the buffer of slot `n`. -/
theorem mem_slot_of_memRegion {a n : Nat} (h : memRegion a = some (8 + n)) : slotAddr n ≤ a ∧ a < slotAddr n + 0x200 := by
  simp only [memRegion] at h
  unfold slotAddr
  (repeat' split at h) <;> simp only [Option.some.injEq, reduceCtorEq] at h <;> omega

theorem memRegion_slot {n i : Nat} (hn : n < 32) (hi : i < 0x200) : memRegion (slotAddr n + i) = some (8 + n) := by
  unfold memRegion slotAddr
  rw [if_neg (by omega), if_pos (by omega)]
  simp only [Option.some.injEq]
  omega

/-- A byte outside a region of memory that is lost reads as before. -/
theorem State.byte_loseRegion {s : State} {r lo hi a : Nat} (outside : a < lo ∨ hi ≤ a) (other : memRegion a ≠ some r) :
    (s.loseRegion r lo hi).byte a = s.byte a := by
  have kept : (!(decide (lo ≤ a) && decide (a < hi))) = true := by simp; omega
  have cells : Memory.find (s.loseRegion r lo hi).mem a = Memory.find s.mem a :=
    (Memory.find_filter s.mem (fun c => !(decide (lo ≤ c) && decide (c < hi))) a).trans (if_pos kept)
  simp only [State.byte, cells]
  cases region : memRegion a with
  | none => rfl
  | some q =>
    have ne : r ≠ q := fun e => other (e ▸ region)
    have epoch : (s.loseRegion r lo hi).epochs.count q = s.epochs.count q := by
      rw [State.loseRegion, RegFile.count, RegFile.find_put_ne _ _ ne]
      rfl
    simp only [epoch]

theorem State.loseSlot_memory (s : State) (n : Nat) : SameMemoryOutside (slotAddr n) 0x200 s (s.loseSlot n) := by
  intro a ha
  have other : memRegion a ≠ some (8 + n) := fun region => by
    have := mem_slot_of_memRegion region
    omega
  have outside : a < 0x21000000 + 0x200 * n ∨ 0x21000000 + 0x200 * (n + 1) ≤ a := by
    rwa [Nat.mul_add_one, ← Nat.add_assoc]
  exact State.byte_loseRegion outside other

@[simp] theorem State.takeSlot_slots (s : State) (party n : Nat) :
    (s.takeSlot party n).slots = s.slots.set n { emptySlot with owner := party } := by
  simp [State.takeSlot, State.loseSlot]

theorem State.slot_takeSlot {s : State} {n : Nat} (party : Nat) (h : n < s.slots.length) :
    (s.takeSlot party n).slot n = { emptySlot with owner := party } := by
  simp [State.slot, h]

/-- Of memory, a claim loses the buffer of its slot. -/
theorem State.takeSlot_memory (s : State) (party n : Nat) :
    SameMemoryOutside (slotAddr n) 0x200 s (s.takeSlot party n) := by
  let s1 := s.setSlot n { emptySlot with owner := party }
  have stale : SameMemory (s1.loseSlot n) (s.takeSlot party n) := .of_eq rfl rfl rfl
  intro a ha
  calc (s.takeSlot party n).byte a
    _ = (s1.loseSlot n).byte a := stale a
    _ = s1.byte a := s1.loseSlot_memory n a ha
    _ = s.byte a := s.setSlot_memory n _ a

theorem State.lowestFree_lt {s : State} {n : Nat} (h : s.lowestFree = some n) : n < 32 :=
  List.mem_range.1 (List.mem_of_find?_eq_some h)

/-! ### The result of a command -/

theorem State.cmdResult_fields (s : State) (sd : Side) (n r : Nat) :
    SameFields [R.LOFTC.CMD_STATUS.RESULT sd, R.LOFTC.CMD_STATUS.SLOT sd] s (s.cmdResult sd n r) :=
  ((SameFields.refl _ s).wr r (by simp)).wr n (by simp)

theorem State.rd_result_cmdResult (s : State) (sd : Side) (n : Nat) :
    (s.cmdResult sd n loftOk).rd (R.LOFTC.CMD_STATUS.RESULT sd) = loftOk := by
  have other : (R.LOFTC.CMD_STATUS.SLOT sd).key ≠ (R.LOFTC.CMD_STATUS.RESULT sd).key := by cases sd <;> decide
  rw [State.cmdResult, State.rd_wr_ne _ _ other]
  exact s.rd_wr_self _ _

theorem State.rd_slot_cmdResult (s : State) (sd : Side) {n : Nat} (r : Nat) (h : n < 32) :
    (s.cmdResult sd n r).rd (R.LOFTC.CMD_STATUS.SLOT sd) = n :=
  State.rd_wr_of_lt (f := R.LOFTC.CMD_STATUS.SLOT sd) _ h

@[simp] theorem State.cmdResult_copy (s : State) (sd : Side) (n r : Nat) : (s.cmdResult sd n r).copy = s.copy := rfl

theorem State.slot_cmdResult (s : State) (sd : Side) (n r m : Nat) : (s.cmdResult sd n r).slot m = s.slot m := rfl

theorem State.cmdResult_memory (s : State) (sd : Side) (n r : Nat) : SameMemory s (s.cmdResult sd n r) :=
  .of_eq rfl rfl rfl

/-- A command of a party that its side may act as, where the side is On. -/
theorem State.loftCommand_of_served {s : State} {sd : Side} {party : Nat} (slot : Nat) (f : Nat → State × Nat)
    (acts : actsAs sd party = true) (powered : s.railPowered sd = true) :
    s.loftCommand sd party slot f =
      .next ((f (actingParty sd party)).1.cmdResult sd slot (f (actingParty sd party)).2) := by
  simp [State.loftCommand, acts, powered]

/-! ### The commands that their conditions let through -/

theorem exec_claim_of_free {s : State} {sd : Side} {party slot : Nat} (acts : actsAs sd party = true)
    (powered : s.railPowered sd = true) (unowned : (s.slot (slot % 32)).owner = 0)
    (may : s.mayClaim (actingParty sd party) = true) :
    exec (.claim sd party slot) s =
      .next ((s.takeSlot (actingParty sd party) (slot % 32)).cmdResult sd (slot % 32) loftOk) := by
  have taken : s.claim (actingParty sd party) (slot % 32) = (s.takeSlot (actingParty sd party) (slot % 32), loftOk) := by
    simp [State.claim, unowned, may]
  change execClaim sd party slot s = _
  rw [execClaim, State.loftCommand_of_served _ _ acts powered, taken]

theorem exec_claimAny_of_free {s : State} {sd : Side} {party n : Nat} (acts : actsAs sd party = true)
    (powered : s.railPowered sd = true) (lowest : s.lowestFree = some n)
    (may : s.mayClaim (actingParty sd party) = true) :
    exec (.claimAny sd party) s = .next ((s.takeSlot (actingParty sd party) n).cmdResult sd n loftOk) := by
  change execClaimAny sd party s = _
  simp [execClaimAny, acts, powered, State.claimAny, lowest, may]

theorem exec_publish_of_owner {s : State} {sd : Side} {party slot : Nat} (len : Nat) (acts : actsAs sd party = true)
    (powered : s.railPowered sd = true) (owner : (s.slot (slot % 32)).owner = actingParty sd party)
    (named : actingParty sd party ≠ 0) :
    exec (.publish sd party slot len) s =
      .next ((s.setSlot (slot % 32) { s.slot (slot % 32) with publish := true, len := newLen (s.slot (slot % 32)).len len
        }).cmdResult sd (slot % 32) loftOk) := by
  change execPublish sd party slot len s = _
  rw [execPublish, State.loftCommand_of_served _ _ acts powered, State.publish, if_pos ⟨owner, named⟩]

end Sys2Proof.Machine
end

section
/-! SUPPORT. A command of the owner of a slot that meets a copy of that slot (R297): the words served before it stand. -/

namespace Sys2Proof.Machine

open Sys2Proof

/-! ### The words of a copy -/

/-- Memory put back. -/
def putMem (s t : State) : State := { t with mem := s.mem }

theorem State.setBytes_rest (s : State) (a : Nat) (l : List Nat) : putMem s (s.setBytes a l) = s := by
  rw [s.setBytes_only]
  rfl

/-- A copy moves words of memory and nothing else. -/
theorem State.copyWords_rest (s : State) (j : CopyJob) (i k : Nat) : putMem s (s.copyWords j i k).1 = s := by
  induction k generalizing s i with
  | zero => rfl
  | succ k ih =>
    unfold State.copyWords
    split
    · rfl
    · refine rest_trans (put := putMem) (fun _ _ _ => rfl) ?_ (ih _ _)
      split
      · exact s.setBytes_rest _ _
      · exact s.setBytes_rest _ _

/-- How many words have been served lies between those served before and those asked for. -/
theorem State.copyWords_served (s : State) (j : CopyJob) (i k : Nat) :
    i ≤ (s.copyWords j i k).2.1 ∧ (s.copyWords j i k).2.1 ≤ i + k := by
  induction k generalizing s i with
  | zero => exact ⟨i.le_refl, i.le_refl⟩
  | succ k ih =>
    unfold State.copyWords
    split
    · exact ⟨i.le_refl, i.le_add_right _⟩
    · obtain ⟨low, high⟩ := ih (if j.toSlot then s.setBytes (slotAddr j.slot + 4 * i) (s.bytes (j.sram + 4 * i) 4)
        else s.setBytes (j.sram + 4 * i) (s.bytes (slotAddr j.slot + 4 * i) 4)) (i + 1)
      exact ⟨Nat.le_of_succ_le low, Nat.le_trans high (by omega)⟩

/-! ### The meeting -/

/-- The state in which a command meets copy `j`, `w` words after those served before. -/
def State.metCopy (s : State) (j : CopyJob) (w : Nat) : State :=
  let r := s.fresh.2.copyWords j j.served w
  { r.1 with copy := some { j with served := r.2.1, fault := r.2.2 } }

/-- A command either meets no copy, or one at some word that is left of it. -/
theorem State.copyMeets_cases (s : State) (n : Nat) :
    s.copyMeets n = s ∨
      ∃ j, s.copy = some j ∧ ∃ w, w ≤ j.words - j.served ∧ s.copyMeets n = s.metCopy j w := by
  unfold State.copyMeets
  split
  · exact .inl rfl
  · next j copy =>
    have running : s.copy = some j := by
      split at copy
      · exact absurd copy (by simp)
      · exact copy
    split
    · exact .inl rfl
    · exact .inr ⟨j, running, _, Nat.le_of_lt_succ (Nat.mod_lt _ (Nat.succ_pos _)), rfl⟩

/-- Memory, the copy and the count of free values put back. -/
def putCopy (s t : State) : State := { t with mem := s.mem, freeCtr := s.freeCtr, copy := s.copy }

theorem State.metCopy_rest (s : State) (j : CopyJob) (w : Nat) : putCopy s (s.metCopy j w) = s :=
  congrArg (fun t : State => { t with freeCtr := s.freeCtr, copy := s.copy }) (s.fresh.2.copyWords_rest j j.served w)

theorem State.meets_rest (s : State) (party n : Nat) : putCopy s (s.meets party n) = s := by
  unfold State.meets
  split
  · rcases s.copyMeets_cases n with same | ⟨j, -, w, -, met⟩
    · rw [same]
      rfl
    · rw [met]
      exact s.metCopy_rest j w
  · rfl

@[simp] theorem State.meets_slots (s : State) (party n : Nat) : (s.meets party n).slots = s.slots :=
  (congrArg State.slots (s.meets_rest party n) :)

theorem State.slot_meets (s : State) (party n m : Nat) : (s.meets party n).slot m = s.slot m :=
  State.slot_congr (s.meets_slots party n) m

theorem State.hasParty_meets (s : State) (party n target : Nat) : (s.meets party n).hasParty target = s.hasParty target := by
  have variant : (s.meets party n).variant = s.variant := (congrArg State.variant (s.meets_rest party n) :)
  rw [State.hasParty, variant]
  rfl

theorem State.copyMeets_of_no_copy {s : State} (h : s.copy = none) (n : Nat) : s.copyMeets n = s := by
  rcases s.copyMeets_cases n with same | ⟨j, running, -⟩
  · exact same
  · exact absurd (h.symm.trans running) (by simp)

theorem State.meets_of_no_copy {s : State} (h : s.copy = none) (party n : Nat) : s.meets party n = s := by
  rw [State.meets, State.copyMeets_of_no_copy h, ite_self]

/-- The copy goes on with the words served so far. -/
theorem State.meets_copy {s : State} {j : CopyJob} (running : s.copy = some j) (range : j.served ≤ j.words) (party n : Nat) :
    ∃ k, (s.meets party n).copy = some k ∧ j.served ≤ k.served ∧ k.served ≤ j.words ∧ k.slot = j.slot ∧
      k.words = j.words := by
  have unmet : ∃ k, s.copy = some k ∧ j.served ≤ k.served ∧ k.served ≤ j.words ∧ k.slot = j.slot ∧ k.words = j.words :=
    ⟨j, running, Nat.le_refl _, range, rfl, rfl⟩
  unfold State.meets
  split
  · rcases s.copyMeets_cases n with same | ⟨i, found, w, left, met⟩
    · rwa [same]
    · obtain rfl : i = j := Option.some.inj (found.symm.trans running)
      obtain ⟨low, high⟩ := s.fresh.2.copyWords_served i i.served w
      rw [met]
      exact ⟨_, rfl, low, Nat.le_trans high (by omega), rfl, rfl⟩
  · exact unmet

/-! ### UNPUBLISH, FREE and GIVE -/

theorem exec_unpublish_of_owner {s : State} {sd : Side} {party slot : Nat} (acts : actsAs sd party = true)
    (powered : s.railPowered sd = true) (owner : (s.slot (slot % 32)).owner = actingParty sd party)
    (named : actingParty sd party ≠ 0) (thawed : (s.slot (slot % 32)).frozen = false) (still : s.copy = none) :
    exec (.unpublish sd party slot) s =
      .next ((s.setSlot (slot % 32) { s.slot (slot % 32) with publish := false }).cmdResult sd (slot % 32) loftOk) := by
  change execUnpublish sd party slot s = _
  rw [execUnpublish, State.loftCommand_of_served _ _ acts powered, State.meets_of_no_copy still]
  simp [State.unpublish, owner, named, thawed]

theorem exec_free_of_owner {s : State} {sd : Side} {party slot : Nat} (acts : actsAs sd party = true)
    (powered : s.railPowered sd = true) (owner : (s.slot (slot % 32)).owner = actingParty sd party) :
    exec (.free sd party slot) s =
      .next (((s.meets (actingParty sd party) (slot % 32)).setSlot (slot % 32) (s.slot (slot % 32)).freed).cmdResult sd
        (slot % 32) loftOk) := by
  have owns : ((s.meets (actingParty sd party) (slot % 32)).slot (slot % 32)).owner = actingParty sd party := by
    rw [State.slot_meets, owner]
  change execFree sd party slot s = _
  rw [execFree, State.loftCommand_of_served _ _ acts powered, State.free, if_pos owns, State.freeSlot,
    State.slot_meets, Slot.freed]

theorem exec_give_of_owner {s : State} {sd : Side} {party slot target : Nat} (len : Nat) (acts : actsAs sd party = true)
    (powered : s.railPowered sd = true) (owner : (s.slot (slot % 32)).owner = actingParty sd party)
    (named : actingParty sd party ≠ 0) (receiver : target ≠ 0) (other : target ≠ actingParty sd party)
    (present : s.hasParty target = true) :
    exec (.give sd party slot target len) s =
      .next ((((s.meets (actingParty sd party) (slot % 32)).setSlot (slot % 32) (handOver (s.slot (slot % 32)) target len)
        ).doorbell target (slot % 32)).cmdResult sd (slot % 32) loftOk) := by
  change execGive sd party slot target len s = _
  rw [execGive, State.loftCommand_of_served _ _ acts powered]
  simp [State.give, State.slot_meets, State.hasParty_meets, owner, named, receiver, other, present]

end Sys2Proof.Machine
end
section
/-! SUPPORT. The doorbell at a receiver (R286), and the wake that a bell or an alarm raises. -/

namespace Sys2Proof.Machine

open Sys2Proof

/-! ### What a wake leaves of the slots -/

@[simp] theorem State.listCause_slots (s : State) (sd : Side) (c : Nat) : (s.listCause sd c).slots = s.slots := by
  simp [State.listCause, apply_ite State.slots]

@[simp] theorem State.raiseDemand_slots (s : State) (sd : Side) : (s.raiseDemand sd).slots = s.slots := by
  cases sd <;> simp [State.raiseDemand, State.feedApp, State.feedMet, apply_ite State.slots]

@[simp] theorem State.wake_slots (s : State) (sd : Side) (c : Nat) : (s.wake sd c).slots = s.slots := by
  simp [State.wake, apply_ite State.slots]

/-! ### The bell -/

theorem bit_eq_testBit (v n : Nat) : bit v n = v.testBit n := by
  rw [bit, Nat.testBit_eq_decide_div_mod_eq]
  rfl

/-- A bit set in a field that has room for it reads as set, whatever the field held. -/
theorem State.rdBit_wrBit_true (s : State) {f : Fld} {n : Nat} (h : n < f.width) : (s.wrBit f n true).rdBit f n = true := by
  let v := s.rd f
  have low : 2 ^ n * b2n (bit v n) ≤ v := by
    unfold bit b2n
    split
    · next odd =>
      have : 1 ≤ v / 2 ^ n := Nat.one_le_iff_ne_zero.2 fun e => by simp [e] at odd
      simpa using (Nat.le_div_iff_mul_le (Nat.two_pow_pos n)).1 this
    · simp
  have quotient : (v - 2 ^ n * b2n (bit v n) + 2 ^ n * b2n true) / 2 ^ n = v / 2 ^ n - b2n (bit v n) + 1 := by
    rw [Nat.add_mul_div_left _ _ (Nat.two_pow_pos n), Nat.sub_mul_div_of_le _ _ _ low]
    rfl
  have odd : (v / 2 ^ n - b2n (bit v n) + 1) % 2 = 1 := by
    unfold bit b2n
    split
    · next set => simp at set; omega
    · next unset => simp at unset; omega
  rw [State.rdBit, State.wrBit_eq, State.rd_wr_self, bit_eq_testBit, Nat.testBit_mod_two_pow, ← bit_eq_testBit, bit,
    quotient, odd]
  simp [h]

theorem State.rdBit_ringBell (s : State) (sd : Side) {n : Nat} (h : n < 32) :
    (s.ringBell sd n).rdBit (R.LOFTC.BELL.BELL sd) n = true := by
  have bell : (R.LOFTC.BELL.BELL sd).key ∉ (wakeFields sd).map Fld.key := by cases sd <;> decide
  rw [State.rdBit, State.ringBell, State.wake_fields _ _ _ _ bell]
  exact s.rdBit_wrBit_true h

/-- A GIVE to a core rings its bell. -/
theorem State.rdBit_doorbell (s : State) {sd : Side} {target n : Nat} (core : target = sd.pick ownApp ownMet)
    (h : n < 32) : (s.doorbell target n).rdBit (R.LOFTC.BELL.BELL sd) n = true := by
  have rung : s.doorbell target n = s.ringBell sd n := by subst core; cases sd <;> rfl
  rw [rung, s.rdBit_ringBell sd h]

/-- A receiver other than DICT takes the slot as it is given. -/
theorem State.doorbell_slots (s : State) {target : Nat} (n : Nat) (h : target ≠ ownDict) :
    (s.doorbell target n).slots = s.slots := by
  simp [State.doorbell, h, State.ringBell, State.wrBit_eq, apply_ite State.slots]

/-- The result of a command is shown beside the bells. -/
theorem State.rdBit_bell_cmdResult (s : State) (sd d : Side) (n r m : Nat) :
    (s.cmdResult sd n r).rdBit (R.LOFTC.BELL.BELL d) m = s.rdBit (R.LOFTC.BELL.BELL d) m := by
  have bell : (R.LOFTC.BELL.BELL d).key ∉
      [R.LOFTC.CMD_STATUS.RESULT sd, R.LOFTC.CMD_STATUS.SLOT sd].map Fld.key := by
    cases sd <;> cases d <;> decide
  rw [State.rdBit, s.cmdResult_fields sd n r _ bell]
  rfl

end Sys2Proof.Machine
end

section
/-! SUPPORT. The copy through the Loft bridge from SRAM to a slot, to its end (R287, Table MET-11). -/

namespace Sys2Proof.Machine

open Sys2Proof

/-! ### Its words -/

/-- A word of a copy from an aligned run of SRAM to a slot is stopped where its party may not write the slot. -/
theorem State.copyFault_toSlot (s : State) {j : CopyJob} {i : Nat} (dir : j.toSlot = true) (aligned : j.sram % 4 = 0)
    (low : 0x20000000 ≤ j.sram) (high : j.sram + 4 * j.words ≤ 0x20020000) (within : i < j.words) :
    s.copyFault j i =
      if (s.slot j.slot).writableBy j.party then none
      else some (slotAddr j.slot + 4 * i, kindWrite, causeLoftOwner) := by
  have inside : (j.sram % 4 == 0 && decide (0x20000000 ≤ j.sram + 4 * i) && decide (j.sram + 4 * i + 4 ≤ 0x20020000)) =
      true := by
    simp [aligned]
    omega
  simp only [State.copyFault, dir, inside, if_true]
  simp

/-- A copy of the whole run, where its party may write the slot.  The words of SRAM are read one by one, and none of those
written before lies in SRAM. -/
theorem State.copyWords_toSlot {s : State} {j : CopyJob} {i k : Nat} (dir : j.toSlot = true) (aligned : j.sram % 4 = 0)
    (low : 0x20000000 ≤ j.sram) (high : j.sram + 4 * j.words ≤ 0x20020000) (within : i + k ≤ j.words)
    (may : (s.slot j.slot).writableBy j.party = true) :
    s.copyWords j i k = (s.setBytes (slotAddr j.slot + 4 * i) (s.bytes (j.sram + 4 * i) (4 * k)), i + k, none) := by
  induction k generalizing s i with
  | zero => rfl
  | succ k ih =>
    let s1 := s.setBytes (slotAddr j.slot + 4 * i) (s.bytes (j.sram + 4 * i) 4)
    have served : s.copyFault j i = none := by
      rw [s.copyFault_toSlot dir aligned low high (by omega), if_pos may]
    have may1 : (s1.slot j.slot).writableBy j.party = true := by
      rwa [State.slot_congr (t := s1) (s := s) (by simp [s1])]
    have unread : s1.bytes (j.sram + 4 * (i + 1)) (4 * k) = s.bytes (j.sram + 4 * (i + 1)) (4 * k) :=
      s.bytes_setBytes_outside (.inl (by unfold slotAddr; omega))
    have run : s.bytes (j.sram + 4 * i) (4 * (k + 1)) =
        s.bytes (j.sram + 4 * i) 4 ++ s.bytes (j.sram + 4 * (i + 1)) (4 * k) := by
      rw [show 4 * (k + 1) = 4 + 4 * k by omega, State.bytes_add]
      rfl
    calc s.copyWords j i (k + 1)
      _ = s1.copyWords j (i + 1) k := by simp only [State.copyWords, served, dir, if_true, s1]
      _ = (s1.setBytes (slotAddr j.slot + 4 * (i + 1)) (s.bytes (j.sram + 4 * (i + 1)) (4 * k)), i + 1 + k, none) := by
        rw [ih (by omega) may1, unread]
      _ = _ := by
        rw [run, State.setBytes_append, State.length_bytes, Nat.add_right_comm i 1 k]
        rfl

/-! ### Its end -/

/-- The state in which the words left of a copy are moved. -/
def State.copyClosed (s : State) : State :=
  (({ s with copy := none } : State).clear R.LOFTC.COPY_STATUS.BUSY).clear R.LOFTC.COPY_CTL.START

theorem State.copyClosed_memory (s : State) : SameMemory s s.copyClosed := .of_eq rfl rfl rfl

theorem State.copyClosed_fields (s : State) :
    SameFields [R.LOFTC.COPY_STATUS.BUSY, R.LOFTC.COPY_CTL.START] s s.copyClosed :=
  (((SameFields.refl _ s).of_regs (u := { s with copy := none }) rfl).wr 0 (by simp)).wr 0 (by simp)

theorem exec_loftCopyEnd_of_served {s u : State} {j : CopyJob} {n : Nat} (running : s.copy = some j)
    (free : s.flag (R.PWR.PACE_STATUS.UNDER .app) = false) (unmet : j.fault = none)
    (words : s.copyClosed.copyWords j j.served (j.words - j.served) = (u, n, none)) :
    exec .loftCopyEnd s = .next ((u.wr R.LOFTC.COPY_STATUS.WORDS_DONE n).raise R.LOFTC.COPY_STATUS.DONE) := by
  have rest : s.copyClosed.copyRest j = (u, n, none) := by simp [State.copyRest, unmet, words]
  rw [State.copyClosed] at rest
  change execLoftCopyEnd s = _
  simp [execLoftCopyEnd, free, running, rest]

/-- The state in which the fault of a copy is shown, before its bus fault. -/
def State.copyStopped (s : State) (n cause : Nat) : State :=
  ((s.wr R.LOFTC.COPY_STATUS.WORDS_DONE n).wr R.LOFTC.COPY_STATUS.CAUSE cause).raise R.LOFTC.COPY_STATUS.ERR

theorem exec_loftCopyEnd_of_fault {s u : State} {j : CopyJob} {n a kind cause : Nat} (running : s.copy = some j)
    (free : s.flag (R.PWR.PACE_STATUS.UNDER .app) = false) (unmet : j.fault = none)
    (words : s.copyClosed.copyWords j j.served (j.words - j.served) = (u, n, some (a, kind, cause))) :
    exec .loftCopyEnd s = .next ((u.copyStopped n cause).busFault .app 14 kind cause a) := by
  have rest : s.copyClosed.copyRest j = (u, n, some (a, kind, cause)) := by simp [State.copyRest, unmet, words]
  rw [State.copyClosed] at rest
  change execLoftCopyEnd s = _
  simp [execLoftCopyEnd, free, running, rest, State.copyStopped]

/-! ### Its bus fault -/

/-- The record of a bus fault (R203), and the log. -/
def faultFields (sd : Side) : List Fld :=
  [R.ARB.FAULT_STATUS.COUNT sd, R.ARB.FAULT_STATUS.MULTI sd, R.ARB.FAULT_STATUS.CAUSE sd, R.ARB.FAULT_STATUS.REQ sd,
    R.ARB.FAULT_STATUS.DIR sd, R.ARB.FAULT_STATUS.FETCH sd, R.ARB.FAULT_ADDR.ADDR sd, R.ARB.FAULT_STATUS.VALID sd] ++
    bothLogFields

/-- The bus fault of a requester that is no channel of DMA shows in its record and in the log alone. -/
theorem State.busFault_fields (s : State) {sd : Side} {req : Nat} (kind cause addr : Nat)
    (h : (sd == .app && decide (2 ≤ req) && decide (req ≤ 9)) = false) :
    SameFields (faultFields sd) s (s.busFault sd req kind cause addr) := by
  have record : ∀ f ∈ [R.ARB.FAULT_STATUS.COUNT sd, R.ARB.FAULT_STATUS.MULTI sd, R.ARB.FAULT_STATUS.CAUSE sd,
      R.ARB.FAULT_STATUS.REQ sd, R.ARB.FAULT_STATUS.DIR sd, R.ARB.FAULT_STATUS.FETCH sd, R.ARB.FAULT_ADDR.ADDR sd,
      R.ARB.FAULT_STATUS.VALID sd], f ∈ faultFields sd := fun f hf => List.mem_append_left _ hf
  let s1 : State :=
    { s with last :=
        { data := 0, cause := cause, mcause := if isCore req then mcauseOf kind else 0
          mtval := if isCore req then addr else 0 } }
  have counted : SameFields (faultFields sd) s (s1.count (R.ARB.FAULT_STATUS.COUNT sd) 1) :=
    ((SameFields.refl _ s).of_regs (u := s1) rfl).wr _ (record _ (by simp))
  simp only [State.busFault, h, Bool.false_eq_true, if_false]
  refine .ite (counted.wr 1 (record _ (by simp)))
    (.trans ?_ ((State.logSide_fields _ _ _ _).mono fun _ => List.mem_append_right _))
  exact (((((counted.wr _ (record _ (by simp))).wr _ (record _ (by simp))).wr _ (record _ (by simp))).wr _
    (record _ (by simp))).wr _ (record _ (by simp))).wr 1 (record _ (by simp))

theorem State.busFault_copy (s : State) (sd : Side) {req : Nat} (kind cause addr : Nat)
    (h : (sd == .app && decide (2 ≤ req) && decide (req ≤ 9)) = false) :
    (s.busFault sd req kind cause addr).copy = s.copy := by
  simp [State.busFault, h, State.raise_eq, State.count_eq, apply_ite State.copy]

end Sys2Proof.Machine
end

section
/-! SUPPORT. The alarms of the RTC (Table MET-3) and the cause that one of them lists. -/

namespace Sys2Proof.Machine

open Sys2Proof

/-! ### Alarm M -/

/-- A fire shows FIRED with EN cleared; the wake it raises writes its own fields. -/
theorem State.fireAlarmM_fields (s : State) :
    SameFields (wakeFields .met) ((s.raise R.MAON.ALARM_M_CTL.FIRED).clear R.MAON.ALARM_M_CTL.EN) s.fireAlarmM := by
  let s1 := (s.raise R.MAON.ALARM_M_CTL.FIRED).clear R.MAON.ALARM_M_CTL.EN
  have still (p : Power) : SameFields (wakeFields .met) s1 { s1 with power := p } := (SameFields.refl _ s1).power p
  exact .ite (.ite ((still _).trans (State.wake_fields _ .met 2)) (still _)) (s1.wake_fields .met 2)

theorem State.rd_en_fireAlarmM (s : State) : s.fireAlarmM.rd R.MAON.ALARM_M_CTL.EN = 0 := by
  rw [s.fireAlarmM_fields _ (by decide), State.clear_eq, State.rd_wr_self, Nat.zero_mod]

theorem State.rd_fired_fireAlarmM (s : State) : s.fireAlarmM.rd R.MAON.ALARM_M_CTL.FIRED = 1 := by
  rw [s.fireAlarmM_fields _ (by decide), State.clear_eq, State.rd_wr_ne _ _ (by decide), State.rd_raise_self _ (by decide)]

/-- A fire leaves every other field that a wake of MET leaves. -/
theorem State.rd_fireAlarmM (s : State) {f : Fld} (wake : f.key ∉ (wakeFields .met).map Fld.key)
    (en : R.MAON.ALARM_M_CTL.EN.key ≠ f.key) (fired : R.MAON.ALARM_M_CTL.FIRED.key ≠ f.key) :
    s.fireAlarmM.rd f = s.rd f := by
  rw [s.fireAlarmM_fields _ wake, State.clear_eq, State.rd_wr_ne _ _ en, State.raise_eq, State.rd_wr_ne _ _ fired]

/-- Alarm M with its time set and EN. -/
def State.alarmSet (s : State) (time : Nat) : State := (s.wr R.MAON.ALARM_M.AT time).wr R.MAON.ALARM_M_CTL.EN 1

theorem State.alarmSet_fields (s : State) (time : Nat) :
    SameFields [R.MAON.ALARM_M.AT, R.MAON.ALARM_M_CTL.EN] s (s.alarmSet time) :=
  ((SameFields.refl _ s).wr time (by simp)).wr 1 (by simp)

theorem State.rd_en_alarmSet (s : State) (time : Nat) : (s.alarmSet time).rd R.MAON.ALARM_M_CTL.EN = 1 :=
  State.rd_wr_of_lt (f := R.MAON.ALARM_M_CTL.EN) _ (by decide)

theorem State.rd_at_alarmSet (s : State) {time : Nat} (h : time < 2 ^ 32) : (s.alarmSet time).rd R.MAON.ALARM_M.AT = time := by
  rw [State.alarmSet, State.rd_wr_ne _ _ (by decide)]
  exact State.rd_wr_of_lt (f := R.MAON.ALARM_M.AT) s h

/-- ALARM_M_ARM with EN, where MET is On. -/
theorem exec_alarmMArm_of_on {s : State} {time : Nat} (range : time < 2 ^ 32) (on : s.power.met.st = .on) :
    exec (.alarmMArm time 1) s =
      .next (if time ≤ s.utime then ((s.alarmSet time).raise R.MAON.ALARM_M_CTL.MISSED).fireAlarmM else s.alarmSet time) := by
  have now : (s.alarmSet time).utime = s.utime := s.alarmSet_fields time _ (by decide)
  have armed : (s.alarmSet time).flag R.MAON.ALARM_M_CTL.EN = true := by
    simp [State.flag, s.rd_en_alarmSet time]
  have due : ((s.alarmSet time).rd R.MAON.ALARM_M.AT ≤ (s.alarmSet time).utime) ↔ time ≤ s.utime := by
    rw [s.rd_at_alarmSet range, now]
  rw [State.alarmSet] at armed due
  change execAlarmMArm time 1 s = _
  simp only [execAlarmMArm, on, ne_eq, not_true, if_false, armed, due, Bool.true_and, decide_eq_true_eq, State.alarmSet]
  split <;> rfl

/-! ### A cause listed -/

/-- The places of the list lie apart from the fields that count them and that give the mode. -/
theorem wakeSlot_place (sd : Side) : ∀ n < 4,
    (R.PWR.WAKE_CAUSE.COUNT sd).key ≠ (wakeSlot sd n).key ∧ (R.PWR.WAKE_CAUSE.FROM sd).key ≠ (wakeSlot sd n).key ∧
      (R.PWR.WAKE_CAUSE.FROM sd).key ≠ (R.PWR.WAKE_CAUSE.COUNT sd).key ∧ (wakeSlot sd n).width = 4 := by
  cases sd <;> decide

/-- A new cause takes the first free place of the list. -/
theorem State.listCause_of_room {s : State} {sd : Side} {c : Nat} (new : c ∉ s.wakeList sd)
    (room : s.rd (R.PWR.WAKE_CAUSE.COUNT sd) < 4) (code : c < 16) :
    (s.listCause sd c).rd (R.PWR.WAKE_CAUSE.COUNT sd) = s.rd (R.PWR.WAKE_CAUSE.COUNT sd) + 1 ∧
      (s.listCause sd c).rd (wakeSlot sd (s.rd (R.PWR.WAKE_CAUSE.COUNT sd))) = c := by
  generalize hn : s.rd (R.PWR.WAKE_CAUSE.COUNT sd) = n at room ⊢
  let s1 := (s.wr (wakeSlot sd n) c).wr (R.PWR.WAKE_CAUSE.COUNT sd) (n + 1)
  obtain ⟨count, origin, other, width⟩ := wakeSlot_place sd n room
  have listed : SameFields [R.PWR.WAKE_CAUSE.FROM sd] s1 (s.listCause sd c) := by
    have fresh : (s.wakeList sd).contains c = false := by simpa using new
    simp only [State.listCause, fresh, hn, if_neg (Nat.not_le_of_lt room), Bool.false_eq_true, if_false]
    exact .ite ((SameFields.refl _ s1).wr _ (by simp)) (.refl _ s1)
  constructor
  · rw [listed _ (by simpa using other.symm)]
    exact State.rd_wr_of_lt (f := R.PWR.WAKE_CAUSE.COUNT sd) _ (show n + 1 < 2 ^ 3 by omega)
  · rw [listed _ (by simpa using origin.symm), State.rd_wr_ne _ _ count]
    exact s.rd_wr_of_lt (by rwa [width])

/-- Beside the list, an accepted cause other than the start bit of UART0 writes its demand and the fields that show the
mode. -/
theorem State.wake_fields_of_accepted {s : State} {sd : Side} {c : Nat} (frozen : s.power.frozen = false)
    (ship : s.power.ship = false) (shipping : s.power.shipping = false) (enabled : s.wakeEnabled sd c = true)
    (edge : c ≠ 0xD) : SameFields (demandFields ++ modeFields) (s.listCause sd c) (s.wake sd c) := by
  have demanded : SameFields (demandFields ++ modeFields) (s.listCause sd c) ((s.listCause sd c).raiseDemand sd) :=
    (State.raiseDemand_fields _ sd).mono fun _ => List.mem_append_left _
  simp only [State.wake, frozen, ship, shipping, enabled, edge, Bool.or_self, Bool.not_true, Bool.false_eq_true, if_false,
    false_and]
  refine SameFields.trans ?_ ((State.updateMode_fields _).mono fun _ => List.mem_append_right _)
  exact .ite (demanded.of_regs (by simp)) (.ite (demanded.of_regs (by simp)) demanded)

end Sys2Proof.Machine
end
section
/-! PROOFS. The commands of the Loft, its copy and the alarms of the RTC (ch. 10). -/

namespace Sys2Proof.Machine

open Sys2Proof

/-! ### Orders of the Loft bridge -/

/-- LOFT_COPY with an AS that names no party ends with ERR at once. -/
theorem exec_loftCopy_of_stranger {s : State} (idle : s.flag R.LOFTC.COPY_STATUS.BUSY = false)
    (notApp : s.rd R.LOFTC.COPY_CTL.AS ≠ 2) (notDma : s.rd R.LOFTC.COPY_CTL.AS ≠ 3)
    (powered : s.railPowered .app = true) :
    exec .loftCopy s = .next ((s.clear R.LOFTC.COPY_STATUS.WORDS_DONE).raise R.LOFTC.COPY_STATUS.ERR) := by
  change execLoftCopy s = _
  simp [execLoftCopy, idle, powered, ownApp, ownDma, notApp, notDma]

/-- The order of the Loft bridge as its registers give it, for 1 to 128 words. -/
def State.copyOrder (s : State) : CopyJob :=
  { slot := s.rd R.LOFTC.COPY_CTL.SLOT, toSlot := s.flag R.LOFTC.COPY_CTL.DIR, words := s.rd R.LOFTC.COPY_CTL.WORDS
    party := s.rd R.LOFTC.COPY_CTL.AS, sram := s.rd R.LOFTC.COPY_SRAM.ADDR }

/-- The state in which an order has been latched. -/
def State.copyStarted (s : State) : State :=
  (({ s.clear R.LOFTC.COPY_STATUS.WORDS_DONE with copy := some s.copyOrder } : State).raise R.LOFTC.COPY_CTL.START).raise
    R.LOFTC.COPY_STATUS.BUSY

theorem exec_loftCopy_of_party {s : State} (idle : s.flag R.LOFTC.COPY_STATUS.BUSY = false)
    (party : s.rd R.LOFTC.COPY_CTL.AS = 2 ∨ s.rd R.LOFTC.COPY_CTL.AS = 3) (low : 1 ≤ s.rd R.LOFTC.COPY_CTL.WORDS)
    (high : s.rd R.LOFTC.COPY_CTL.WORDS ≤ 128) (powered : s.railPowered .app = true) :
    exec .loftCopy s = .next s.copyStarted := by
  have words : ¬(s.rd R.LOFTC.COPY_CTL.WORDS = 0 ∨ 128 < s.rd R.LOFTC.COPY_CTL.WORDS) := by omega
  have known : ¬(s.rd R.LOFTC.COPY_CTL.AS ≠ 2 ∧ s.rd R.LOFTC.COPY_CTL.AS ≠ 3) := by omega
  change execLoftCopy s = _
  simp only [execLoftCopy, idle, powered, ownApp, ownDma, gt_iff_lt, if_neg words, if_neg known, Bool.not_true,
    Bool.or_false, Bool.false_eq_true, if_false]
  rfl

theorem State.rd_busy_copyStarted (s : State) : s.copyStarted.rd R.LOFTC.COPY_STATUS.BUSY = 1 :=
  State.rd_raise_self _ (by decide)

theorem State.rd_wordsDone_copyStarted (s : State) : s.copyStarted.rd R.LOFTC.COPY_STATUS.WORDS_DONE = 0 := by
  rw [State.copyStarted, State.raise_eq, State.rd_wr_ne _ _ (by decide), State.raise_eq, State.rd_wr_ne _ _ (by decide)]
  exact s.rd_wr_self R.LOFTC.COPY_STATUS.WORDS_DONE 0

/-! ### The end of a copy to a slot -/

/-- A copy that nothing stops fills the first words of its slot with the run of SRAM and shows DONE. -/
theorem completes_loftCopyEnd_served {s : State} {j : CopyJob} (running : s.copy = some j) (dir : j.toSlot = true)
    (words : j.words ≤ 128) (slot : j.slot < 32) (aligned : j.sram % 4 = 0) (low : 0x20000000 ≤ j.sram)
    (high : j.sram + 4 * j.words ≤ 0x20020000) (may : (s.slot j.slot).writableBy j.party = true)
    (free : s.flag (R.PWR.PACE_STATUS.UNDER .app) = false) (first : j.served = 0) (unmet : j.fault = none) :
    Completes .loftCopyEnd s fun t =>
      (∀ i ∈ List.range (4 * j.words), t.byte (slotAddr j.slot + i) = s.byte (j.sram + i)) ∧
        SameMemoryOutside (slotAddr j.slot) (4 * j.words) s t ∧ t.rd R.LOFTC.COPY_STATUS.DONE = 1 ∧
        t.rd R.LOFTC.COPY_STATUS.WORDS_DONE = j.words ∧ t.copy = none := by
  let s1 := s.copyClosed
  let u := s1.setBytes (slotAddr j.slot) (s1.bytes j.sram (4 * j.words))
  have moved : s1.copyWords j j.served (j.words - j.served) = (u, j.words, none) := by
    have whole : 0 + j.words ≤ j.words := Nat.le_of_eq (Nat.zero_add _)
    rw [first, Nat.sub_zero, State.copyWords_toSlot (s := s1) dir aligned low high whole may, Nat.zero_add]
    rfl
  have shown : SameMemory u ((u.wr R.LOFTC.COPY_STATUS.WORDS_DONE j.words).raise R.LOFTC.COPY_STATUS.DONE) :=
    .of_eq rfl rfl rfl
  refine ⟨_, exec_loftCopyEnd_of_served running free unmet moved, ?_, ?_, State.rd_raise_self _ (by decide), ?_, ?_⟩
  · intro i hi
    have buffer : ∀ k, k < 4 * j.words → (memRegion (slotAddr j.slot + k)).isSome = true := fun k hk => by
      rw [memRegion_slot slot (by omega)]
      rfl
    rw [shown, State.byte_setBytes_bytes _ _ (List.mem_range.1 hi) buffer, s.copyClosed_memory]
  · intro a ha
    rw [shown, State.byte_setBytes_outside _ _ _ _ (by simpa using ha), s.copyClosed_memory]
  · rw [State.raise_eq, State.rd_wr_ne _ _ (by decide)]
    exact u.rd_wr_of_lt (f := R.LOFTC.COPY_STATUS.WORDS_DONE) (Nat.lt_of_le_of_lt words (by decide))
  · simp [u, s1, State.copyClosed, State.raise_eq, State.clear_eq]

/-- A copy whose party may not write the slot any more stops at its next word. -/
theorem completes_loftCopyEnd_refused {s : State} {j : CopyJob} (running : s.copy = some j) (dir : j.toSlot = true)
    (unmet : j.fault = none) (left : j.served < j.words) (range : j.served < 256) (aligned : j.sram % 4 = 0)
    (low : 0x20000000 ≤ j.sram) (high : j.sram + 4 * j.words ≤ 0x20020000)
    (lost : (s.slot j.slot).writableBy j.party = false) (free : s.flag (R.PWR.PACE_STATUS.UNDER .app) = false) :
    Completes .loftCopyEnd s fun t =>
      t.rd R.LOFTC.COPY_STATUS.ERR = 1 ∧ t.rd R.LOFTC.COPY_STATUS.DONE = s.rd R.LOFTC.COPY_STATUS.DONE ∧
        t.rd R.LOFTC.COPY_STATUS.CAUSE = causeLoftOwner ∧ t.rd R.LOFTC.COPY_STATUS.WORDS_DONE = j.served ∧
        t.copy = none ∧ SameMemory s t := by
  let u := s.copyClosed
  have fault : u.copyFault j j.served = some (slotAddr j.slot + 4 * j.served, kindWrite, causeLoftOwner) := by
    have still : (u.slot j.slot).writableBy j.party = false := lost
    rw [State.copyFault_toSlot u dir aligned low high left, still]
    rfl
  have stopped : u.copyWords j j.served (j.words - j.served) =
      (u, j.served, some (slotAddr j.slot + 4 * j.served, kindWrite, causeLoftOwner)) := by
    obtain ⟨k, hk⟩ := Nat.exists_eq_succ_of_ne_zero (Nat.sub_ne_zero_of_lt left)
    rw [hk, Nat.succ_eq_add_one, State.copyWords, fault]
  have recorded := (u.copyStopped j.served causeLoftOwner).busFault_fields (sd := .app) (req := 14) kindWrite
    causeLoftOwner (slotAddr j.slot + 4 * j.served) (by decide)
  refine ⟨_, exec_loftCopyEnd_of_fault running free unmet stopped, ?_, ?_, ?_, ?_, ?_, ?_⟩
  · rw [recorded _ (by decide)]
    exact State.rd_raise_self _ (by decide)
  · rw [recorded _ (by decide), State.copyStopped, State.raise_eq, State.rd_wr_ne _ _ (by decide),
      State.rd_wr_ne _ _ (by decide), State.rd_wr_ne _ _ (by decide)]
    exact s.copyClosed_fields _ (by decide)
  · rw [recorded _ (by decide), State.copyStopped, State.raise_eq, State.rd_wr_ne _ _ (by decide)]
    exact State.rd_wr_self _ R.LOFTC.COPY_STATUS.CAUSE causeLoftOwner
  · rw [recorded _ (by decide), State.copyStopped, State.raise_eq, State.rd_wr_ne _ _ (by decide),
      State.rd_wr_ne _ _ (by decide)]
    exact u.rd_wr_of_lt (f := R.LOFTC.COPY_STATUS.WORDS_DONE) range
  · rw [State.busFault_copy _ _ _ _ _ (by decide)]
    rfl
  · have shown : SameMemory u (u.copyStopped j.served causeLoftOwner) := .of_eq rfl rfl rfl
    exact (s.copyClosed_memory.trans shown).trans (State.busFault_memory _ _ _ _ _ _)

/-! ### FREE_MIN and alarm A -/

theorem State.rd_freeMin_wr (s : State) (sd : Side) (v : Nat) :
    (s.wr (R.LOFTC.STATS.FREE_MIN sd) v).rd (R.LOFTC.STATS.FREE_MIN sd) = v % 64 := s.rd_wr_self _ v

theorem exec_freeMinWrite_of_powered {s : State} {sd : Side} (powered : s.railPowered sd = true) :
    exec (.freeMinWrite sd) s = .next (s.wr (R.LOFTC.STATS.FREE_MIN sd) s.freeNow) := by
  change execFreeMinWrite sd s = _
  rw [execFreeMinWrite, if_pos powered]


/-- The RTC reaches alarm A: cause 0x1 takes the first free place of the list of APP. -/
theorem completes_rtcAlarm_app {s : State} (frozen : s.power.frozen = false) (ship : s.power.ship = false)
    (enabled : s.wakeEnabled .app 1 = true) (new : 1 ∉ s.wakeList .app)
    (room : s.rd (R.PWR.WAKE_CAUSE.COUNT .app) < 4) (out : s.resetHold = 0) (shipping : s.power.shipping = false) :
    Completes (.rtcAlarm .app) s fun t =>
      t.rd (R.PWR.WAKE_CAUSE.COUNT .app) = s.rd (R.PWR.WAKE_CAUSE.COUNT .app) + 1 ∧
        t.rd (wakeSlot .app (s.rd (R.PWR.WAKE_CAUSE.COUNT .app))) = 1 := by
  have awake : s.awake = true := by simp [State.awake, out, ship]
  have apart : ∀ n < 4, (wakeSlot .app n).key ∉ (demandFields ++ modeFields).map Fld.key := by decide
  have woken := State.wake_fields_of_accepted frozen ship shipping enabled (c := 1) (by decide)
  obtain ⟨count, place⟩ := State.listCause_of_room new room (by decide)
  exact ⟨s.wake .app 1, if_pos awake, (woken _ (by decide)).trans count, (woken _ (apart _ room)).trans place⟩

/-- Settles O24, command by command: the state that a command answers is the one its `exec_` lemma names, read through the
lemmas on what was written in it last. -/
theorem loftOwnersAndDoorbells : Obligations.LoftOwnersAndDoorbells := by
  have numbered (slot : Nat) : slot % 32 < 32 := Nat.mod_lt _ (by decide)
  have listed {s : State} (slots : s.slots.length = 32) (slot : Nat) : slot % 32 < s.slots.length := by
    rw [slots]
    exact numbered slot
  unfold Obligations.LoftOwnersAndDoorbells
  refine ⟨?claim, ?claimAny, ?give, ?publish, ?unpublish, ?free, ?stranger, ?order, ?copyServed, ?copyRefused, ?freeMet,
    ?freeMin, ?armed, ?missed, ?alarmM, ?alarmA⟩
  case claim =>
    intro sd party slot s slots acts unowned may powered
    refine ⟨_, exec_claim_of_free acts powered unowned may, ?_, State.rd_result_cmdResult _ _ _,
      State.rd_slot_cmdResult _ _ _ (numbered slot), fun a ha => ?_⟩
    · rw [State.slot_cmdResult, State.slot_takeSlot _ (listed slots slot)]
    · rw [State.cmdResult_memory, State.takeSlot_memory _ _ _ a ha]
  case claimAny =>
    intro sd party n s slots acts lowest may powered
    have below := State.lowestFree_lt lowest
    have inside : n < s.slots.length := by rwa [slots]
    refine ⟨_, exec_claimAny_of_free acts powered lowest may, ?_, State.rd_result_cmdResult _ _ _,
      State.rd_slot_cmdResult _ _ _ below⟩
    rw [State.slot_cmdResult, State.slot_takeSlot _ inside]
  case give =>
    intro sd party slot target len s slots acts owner named receiver other present powered
    have notFree : target ≠ 0 := by
      rintro rfl
      exact absurd receiver (by decide)
    have notDict : target ≠ ownDict := by
      rintro rfl
      exact absurd receiver (by decide)
    let u := s.meets (actingParty sd party) (slot % 32)
    have inside : slot % 32 < u.slots.length := by rw [State.meets_slots, slots]; exact numbered slot
    refine ⟨_, exec_give_of_owner len acts powered owner named notFree other present, ?_,
      State.rd_result_cmdResult _ _ _, ?_, ?_⟩
    · rw [State.slot_cmdResult, State.slot_congr (State.doorbell_slots _ _ notDict), State.slot_setSlot_self _ inside]
    · intro core
      rw [State.rdBit_bell_cmdResult, State.rdBit_doorbell _ (sd := .met) core (numbered slot)]
    · intro core
      rw [State.rdBit_bell_cmdResult, State.rdBit_doorbell _ (sd := .app) core (numbered slot)]
  case publish =>
    intro sd party slot len s slots acts owner named powered
    refine ⟨_, exec_publish_of_owner len acts powered owner named, ?_, ?_, State.rd_result_cmdResult _ _ _,
      (s.setSlot_memory _ _).trans (State.cmdResult_memory _ _ _ _)⟩
    · rw [State.slot_cmdResult, State.slot_setSlot_self _ (listed slots slot)]
    · rw [State.slot_cmdResult, State.slot_setSlot_self _ (listed slots slot)]
  case unpublish =>
    intro sd party slot s slots acts owner named thawed powered still
    refine ⟨_, exec_unpublish_of_owner acts powered owner named thawed still, ?_, State.rd_result_cmdResult _ _ _,
      (s.setSlot_memory _ _).trans (State.cmdResult_memory _ _ _ _)⟩
    rw [State.slot_cmdResult, State.slot_setSlot_self _ (listed slots slot)]
  case free =>
    intro sd party slot s slots acts owner named powered still
    have command := exec_free_of_owner acts powered owner
    have freed := State.slot_setSlot_self (s.slot (slot % 32)).freed (listed slots slot)
    rw [State.meets_of_no_copy still] at command
    refine ⟨_, command, ?_, ?_, ?_, State.rd_result_cmdResult _ _ _,
      (s.setSlot_memory _ _).trans (State.cmdResult_memory _ _ _ _)⟩
    · rw [State.slot_cmdResult, freed, Slot.freed_owner]
    · rw [State.slot_cmdResult, freed, Slot.freed_publish]
    · rw [State.slot_cmdResult, freed, Slot.freed]
  case stranger =>
    intro s idle notApp notDma powered
    exact ⟨_, exec_loftCopy_of_stranger idle notApp notDma powered, rfl⟩
  case order =>
    intro s idle party low high powered
    exact ⟨_, exec_loftCopy_of_party idle party low high powered, rfl, s.rd_busy_copyStarted, s.rd_wordsDone_copyStarted⟩
  case copyServed =>
    intro j s running _ dir _ words slot aligned low high may free first unmet
    exact completes_loftCopyEnd_served running dir words slot aligned low high may free first unmet
  case copyRefused =>
    intro j s running dir unmet left range aligned low high lost free
    exact completes_loftCopyEnd_refused running dir unmet left range aligned low high lost free
  case freeMet =>
    intro party slot j s running _ _ served slots core owner powered
    let u := s.meets (actingParty .app party) (slot % 32)
    have acts : actsAs .app party = true := by rcases core with rfl | rfl <;> rfl
    have inside : slot % 32 < u.slots.length := by rw [State.meets_slots, slots]; exact numbered slot
    obtain ⟨k, copy, rest⟩ := State.meets_copy running served (actingParty .app party) (slot % 32)
    refine ⟨_, exec_free_of_owner acts powered owner, ?_, State.rd_result_cmdResult _ _ _, k, ?_, rest⟩
    · rw [State.slot_cmdResult, State.slot_setSlot_self _ inside, Slot.freed_owner]
    · rw [State.cmdResult_copy, State.setSlot_copy, copy]
  case freeMin =>
    intro sd s powered
    exact ⟨_, exec_freeMinWrite_of_powered powered, s.rd_freeMin_wr sd _⟩
  case armed =>
    intro time s ahead range on
    have command := exec_alarmMArm_of_on range on
    rw [if_neg (Nat.not_le_of_lt ahead)] at command
    exact ⟨_, command, s.rd_at_alarmSet range, s.rd_en_alarmSet time, s.alarmSet_fields time _ (by decide)⟩
  case missed =>
    intro time s past range on
    have command := exec_alarmMArm_of_on range on
    rw [if_pos past] at command
    refine ⟨_, command, ?_, State.rd_en_fireAlarmM _, State.rd_fired_fireAlarmM _, ?_⟩
    · rw [State.rd_fireAlarmM _ (by decide) (by decide) (by decide), State.raise_eq, State.rd_wr_ne _ _ (by decide),
        s.rd_at_alarmSet range]
    · rw [State.rd_fireAlarmM _ (by decide) (by decide) (by decide), State.rd_raise_self _ (by decide)]
  case alarmM =>
    intro s armed awake
    have reached : (s.awake && s.flag R.MAON.ALARM_M_CTL.EN) = true := by simp [awake, armed]
    exact ⟨s.fireAlarmM, if_pos reached, s.rd_en_fireAlarmM, s.rd_fired_fireAlarmM⟩
  case alarmA =>
    intro s frozen ship enabled new room out shipping
    exact completes_rtcAlarm_app frozen ship enabled new room out shipping

end Sys2Proof.Machine
end
section
/-! PROOFS. A GIVE whose bell ends a WFI of ACORE (R136, R286). -/

namespace Sys2Proof.Machine

open Sys2Proof

/-- MET, On, owns slot 7; ACORE waits in its WFI with APP On, the bell of APP may wake it, and its watchdog has 3 left. -/
def State.bellAwaited : State :=
  let s := State.reset.withMet
  let rung : State :=
    { s with power := { s.power with acoreWfi := true }, slots := s.slots.set 7 { emptySlot with owner := ownMet } }
  (rung.wr (R.PWR.WAKE_EN.EN .app) (2 ^ 0xA)).wr R.AON.WDT.REMAIN 3

/-- Refutes O55 by its clause of a hand-over, whose frame leaves out the window of AON.  MET gives slot 7 to APP: the bell
raises cause 0xB, ACORE leaves its WFI, and with it its watchdog leaves its pause, which reloads AON.WDT.REMAIN. -/
theorem not_loftReserveAndFrames : ¬ Obligations.LoftReserveAndFrames := by
  unfold Obligations.LoftReserveAndFrames
  rintro ⟨-, -, -, -, -, gives⟩
  let s := State.bellAwaited
  let t := (((s.meets ownMet 7).setSlot 7 (handOver (s.slot 7) ownApp 0)).doorbell ownApp 7).cmdResult .met 7 loftOk
  have still : s.copy = none := by decide
  have given : exec (.give .met ownMet 7 ownApp 0) s = .next t :=
    exec_give_of_owner (slot := 7) 0 (by decide) (by decide) (by decide) (by decide) (by decide) (by decide) (by decide)
  obtain ⟨elsewhere, -, -⟩ := gives .met ownMet 7 ownApp 0 s still t given
  have same : t.rd R.AON.WDT.REMAIN = s.rd R.AON.WDT.REMAIN := elsewhere R.AON.WDT.REMAIN (by decide) (by decide)
  have before : s.rd R.AON.WDT.REMAIN = 3 := by decide
  have after : t.rd R.AON.WDT.REMAIN = 16 := by decide +kernel
  exact absurd (after.symm.trans (same.trans before)) (by decide)

end Sys2Proof.Machine
end
section
/-! SUPPORT. Operations done for every `n` below a bound, and numbers with a bit for each index below one. -/

namespace Sys2Proof.Machine

open Sys2Proof

theorem forEach_succ {α : Type} (n : Nat) (f : Nat → α → α) (a : α) : forEach (n + 1) f a = f n (forEach n f a) := by
  simp [forEach, List.range_succ]

/-- What each operation keeps, all of them keep. -/
theorem forEach_keeps {α β : Type} {g : α → β} {f : Nat → α → α} (hf : ∀ k a, g (f k a) = g a) (n : Nat) (a : α) :
    g (forEach n f a) = g a := by
  induction n with
  | zero => rfl
  | succ n ih => rw [forEach_succ, hf, ih]

theorem SameFields.forEach {fs : List Fld} {n : Nat} {f : Nat → State → State}
    (hf : ∀ k < n, ∀ a, SameFields fs a (f k a)) (s : State) : SameFields fs s (forEach n f s) := by
  induction n with
  | zero => exact .refl fs s
  | succ n ih =>
    rw [forEach_succ]
    exact (ih fun k hk => hf k (Nat.lt_succ_of_lt hk)).trans (hf n n.lt_succ_self _)

/-- Of fields with keys of their own, each reads what was written in it. -/
theorem State.rd_forEach_wr {f : Nat → Fld} (apart : ∀ i j, i ≠ j → (f i).key ≠ (f j).key) (v : Nat → Nat) (s : State)
    {k n : Nat} (h : k < n) : (forEach n (fun i a => a.wr (f i) (v i)) s).rd (f k) = v k % 2 ^ (f k).width := by
  induction n with
  | zero => exact absurd h (Nat.not_lt_zero k)
  | succ n ih =>
    rw [forEach_succ]
    rcases Nat.lt_succ_iff_lt_or_eq.1 h with below | rfl
    · rw [State.rd_wr_ne _ _ (apart n k (Nat.ne_of_gt below)), ih below]
    · exact State.rd_wr_self _ _ _

theorem maskOf_succ (n : Nat) (p : Nat → Bool) : maskOf (n + 1) p = maskOf n p + 2 ^ n * b2n (p n) := by
  simp [maskOf, List.range_succ]

theorem maskOf_lt (n : Nat) (p : Nat → Bool) : maskOf n p < 2 ^ n := by
  induction n with
  | zero => exact Nat.one_pos
  | succ n ih =>
    rw [maskOf_succ, Nat.pow_succ]
    cases p n
    · simp only [b2n, Bool.false_eq_true, if_false]
      omega
    · simp only [b2n, if_true]
      omega

theorem maskOf_of_none {n : Nat} {p : Nat → Bool} (h : ∀ k < n, p k = false) : maskOf n p = 0 := by
  induction n with
  | zero => rfl
  | succ n ih => rw [maskOf_succ, ih fun k hk => h k (Nat.lt_succ_of_lt hk), h n n.lt_succ_self]; rfl

theorem maskOf_true (n : Nat) : maskOf n (fun _ => true) = 2 ^ n - 1 := by
  induction n with
  | zero => rfl
  | succ n ih =>
    have positive : 0 < 2 ^ n := Nat.two_pow_pos n
    rw [maskOf_succ, ih, Nat.pow_succ]
    simp only [b2n, if_true]
    omega

theorem ones_lt {n w : Nat} (h : n ≤ w) : 2 ^ n - 1 < 2 ^ w :=
  Nat.lt_of_lt_of_le (Nat.sub_one_lt (Nat.ne_of_gt (Nat.two_pow_pos n))) (Nat.pow_le_pow_right (by decide) h)

end Sys2Proof.Machine
end

section
/-! SUPPORT. The turns of the MADC (R306, R338): which jobs run and wait after each of its operations, and the flags that show
them. -/

namespace Sys2Proof.Machine

open Sys2Proof

/-- The flags that show which jobs run and wait. -/
def turnFlags : List Fld :=
  [R.MADC.STATUS.BUSY, R.MADC.STATUS.OWNER, R.MADC.STATUS.QUEUED, R.STRIP.STATUS.BUSY, R.PT.STATUS.BUSY, R.FLOW.STATUS.QUEUED,
    R.FLOW.STATUS.BUSY]

/-- The jobs that run and wait, in the order of their turns. -/
def State.madcJobs (s : State) : List MetJob := s.madcRun.toList ++ s.madcQueue

/-- BUSY of either scanner shows whether a job of it runs or waits. -/
def State.TurnsShown (s : State) : Prop :=
  s.rd R.STRIP.STATUS.BUSY = b2n (s.madcJobs.any MetJob.isStrip) ∧ s.rd R.PT.STATUS.BUSY = b2n (s.madcJobs.any MetJob.isPt)

theorem State.syncMadc_fields (s : State) : SameFields turnFlags s s.syncMadc :=
  (((((((SameFields.refl _ s).wr _ (by decide)).wr _ (by decide)).wr _ (by decide)).wr _ (by decide)).wr _ (by decide)).wr _
    (by decide)).wr _ (by decide)

@[simp] theorem State.syncMadc_keeps (s : State) :
    s.syncMadc.madcRun = s.madcRun ∧ s.syncMadc.madcQueue = s.madcQueue ∧ s.syncMadc.logs = s.logs := ⟨rfl, rfl, rfl⟩

theorem State.syncMadc_turnsShown (s : State) : s.syncMadc.TurnsShown := by
  constructor
  · rw [State.syncMadc, State.wrBool_eq, State.rd_wr_ne _ _ (by decide), State.wrBool_eq, State.rd_wr_ne _ _ (by decide),
      State.wrBool_eq, State.rd_wr_ne _ _ (by decide), State.rd_wrBool_self _ _ (by decide)]
    rfl
  · rw [State.syncMadc, State.wrBool_eq, State.rd_wr_ne _ _ (by decide), State.wrBool_eq, State.rd_wr_ne _ _ (by decide),
      State.rd_wrBool_self _ _ (by decide)]
    rfl

/-! ### A job takes its turn -/

theorem State.submitMadc_jobs (s : State) (j : MetJob) : (s.submitMadc j).madcJobs = s.madcJobs ++ [j] := by
  simp only [State.submitMadc, State.madcJobs, State.syncMadc_keeps]
  split
  next free =>
    obtain ⟨run, queue⟩ := Bool.and_eq_true_iff.1 free
    rw [Option.isNone_iff_eq_none.1 run, List.isEmpty_iff.1 queue]
    rfl
  next => exact (List.append_assoc _ _ _).symm

theorem State.submitMadc_fields (s : State) (j : MetJob) : SameFields turnFlags s (s.submitMadc j) := by
  refine SameFields.trans ?_ (State.syncMadc_fields _)
  exact .ite ((SameFields.refl _ s).of_regs rfl) ((SameFields.refl _ s).of_regs rfl)

theorem State.submitMadc_turnsShown (s : State) (j : MetJob) : (s.submitMadc j).TurnsShown := State.syncMadc_turnsShown _

theorem State.rd_stripBusy_submitMadc (s : State) {j : MetJob} (h : j.isStrip = true) :
    (s.submitMadc j).rd R.STRIP.STATUS.BUSY = 1 := by
  rw [(s.submitMadc_turnsShown j).1, State.submitMadc_jobs]
  simp [h, b2n]

theorem State.rd_ptBusy_submitMadc (s : State) {j : MetJob} (h : j.isPt = true) :
    (s.submitMadc j).rd R.PT.STATUS.BUSY = 1 := by
  rw [(s.submitMadc_turnsShown j).2, State.submitMadc_jobs]
  simp [h, b2n]

/-! ### The running job ends -/

theorem State.releaseMadc_turns (s : State) :
    s.releaseMadc.madcRun = s.madcQueue.head? ∧ s.releaseMadc.madcQueue = s.madcQueue.tail := by
  simp only [State.releaseMadc, State.syncMadc_keeps]
  cases s.madcQueue <;> exact ⟨rfl, rfl⟩

theorem State.releaseMadc_jobs (s : State) : s.releaseMadc.madcJobs = s.madcQueue := by
  obtain ⟨run, queue⟩ := s.releaseMadc_turns
  rw [State.madcJobs, run, queue]
  cases s.madcQueue <;> rfl

theorem State.releaseMadc_logs (s : State) : s.releaseMadc.logs = s.logs := by
  simp only [State.releaseMadc, State.syncMadc_keeps]
  split <;> rfl

theorem State.releaseMadc_fields (s : State) : SameFields turnFlags s s.releaseMadc := by
  refine SameFields.trans ?_ (State.syncMadc_fields _)
  split
  · exact (SameFields.refl _ s).of_regs rfl
  · exact (SameFields.refl _ s).of_regs rfl

/-! ### Jobs withdrawn -/

/-- A withdrawal ends in one of two ways: the running job is of the kind and ends, or the one that runs stays. -/
theorem State.withdrawMadc_cases (s : State) (p : MetJob → Bool) :
    let u : State := { s with madcQueue := s.madcQueue.filter (fun j => !p j) }
    s.withdrawMadc p = u.releaseMadc ∨ s.withdrawMadc p = u.syncMadc ∧ ∀ j ∈ s.madcRun, p j = false := by
  simp only [State.withdrawMadc]
  split
  next idle => exact .inr ⟨rfl, by simp [show s.madcRun = none from idle]⟩
  next j run =>
    split
    next => exact .inl rfl
    next other => exact .inr ⟨rfl, by simpa [show s.madcRun = some j from run] using other⟩

theorem State.withdrawMadc_jobs (s : State) (p : MetJob → Bool) : (s.withdrawMadc p).madcJobs.any p = false := by
  have waiting : (s.madcQueue.filter fun j => !p j).any p = false := by simp
  rcases s.withdrawMadc_cases p with ended | ⟨stays, other⟩
  · rw [ended, State.releaseMadc_jobs]
    exact waiting
  · have running : s.madcRun.toList.any p = false := by simpa using other
    rw [stays, State.madcJobs, (State.syncMadc_keeps _).1, (State.syncMadc_keeps _).2.1, List.any_append, waiting, running]
    rfl

theorem State.withdrawMadc_fields (s : State) (p : MetJob → Bool) : SameFields turnFlags s (s.withdrawMadc p) := by
  have queue := (SameFields.refl turnFlags s).of_regs (u := { s with madcQueue := s.madcQueue.filter (fun j => !p j) }) rfl
  rcases s.withdrawMadc_cases p with ended | ⟨stays, -⟩
  · rw [ended]
    exact queue.trans (State.releaseMadc_fields _)
  · rw [stays]
    exact queue.trans (State.syncMadc_fields _)

theorem State.withdrawMadc_turnsShown (s : State) (p : MetJob → Bool) : (s.withdrawMadc p).TurnsShown := by
  rcases s.withdrawMadc_cases p with ended | ⟨stays, -⟩
  · rw [ended]
    exact State.syncMadc_turnsShown _
  · rw [stays]
    exact State.syncMadc_turnsShown _

theorem State.rd_stripBusy_withdrawMadc (s : State) : (s.withdrawMadc MetJob.isStrip).rd R.STRIP.STATUS.BUSY = 0 := by
  rw [(s.withdrawMadc_turnsShown MetJob.isStrip).1, State.withdrawMadc_jobs]
  rfl

theorem State.rd_ptBusy_withdrawMadc (s : State) : (s.withdrawMadc MetJob.isPt).rd R.PT.STATUS.BUSY = 0 := by
  rw [(s.withdrawMadc_turnsShown MetJob.isPt).2, State.withdrawMadc_jobs]
  rfl

end Sys2Proof.Machine
end

section
/-! SUPPORT. The readings of a strip scan, its diagnosis and its end (R308 to R313): the fields that each step of it may write,
and what they read. -/

namespace Sys2Proof.Machine

open Sys2Proof

theorem Code.word_lt (c : Code) : c.word < 2 ^ 32 := by
  simp only [Code.word, uInt]
  omega

/-! ### Cells and spans -/

theorem cellCode_apart (i j : Nat) (h : i ≠ j) : (R.STRIP.CELL.CODE i).key ≠ (R.STRIP.CELL.CODE j).key := by
  simp only [R.STRIP.CELL.CODE, Fld.key]
  omega

/-- What the cells of a scan write. -/
def cellFields : List Fld := R.STRIP.STATUS.VALID :: R.MADC.STATUS.READINGS :: (List.range 8).map R.STRIP.CELL.CODE

theorem State.storeCells_fields (s : State) {m : Nat} (cell : Nat → Code) (h : m ≤ 8) :
    SameFields cellFields s (s.storeCells m cell) := by
  have listed : ∀ k < 8, R.STRIP.CELL.CODE k ∈ cellFields := by decide
  have cells := SameFields.forEach (fs := cellFields) (f := fun k a => a.wr (R.STRIP.CELL.CODE k) (cell k).word)
    (fun k hk a => (SameFields.refl _ a).wr _ (listed k (Nat.lt_of_lt_of_le hk h))) s
  exact (cells.wr _ (by decide)).wr _ (by decide)

@[simp] theorem State.storeCells_keeps (s : State) (m : Nat) (cell : Nat → Code) :
    (s.storeCells m cell).madcQueue = s.madcQueue ∧ (s.storeCells m cell).logs = s.logs :=
  let store := fun k (a : State) => a.wr (R.STRIP.CELL.CODE k) (cell k).word
  ⟨forEach_keeps (f := store) (g := State.madcQueue) (fun _ _ => rfl) m s,
    forEach_keeps (f := store) (g := State.logs) (fun _ _ => rfl) m s⟩

theorem State.rd_valid_storeCells (s : State) {m : Nat} (cell : Nat → Code) (h : m ≤ 8) :
    (s.storeCells m cell).rd R.STRIP.STATUS.VALID = 2 ^ m - 1 := by
  rw [State.storeCells, State.count_eq, State.rd_wr_ne _ _ (by decide), maskOf_true]
  exact State.rd_wr_of_lt _ (f := R.STRIP.STATUS.VALID) (ones_lt h)

theorem State.rd_cell_storeCells (s : State) {k m : Nat} (cell : Nat → Code) (h : k < m) (hm : m ≤ 8) :
    (s.storeCells m cell).rd (R.STRIP.CELL.CODE k) = (cell k).word := by
  have apart : ∀ k < 8, (R.STRIP.CELL.CODE k).key ∉ [R.STRIP.STATUS.VALID, R.MADC.STATUS.READINGS].map Fld.key := by decide
  have other := apart k (Nat.lt_of_lt_of_le h hm)
  simp only [List.map_cons, List.map_nil, List.mem_cons, List.not_mem_nil, or_false, not_or] at other
  obtain ⟨valid, readings⟩ := other
  rw [State.storeCells, State.count_eq, State.rd_wr_ne _ _ (Ne.symm readings), State.rd_wr_ne _ _ (Ne.symm valid),
    State.rd_forEach_wr cellCode_apart _ _ h]
  exact Nat.mod_eq_of_lt (cell k).word_lt

/-- What the spans of a scan write.  CELL7 stands where a span of tap 0 would stand; there is none (Table TEMP-8). -/
def spanFields : List Fld := R.MADC.STATUS.READINGS :: (List.range 7).map fun k => R.STRIP.SPAN.CODE (k + 1)

theorem State.storeSpans_fields (s : State) {n : Nat} (ch : Channel) (impl : Nat → Bool) (spans : List Reading)
    (h : n ≤ 8) : SameFields spanFields s (s.storeSpans n ch impl spans) := by
  refine SameFields.forEach (fun k hk a => ?_) s
  split
  next read =>
    have listed : R.STRIP.SPAN.CODE k ∈ spanFields :=
      List.mem_cons_of_mem _ (List.mem_map.2 ⟨k - 1, List.mem_range.2 (by omega), by rw [Nat.sub_add_cancel read.1]⟩)
    exact ((SameFields.refl _ a).wr _ listed).wr _ (List.mem_cons_self ..)
  next => exact .refl _ a

@[simp] theorem State.storeSpans_keeps (s : State) (n : Nat) (ch : Channel) (impl : Nat → Bool) (spans : List Reading) :
    (s.storeSpans n ch impl spans).madcQueue = s.madcQueue ∧ (s.storeSpans n ch impl spans).logs = s.logs := by
  constructor
  · exact forEach_keeps (g := State.madcQueue) (fun k a => by split <;> rfl) n s
  · exact forEach_keeps (g := State.logs) (fun k a => by split <;> rfl) n s

/-! ### The diagnosis -/

/-- What the diagnosis of a scan with current writes. -/
def diagFields : List Fld := [R.STRIP.DIAG.TAP_SUSPECT, R.STRIP.DIAG.CELL_SUSPECT, R.STRIP.DIAG.CLASS]

theorem State.classify_fields (s : State) (n : Nat) (spanAuto : Bool) (impl spanOk : Nat → Bool) :
    SameFields diagFields s (s.classify n spanAuto impl spanOk) := by
  have suspects (tap cell : Nat) :
      SameFields diagFields s ((s.wr R.STRIP.DIAG.TAP_SUSPECT tap).wr R.STRIP.DIAG.CELL_SUSPECT cell) :=
    ((SameFields.refl _ s).wr _ (by decide)).wr _ (by decide)
  have classed (tap cell v : Nat) : SameFields diagFields s
      (((s.wr R.STRIP.DIAG.TAP_SUSPECT tap).wr R.STRIP.DIAG.CELL_SUSPECT cell).wr R.STRIP.DIAG.CLASS v) :=
    (suspects tap cell).wr _ (by decide)
  unfold State.classify
  exact .ite (classed _ _ _) (.ite (classed _ _ _) (.ite (classed _ _ _) (.ite (classed _ _ _)
    (SameFields.wr ((suspects _ _).of_regs rfl) _ (by decide)))))

@[simp] theorem State.classify_keeps (s : State) (n : Nat) (spanAuto : Bool) (impl spanOk : Nat → Bool) :
    (s.classify n spanAuto impl spanOk).madcQueue = s.madcQueue ∧ (s.classify n spanAuto impl spanOk).logs = s.logs := by
  simp [State.classify, apply_ite State.madcQueue, apply_ite State.logs, State.clear_eq, State.fresh]

theorem State.rd_class_classify_of_plausible (s : State) {n : Nat} (spanAuto : Bool) {impl : Nat → Bool}
    (spanOk : Nat → Bool) (h : ∀ k < n, impl k = false) :
    (s.classify n spanAuto impl spanOk).rd R.STRIP.DIAG.CLASS = 0 := by
  rw [State.classify, if_pos (maskOf_of_none h)]
  exact State.rd_wr_self _ R.STRIP.DIAG.CLASS 0

/-- The tap levels and the cells, before the fault is classed. -/
def State.levelsShown (s : State) (n : Nat) (high : Nat → Bool) : State :=
  (s.wr R.STRIP.LEVELS.TAP_HIGH (maskOf (n + 1) high)).wr R.STRIP.STATUS.IMPL (2 ^ n - 1)

/-- Without current a class is set, class 3 where no tap is high, and the fault is logged. -/
theorem State.noCurrent_classed (s : State) (n : Nat) (high : Nat → Bool) : ∃ u,
    s.noCurrent n high = u.logMet 0x0321 [] ∧
      SameFields [R.STRIP.DIAG.CLASS, R.STRIP.LEVELS.OPEN_CELL] (s.levelsShown n high) u ∧ u.rd R.STRIP.DIAG.CLASS ≠ 0 ∧
      ((∀ k, high k = false) → u.rd R.STRIP.DIAG.CLASS = 3) ∧ u.madcQueue = s.madcQueue := by
  have classed (c : Nat) : SameFields [R.STRIP.DIAG.CLASS, R.STRIP.LEVELS.OPEN_CELL] (s.levelsShown n high)
      ((s.levelsShown n high).wr R.STRIP.DIAG.CLASS c) := (SameFields.refl _ _).wr _ (by decide)
  have reads (t : State) (c : Nat) : (t.wr R.STRIP.DIAG.CLASS c).rd R.STRIP.DIAG.CLASS = c % 16 := State.rd_wr_self _ _ _
  unfold State.noCurrent
  refine ⟨_, rfl, ?_⟩
  split
  next => exact ⟨classed 3, by rw [reads]; decide, fun _ => reads _ 3, rfl⟩
  next lit =>
    have notDark : ¬∀ k, high k = false := fun dark => lit (maskOf_of_none fun k _ => dark k)
    split
    next => exact ⟨classed 4, by rw [reads]; decide, fun dark => absurd dark notDark, rfl⟩
    next =>
      split
      next k _ =>
        refine ⟨(classed 5).wr _ (by decide), ?_, fun dark => absurd dark notDark, rfl⟩
        rw [State.rd_wr_ne _ _ (by decide), reads]
        decide
      next => exact ⟨classed 7, by rw [reads]; decide, fun dark => absurd dark notDark, rfl⟩

/-! ### The end of a scan -/

/-- What the end of a scan writes. -/
def stripEndFields : List Fld := [R.STRIP.STATUS.DONE, R.STRIP.STATUS.FAULT] ++ bothLogFields ++ turnFlags

theorem State.endStrip_of_class_zero {s : State} (h : s.rd R.STRIP.DIAG.CLASS = 0) :
    s.endStrip = (s.raise R.STRIP.STATUS.DONE).releaseMadc := by
  have still : (s.raise R.STRIP.STATUS.DONE).rd R.STRIP.DIAG.CLASS = 0 := by
    rw [State.raise_eq, State.rd_wr_ne _ _ (by decide), h]
  rw [State.endStrip, if_pos still]

theorem State.endStrip_of_class_ne_zero {s : State} (h : s.rd R.STRIP.DIAG.CLASS ≠ 0) :
    s.endStrip = (((s.raise R.STRIP.STATUS.DONE).raise R.STRIP.STATUS.FAULT).logMet 0x0320 []).releaseMadc := by
  have still : (s.raise R.STRIP.STATUS.DONE).rd R.STRIP.DIAG.CLASS ≠ 0 := by
    rwa [State.raise_eq, State.rd_wr_ne _ _ (by decide)]
  rw [State.endStrip, if_neg still]

theorem State.endStrip_fields (s : State) : SameFields stripEndFields s s.endStrip := by
  have done : SameFields stripEndFields s (s.raise R.STRIP.STATUS.DONE) := (SameFields.refl _ s).wr 1 (by decide)
  have logs : ∀ f ∈ bothLogFields, f ∈ stripEndFields := fun f h => by simp [stripEndFields, h]
  have turns : ∀ f ∈ turnFlags, f ∈ stripEndFields := fun f h => by simp [stripEndFields, h]
  exact SameFields.trans (.ite done ((done.wr 1 (by decide)).trans ((State.logMet_fields _ _ _).mono logs)))
    ((State.releaseMadc_fields _).mono turns)

theorem State.endStrip_madcRun (s : State) : s.endStrip.madcRun = s.madcQueue.head? := by
  rw [State.endStrip, (State.releaseMadc_turns _).1]
  split
  · rfl
  · simp [State.raise_eq]

theorem State.rd_done_endStrip (s : State) : s.endStrip.rd R.STRIP.STATUS.DONE = 1 := by
  rw [State.endStrip, State.releaseMadc_fields _ _ (by decide)]
  split
  · exact State.rd_raise_self _ (by decide)
  · rw [State.logMet_fields _ _ _ _ (by decide), State.raise_eq, State.rd_wr_ne _ _ (by decide)]
    exact State.rd_raise_self _ (by decide)

theorem State.rd_fault_endStrip {s : State} (h : s.rd R.STRIP.DIAG.CLASS ≠ 0) :
    s.endStrip.rd R.STRIP.STATUS.FAULT = 1 := by
  rw [State.endStrip_of_class_ne_zero h, State.releaseMadc_fields _ _ (by decide), State.logMet_fields _ _ _ _ (by decide)]
  exact State.rd_raise_self _ (by decide)

theorem State.endStrip_logs {s : State} (h : s.rd R.STRIP.DIAG.CLASS = 0) : s.endStrip.logs = s.logs := by
  rw [State.endStrip_of_class_zero h, State.releaseMadc_logs]
  rfl

end Sys2Proof.Machine
end

section
/-! PROOFS. The ends of a strip scan, with its current and without (R308 to R313, R712). -/

namespace Sys2Proof.Machine

open Sys2Proof

/-- The excitation current measured. -/
def State.stripMeasured (s : State) (v : Nat) (low : Bool) : State :=
  (s.wr R.STRIP.IMON.CURRENT v).wrBool R.STRIP.IMON.LOW low

theorem State.rd_low_stripMeasured (s : State) (v : Nat) (low : Bool) :
    (s.stripMeasured v low).rd R.STRIP.IMON.LOW = b2n low := State.rd_wrBool_self _ _ (by decide)

theorem State.rd_current_stripMeasured (s : State) {v : Nat} (low : Bool) (h : v < 4096) :
    (s.stripMeasured v low).rd R.STRIP.IMON.CURRENT = v := by
  rw [State.stripMeasured, State.wrBool_eq, State.rd_wr_ne _ _ (by decide)]
  exact s.rd_wr_of_lt (f := R.STRIP.IMON.CURRENT) h

/-! ### Without current -/

theorem exec_stripScanDone_of_low {s : State} {n : Nat} {sa : Bool} {ch : Channel} {current : Nat} (cells spans : List Reading)
    (taps : List Nat) (running : s.madcRun = some (.strip n sa ch))
    (low : (s.variant == .h || decide (current < 25)) = true) :
    exec (.stripScanDone current cells spans taps) s =
      .next ((s.stripMeasured (if s.variant == .h then min 24 current else min 4095 current) true).noCurrent n
        (fun k => !(s.variant == .h) && taps.getD k 0 != 0)).endStrip := by
  change execStripScanDone current cells spans taps s = _
  simp only [execStripScanDone, running, low, if_true]
  rfl

/-- A scan without current marks every cell implausible and faults, in class 3 on a BST420H, whose strip has no lead. -/
theorem completes_stripScanDone_of_low {s : State} {n : Nat} {sa : Bool} {ch : Channel} {current : Nat}
    (cells spans : List Reading) (taps : List Nat) (running : s.madcRun = some (.strip n sa ch)) (bound : n ≤ 8)
    (low : s.variant = .h ∨ current < 25) :
    Completes (.stripScanDone current cells spans taps) s fun t =>
      t.rd R.STRIP.IMON.LOW = 1 ∧ t.rd R.STRIP.STATUS.IMPL = 2 ^ n - 1 ∧ t.rd R.STRIP.STATUS.DONE = 1 ∧
        t.rd R.STRIP.STATUS.FAULT = 1 ∧ t.madcRun = s.madcQueue.head? ∧ (s.variant = .h → t.rd R.STRIP.DIAG.CLASS = 3) := by
  let high := fun k => !(s.variant == .h) && taps.getD k 0 != 0
  let m := s.stripMeasured (if s.variant == .h then min 24 current else min 4095 current) true
  obtain ⟨u, logged, fields, faulty, dark, queue⟩ := m.noCurrent_classed n high
  have kept {f : Fld} (h : f.key ∉ bothLogFields.map Fld.key) : (u.logMet 0x0321 []).rd f = u.rd f :=
    u.logMet_fields _ _ f h
  have classKept : (u.logMet 0x0321 []).rd R.STRIP.DIAG.CLASS = u.rd R.STRIP.DIAG.CLASS := kept (by decide)
  refine ⟨(u.logMet 0x0321 []).endStrip, ?_, ?_, ?_, State.rd_done_endStrip _, State.rd_fault_endStrip (by rwa [classKept]),
    ?_, ?_⟩
  · rw [← logged]
    exact exec_stripScanDone_of_low cells spans taps running (by simpa using low)
  · rw [State.endStrip_fields _ _ (by decide), kept (by decide), fields _ (by decide), State.levelsShown,
      State.rd_wr_ne _ _ (by decide), State.rd_wr_ne _ _ (by decide)]
    exact s.rd_low_stripMeasured _ true
  · rw [State.endStrip_fields _ _ (by decide), kept (by decide), fields _ (by decide)]
    exact State.rd_wr_of_lt _ (f := R.STRIP.STATUS.IMPL) (ones_lt bound)
  · rw [State.endStrip_madcRun]
    simp [queue, m, State.stripMeasured, State.wrBool_eq]
  · intro bare
    rw [State.endStrip_fields _ _ (by decide), classKept]
    exact dark fun k => by simp [high, bare]

/-! ### With current -/

/-- Whether each cell of a scan is implausible. -/
def cellImplausible (cells : List Reading) (ch : Channel) (k : Nat) : Bool :=
  (readingAt cells ch k).implausible ch.lo ch.hi

/-- The cells of a scan stored, with IMPL and OVR. -/
def State.cellsShown (s : State) (n : Nat) (ch : Channel) (cells : List Reading) : State :=
  ((s.storeCells n (readingAt cells ch)).wr R.STRIP.STATUS.IMPL (maskOf n (cellImplausible cells ch))).wr R.STRIP.STATUS.OVR
    (maskOf n fun k => (readingAt cells ch k).clipped)

/-- And the spans read, where SPAN_AUTO asks for them. -/
def State.stripRead (s : State) (n : Nat) (sa : Bool) (ch : Channel) (cells spans : List Reading) : State :=
  if sa then (s.cellsShown n ch cells).storeSpans n ch (cellImplausible cells ch) spans else s.cellsShown n ch cells

theorem State.stripRead_fields (s : State) {n : Nat} (sa : Bool) (ch : Channel) (cells spans : List Reading) (h : n ≤ 8) :
    SameFields spanFields (s.cellsShown n ch cells) (s.stripRead n sa ch cells spans) :=
  .ite (State.storeSpans_fields _ ch _ spans h) (.refl _ _)

@[simp] theorem State.stripRead_keeps (s : State) (n : Nat) (sa : Bool) (ch : Channel) (cells spans : List Reading) :
    (s.stripRead n sa ch cells spans).madcQueue = s.madcQueue ∧ (s.stripRead n sa ch cells spans).logs = s.logs := by
  cases sa <;> simp [State.stripRead, State.cellsShown]

theorem exec_stripScanDone_of_current {s : State} {n : Nat} {sa : Bool} {ch : Channel} {current : Nat}
    (cells spans : List Reading) (taps : List Nat) (running : s.madcRun = some (.strip n sa ch)) (flows : 25 ≤ current)
    (leads : s.variant ≠ .h) :
    exec (.stripScanDone current cells spans taps) s =
      .next (((s.stripMeasured (min 4095 current) false).stripRead n sa ch cells spans).classify n sa
        (cellImplausible cells ch) (spanPlausible spans ch)).endStrip := by
  have bare : (s.variant == .h) = false := by simpa using leads
  have low : decide (current < 25) = false := decide_eq_false (Nat.not_lt.2 flows)
  change execStripScanDone current cells spans taps s = _
  simp only [execStripScanDone, running, bare, low, Bool.false_or, Bool.false_eq_true, if_false]
  rfl

/-- A scan with current stores its codes and shows DONE; where every cell is plausible it finds no fault. -/
theorem completes_stripScanDone_of_current {s : State} {n : Nat} {sa : Bool} {ch : Channel} {current : Nat}
    (cells spans : List Reading) (taps : List Nat) (running : s.madcRun = some (.strip n sa ch)) (bound : n ≤ 8)
    (flows : 25 ≤ current) (leads : s.variant ≠ .h) :
    Completes (.stripScanDone current cells spans taps) s fun t =>
      t.rd R.STRIP.IMON.CURRENT = min 4095 current ∧ t.rd R.STRIP.IMON.LOW = 0 ∧ t.rd R.STRIP.STATUS.DONE = 1 ∧
        t.rd R.STRIP.STATUS.VALID = 2 ^ n - 1 ∧
        (∀ k ∈ List.range n, t.rd (R.STRIP.CELL.CODE k) = (readingAt cells ch k).word) ∧ t.madcRun = s.madcQueue.head? ∧
        ((∀ k ∈ List.range n, (readingAt cells ch k).implausible ch.lo ch.hi = false) →
          t.rd R.STRIP.DIAG.CLASS = 0 ∧ t.rd R.STRIP.STATUS.IMPL = 0 ∧ t.logs = s.logs) := by
  let m := s.stripMeasured (min 4095 current) false
  let u := (m.stripRead n sa ch cells spans).classify n sa (cellImplausible cells ch) (spanPlausible spans ch)
  -- What is written after the cells have been shown.
  have late {f : Fld} (h : f.key ∉ (spanFields ++ diagFields ++ stripEndFields).map Fld.key) :
      u.endStrip.rd f = (m.cellsShown n ch cells).rd f := by
    simp only [List.map_append, List.mem_append, not_or] at h
    obtain ⟨⟨spansApart, diagApart⟩, endApart⟩ := h
    rw [State.endStrip_fields _ _ endApart, State.classify_fields _ _ _ _ _ _ diagApart,
      State.stripRead_fields _ _ _ _ _ bound _ spansApart]
  have stored {f : Fld} (impl : R.STRIP.STATUS.IMPL.key ≠ f.key) (ovr : R.STRIP.STATUS.OVR.key ≠ f.key) :
      (m.cellsShown n ch cells).rd f = (m.storeCells n (readingAt cells ch)).rd f := by
    rw [State.cellsShown, State.rd_wr_ne _ _ ovr, State.rd_wr_ne _ _ impl]
  have others : ∀ k < 8, (R.STRIP.CELL.CODE k).key ∉ (spanFields ++ diagFields ++ stripEndFields).map Fld.key ∧
      R.STRIP.STATUS.IMPL.key ≠ (R.STRIP.CELL.CODE k).key ∧ R.STRIP.STATUS.OVR.key ≠ (R.STRIP.CELL.CODE k).key := by decide
  have measured := m.storeCells_fields (readingAt cells ch) bound
  refine ⟨u.endStrip, exec_stripScanDone_of_current cells spans taps running flows leads, ?_, ?_,
    State.rd_done_endStrip _, ?_, ?_, ?_, ?_⟩
  · rw [late (by decide), stored (by decide) (by decide), measured _ (by decide)]
    exact s.rd_current_stripMeasured false (Nat.lt_succ_of_le (Nat.min_le_left _ _))
  · rw [late (by decide), stored (by decide) (by decide), measured _ (by decide)]
    exact s.rd_low_stripMeasured _ false
  · rw [late (by decide), stored (by decide) (by decide)]
    exact m.rd_valid_storeCells _ bound
  · intro k hk
    have inside := List.mem_range.1 hk
    obtain ⟨apart, impl, ovr⟩ := others k (Nat.lt_of_lt_of_le inside bound)
    rw [late apart, stored impl ovr, m.rd_cell_storeCells _ inside bound]
  · simp [State.endStrip_madcRun, u, m, State.stripMeasured, State.wrBool_eq]
  · intro plausible
    have plain : ∀ k < n, cellImplausible cells ch k = false := fun k hk => plausible k (List.mem_range.2 hk)
    have healthy : u.rd R.STRIP.DIAG.CLASS = 0 := State.rd_class_classify_of_plausible _ sa _ plain
    refine ⟨by rw [State.endStrip_fields _ _ (by decide), healthy], ?_, ?_⟩
    · rw [late (by decide), State.cellsShown, State.rd_wr_ne _ _ (by decide), maskOf_of_none plain]
      exact State.rd_wr_self _ R.STRIP.STATUS.IMPL 0
    · rw [State.endStrip_logs healthy]
      simp [u, m, State.stripMeasured, State.wrBool_eq]

end Sys2Proof.Machine
end

section
/-! SUPPORT. The readings of the Pt1000 pair and the end of its scan (R315): the fields that each step may write, and what they
read. -/

namespace Sys2Proof.Machine

open Sys2Proof

/-! ### One channel -/

theorem State.ptCode_keeps (s : State) (chA : Bool) (ch : Channel) (r : Reading) :
    (s.ptCode chA ch r).2.regs = s.regs ∧ (s.ptCode chA ch r).2.madcQueue = s.madcQueue ∧
      (s.ptCode chA ch r).2.variant = s.variant := by
  unfold State.ptCode
  split <;> exact ⟨rfl, rfl, rfl⟩

theorem State.readPt_keeps (s : State) (chA : Bool) (ch : Option Channel) (r : Reading) (res impl clip : Fld) :
    (s.readPt chA ch r res impl clip).1.madcQueue = s.madcQueue := by
  cases ch with
  | none => rfl
  | some c => exact (s.ptCode_keeps chA c r).2.1

theorem State.readPt_fields (s : State) (chA : Bool) (ch : Option Channel) (r : Reading) (res impl clip : Fld) :
    SameFields [res, R.MADC.STATUS.READINGS, impl, clip] s (s.readPt chA ch r res impl clip).1 := by
  cases ch with
  | none => exact ((SameFields.refl _ s).wr _ (by simp)).wr _ (by simp)
  | some c =>
    have same := (SameFields.refl [res, R.MADC.STATUS.READINGS, impl, clip] s).of_regs (s.ptCode_keeps chA c r).1
    exact (((same.wr _ (by simp)).wr _ (by simp)).wr _ (by simp)).wr _ (by simp)

/-- A channel that is off is not read. -/
theorem State.readPt_none_fields (s : State) (chA : Bool) (r : Reading) (res impl clip : Fld) :
    SameFields [impl, clip] s (s.readPt chA none r res impl clip).1 :=
  ((SameFields.refl _ s).wr _ (by simp)).wr _ (by simp)

/-- A channel with sense leads stores the code of its reading. -/
theorem State.rd_code_readPt {s : State} {chA : Bool} (c : Channel) (r : Reading) {res impl clip : Fld}
    (leads : (chA && s.variant == .a) = false) (wide : res.width = 32)
    (apart : res.key ∉ [R.MADC.STATUS.READINGS, impl, clip].map Fld.key) :
    (s.readPt chA (some c) r res impl clip).1.rd res = (readingCode r c).word := by
  simp only [List.map_cons, List.map_nil, List.mem_cons, List.not_mem_nil, or_false, not_or] at apart
  obtain ⟨readings, implausible, clipped⟩ := apart
  have code : (s.ptCode chA c r).1 = readingCode r c := by simp [State.ptCode, leads]
  rw [State.readPt, State.wrBool_eq, State.rd_wr_ne _ _ (Ne.symm clipped), State.wrBool_eq,
    State.rd_wr_ne _ _ (Ne.symm implausible), State.storePt, State.count_eq, State.rd_wr_ne _ _ (Ne.symm readings), code]
  exact State.rd_wr_of_lt _ (wide ▸ (readingCode r c).word_lt)

/-! ### The scan -/

/-- The loop current measured. -/
def State.ptMeasured (s : State) (current : Nat) (isOpen : Bool) : State :=
  (s.wr R.PT.IMON.CURRENT (min 4095 current)).wrBool R.PT.STATUS.OPEN isOpen

def State.ptReadA (s : State) (ch : Option Channel) (r : Reading) : State × Bool :=
  s.readPt true ch r R.PT.RES_A.CODE R.PT.STATUS.IMPL_A R.PT.STATUS.OVR_A

def State.ptReadB (s : State) (ch : Option Channel) (r : Reading) : State × Bool :=
  s.readPt false ch r R.PT.RES_B.CODE R.PT.STATUS.IMPL_B R.PT.STATUS.OVR_B

theorem State.rd_open_ptMeasured (s : State) (current : Nat) (isOpen : Bool) :
    (s.ptMeasured current isOpen).rd R.PT.STATUS.OPEN = b2n isOpen := State.rd_wrBool_self _ _ (by decide)

theorem State.rd_current_ptMeasured (s : State) (current : Nat) (isOpen : Bool) :
    (s.ptMeasured current isOpen).rd R.PT.IMON.CURRENT = min 4095 current := by
  rw [State.ptMeasured, State.wrBool_eq, State.rd_wr_ne _ _ (by decide)]
  exact s.rd_wr_of_lt (f := R.PT.IMON.CURRENT) (Nat.lt_succ_of_le (Nat.min_le_left _ _))

theorem State.ptMeasured_fields (s : State) (current : Nat) (isOpen : Bool) :
    SameFields [R.PT.IMON.CURRENT, R.PT.STATUS.OPEN] s (s.ptMeasured current isOpen) :=
  ((SameFields.refl _ s).wr _ (by decide)).wr _ (by decide)

/-- The end of a scan whose loop is open, or whose channels are implausible. -/
def State.endPt (s : State) (isOpen implA implB : Bool) : State :=
  let s1 := s.raise R.PT.STATUS.DONE
  let s2 := if isOpen || implA || implB then s1.raise R.PT.STATUS.FAULT else s1
  (if isOpen then s2.logMet 0x0324 [] else if implA || implB then s2.logMet 0x0325 [] else s2).releaseMadc

/-- What the end of a scan writes. -/
def ptEndFields : List Fld := [R.PT.STATUS.DONE, R.PT.STATUS.FAULT] ++ bothLogFields ++ turnFlags

/-- After its flags are set the end of a scan writes the logs and the turns alone. -/
theorem State.endPt_fields_of_flagged (s : State) (isOpen implA implB : Bool) :
    SameFields (bothLogFields ++ turnFlags)
      (if isOpen || implA || implB then (s.raise R.PT.STATUS.DONE).raise R.PT.STATUS.FAULT else s.raise R.PT.STATUS.DONE)
      (s.endPt isOpen implA implB) := by
  have logged (u : State) (code : Nat) : SameFields (bothLogFields ++ turnFlags) u (u.logMet code []) :=
    (State.logMet_fields u code []).mono fun _ => List.mem_append_left _
  refine SameFields.trans ?_ ((State.releaseMadc_fields _).mono fun _ => List.mem_append_right _)
  exact .ite (logged _ _) (.ite (logged _ _) (.refl _ _))

theorem State.endPt_fields (s : State) (isOpen implA implB : Bool) :
    SameFields ptEndFields s (s.endPt isOpen implA implB) := by
  have done : SameFields ptEndFields s (s.raise R.PT.STATUS.DONE) := (SameFields.refl _ s).wr 1 (by decide)
  exact SameFields.trans (.ite (done.wr 1 (by decide)) done)
    ((s.endPt_fields_of_flagged isOpen implA implB).mono fun _ h => List.mem_cons_of_mem _ (List.mem_cons_of_mem _ h))

theorem State.rd_done_endPt (s : State) (isOpen implA implB : Bool) :
    (s.endPt isOpen implA implB).rd R.PT.STATUS.DONE = 1 := by
  rw [s.endPt_fields_of_flagged isOpen implA implB _ (by decide)]
  split
  · rw [State.raise_eq, State.rd_wr_ne _ _ (by decide)]
    exact State.rd_raise_self _ (by decide)
  · exact State.rd_raise_self _ (by decide)

theorem State.rd_fault_endPt_of_open (s : State) (implA implB : Bool) :
    (s.endPt true implA implB).rd R.PT.STATUS.FAULT = 1 := by
  rw [s.endPt_fields_of_flagged true implA implB _ (by decide)]
  exact State.rd_raise_self _ (by decide)

theorem State.endPt_madcRun (s : State) (isOpen implA implB : Bool) :
    (s.endPt isOpen implA implB).madcRun = s.madcQueue.head? := by
  rw [State.endPt, (State.releaseMadc_turns _).1]
  simp [apply_ite State.madcQueue, State.raise_eq]

theorem exec_ptScanDone_of_pt {s : State} {chA chB : Option Channel} {current : Nat} {isOpen : Bool} (readA readB : Reading)
    (running : s.madcRun = some (.pt chA chB)) (loop : decide (current < 8) = isOpen) :
    let a := (s.ptMeasured current isOpen).ptReadA (if isOpen then none else chA) readA
    let b := a.1.ptReadB (if isOpen then none else chB) readB
    exec (.ptScanDone current readA readB) s = .next (b.1.endPt isOpen a.2 b.2) := by
  change execPtScanDone current readA readB s = _
  simp only [execPtScanDone, running, loop]
  rfl

/-- A scan whose loop carries current stores the codes of the enabled channels; channel A of a BST420A has no sense leads. -/
theorem completes_ptScanDone_of_current {s : State} {chA chB : Option Channel} {current : Nat} (readA readB : Reading)
    (running : s.madcRun = some (.pt chA chB)) (flows : 8 ≤ current) :
    Completes (.ptScanDone current readA readB) s fun t =>
      t.rd R.PT.STATUS.OPEN = 0 ∧ t.rd R.PT.STATUS.DONE = 1 ∧ t.rd R.PT.IMON.CURRENT = min 4095 current ∧
        (∀ c ∈ chA, s.variant ≠ .a → t.rd R.PT.RES_A.CODE = (readingCode readA c).word) ∧
        (∀ c ∈ chB, t.rd R.PT.RES_B.CODE = (readingCode readB c).word) ∧ t.madcRun = s.madcQueue.head? := by
  let m := s.ptMeasured current false
  let a := m.ptReadA chA readA
  let b := a.1.ptReadB chB readB
  have ofA : SameFields [R.PT.RES_A.CODE, R.MADC.STATUS.READINGS, R.PT.STATUS.IMPL_A, R.PT.STATUS.OVR_A] m a.1 :=
    m.readPt_fields true chA readA _ _ _
  have ofB : SameFields [R.PT.RES_B.CODE, R.MADC.STATUS.READINGS, R.PT.STATUS.IMPL_B, R.PT.STATUS.OVR_B] a.1 b.1 :=
    a.1.readPt_fields false chB readB _ _ _
  have ended := b.1.endPt_fields false a.2 b.2
  refine ⟨b.1.endPt false a.2 b.2, exec_ptScanDone_of_pt readA readB running (decide_eq_false (Nat.not_lt.2 flows)), ?_,
    State.rd_done_endPt _ _ _ _, ?_, ?_, ?_, ?_⟩
  · rw [ended _ (by decide), ofB _ (by decide), ofA _ (by decide)]
    exact s.rd_open_ptMeasured current false
  · rw [ended _ (by decide), ofB _ (by decide), ofA _ (by decide)]
    exact s.rd_current_ptMeasured current false
  · rintro c rfl leads
    have valid : (true && m.variant == .a) = false := by simpa [m, State.ptMeasured, State.wrBool_eq] using leads
    rw [ended _ (by decide), ofB _ (by decide)]
    exact State.rd_code_readPt c readA valid rfl (by decide)
  · rintro c rfl
    rw [ended _ (by decide)]
    exact State.rd_code_readPt c readB rfl rfl (by decide)
  · rw [State.endPt_madcRun, show b.1.madcQueue = a.1.madcQueue from a.1.readPt_keeps ..,
      show a.1.madcQueue = m.madcQueue from m.readPt_keeps ..]
    rfl

/-- A scan whose loop is open takes no reading and faults. -/
theorem completes_ptScanDone_of_open {s : State} {chA chB : Option Channel} {current : Nat} (readA readB : Reading)
    (running : s.madcRun = some (.pt chA chB)) (loop : current < 8) :
    Completes (.ptScanDone current readA readB) s fun t =>
      t.rd R.PT.STATUS.OPEN = 1 ∧ t.rd R.PT.STATUS.DONE = 1 ∧ t.rd R.PT.STATUS.FAULT = 1 ∧
        t.rd R.PT.RES_A.CODE = s.rd R.PT.RES_A.CODE ∧ t.rd R.PT.RES_B.CODE = s.rd R.PT.RES_B.CODE := by
  let m := s.ptMeasured current true
  let a := m.ptReadA none readA
  let b := a.1.ptReadB none readB
  have ofA : SameFields [R.PT.STATUS.IMPL_A, R.PT.STATUS.OVR_A] m a.1 := m.readPt_none_fields true readA _ _ _
  have ofB : SameFields [R.PT.STATUS.IMPL_B, R.PT.STATUS.OVR_B] a.1 b.1 := a.1.readPt_none_fields false readB _ _ _
  have ended := b.1.endPt_fields true a.2 b.2
  refine ⟨b.1.endPt true a.2 b.2, exec_ptScanDone_of_pt readA readB running (decide_eq_true loop), ?_,
    State.rd_done_endPt _ _ _ _, State.rd_fault_endPt_of_open _ _ _, ?_, ?_⟩
  · rw [ended _ (by decide), ofB _ (by decide), ofA _ (by decide)]
    exact s.rd_open_ptMeasured current true
  · rw [ended _ (by decide), ofB _ (by decide), ofA _ (by decide)]
    exact s.ptMeasured_fields current true _ (by decide)
  · rw [ended _ (by decide), ofB _ (by decide), ofA _ (by decide)]
    exact s.ptMeasured_fields current true _ (by decide)

end Sys2Proof.Machine
end

section
/-! SUPPORT. The code of a reading (R304, R305). -/

namespace Sys2Proof.Machine

open Sys2Proof

theorem openRound_zero (place : Nat) {b : Nat} (h : b ≠ 0) : openRound place 0 b = 0 := by
  simp [openRound, h]

theorem fullScale_ne_zero (fs : Nat) : fullScale fs ≠ 0 := by
  unfold fullScale
  split
  · decide
  · split <;> decide

/-- A conversion with a reference gives the ratio of its voltages at full scale, to the nearest code. -/
theorem convCode_of_ref {v : Conv} (fs : Nat) (h : v.ref ≠ 0) :
    convCode v fs = openRound 16 (2 ^ 21 * v.sensor) (v.ref * fullScale fs) := if_neg h

theorem convCode_of_zero {v : Conv} (fs : Nat) (ref : v.ref ≠ 0) (sensor : v.sensor = 0) : convCode v fs = 0 := by
  rw [convCode_of_ref fs ref, sensor, Int.mul_zero]
  exact openRound_zero 16 (Nat.mul_ne_zero ref (fullScale_ne_zero fs))

theorem readingCode_of_chop (r : Reading) {ch : Channel} (h : ch.chop = true) :
    readingCode r ch =
      { value := openDiv 15 (clip22 (convCode r.first ch.fs) + clip22 (convCode r.second ch.fs)) 2
        clipped := clip22 (convCode r.first ch.fs) != convCode r.first ch.fs ||
          clip22 (convCode r.second ch.fs) != convCode r.second ch.fs } := if_pos h

theorem readingCode_of_plain (r : Reading) {ch : Channel} (h : ch.chop = false) :
    readingCode r ch =
      { value := clip22 (convCode r.first ch.fs)
        clipped := clip22 (convCode r.first ch.fs) != convCode r.first ch.fs } := if_neg (by simp [h])

end Sys2Proof.Machine
end

section
/-! PROOFS. The commands of the strip scanner and of the Pt1000 pair (ch. 11). -/

namespace Sys2Proof.Machine

open Sys2Proof

/-! ### Starts -/

/-- STATUS and DIAG as a scan finds them at its start. -/
def State.scanCleared (s : State) : State :=
  (((((s.clear R.STRIP.STATUS.VALID).clear R.STRIP.STATUS.IMPL).clear R.STRIP.STATUS.OVR).clear
    R.STRIP.DIAG.TAP_SUSPECT).clear R.STRIP.DIAG.CELL_SUSPECT).clear R.STRIP.DIAG.CLASS

theorem State.rd_scanCleared (s : State) :
    s.scanCleared.rd R.STRIP.STATUS.VALID = 0 ∧ s.scanCleared.rd R.STRIP.STATUS.IMPL = 0 := by
  have later : SameFields [R.STRIP.STATUS.OVR, R.STRIP.DIAG.TAP_SUSPECT, R.STRIP.DIAG.CELL_SUSPECT, R.STRIP.DIAG.CLASS]
      ((s.clear R.STRIP.STATUS.VALID).clear R.STRIP.STATUS.IMPL) s.scanCleared :=
    ((((SameFields.refl _ _).wr 0 (by decide)).wr 0 (by decide)).wr 0 (by decide)).wr 0 (by decide)
  constructor
  · rw [later _ (by decide), State.clear_eq, State.rd_wr_ne _ _ (by decide)]
    exact State.rd_wr_self _ R.STRIP.STATUS.VALID 0
  · rw [later _ (by decide)]
    exact State.rd_wr_self _ R.STRIP.STATUS.IMPL 0

theorem exec_stripStart_of_free {s : State} (runs : s.metRuns = true) (free : s.flag R.STRIP.STATUS.BUSY = false) :
    exec .stripStart s = .next (s.scanCleared.submitMadc s.stripScan) := by
  change execStripStart s = _
  simp only [execStripStart, runs, free, Bool.not_true, Bool.false_eq_true, if_false]
  rfl

theorem exec_stripCont_of_free {s : State} (runs : s.metRuns = true) (free : s.flag R.STRIP.STATUS.BUSY = false) :
    exec .stripCont s = .next (s.submitMadc (.cont s.ncell)) := by
  change execStripCont s = _
  simp [execStripCont, runs, free]

theorem exec_ptStart_of_free {s : State} (runs : s.metRuns = true) (free : s.flag R.PT.STATUS.BUSY = false) :
    exec .ptStart s = .next (s.submitMadc s.ptScan) := by
  change execPtStart s = _
  simp [execPtStart, runs, free]

/-! ### The end of a continuity test -/

/-- The open taps shown, the test done. -/
def State.contShown (s : State) (m : Nat) : State := (s.wr R.STRIP.CONT.TAP_OPEN m).raise R.STRIP.CONT.DONE

/-- A continuity test reports an open tap among taps 0 to N and ends. -/
theorem exec_stripContDone_of_cont {s : State} {n : Nat} (opens : List Nat) (running : s.madcRun = some (.cont n)) :
    let m := maskOf 9 (fun k => decide (k > n) || opens.contains k)
    exec (.stripContDone opens) s =
      .next (if m % 2 ^ (n + 1) = 0 then s.contShown m else (s.contShown m).logMet 0x0322 []).releaseMadc := by
  change execStripContDone opens s = _
  simp only [execStripContDone, running]
  rfl

theorem completes_stripContDone {s : State} {n : Nat} (opens : List Nat) (running : s.madcRun = some (.cont n)) :
    Completes (.stripContDone opens) s fun t =>
      t.rd R.STRIP.CONT.TAP_OPEN = maskOf 9 (fun k => decide (k > n) || opens.contains k) ∧ t.rd R.STRIP.CONT.DONE = 1 ∧
        t.madcRun = s.madcQueue.head? := by
  let m := maskOf 9 (fun k => decide (k > n) || opens.contains k)
  let u := if m % 2 ^ (n + 1) = 0 then s.contShown m else (s.contShown m).logMet 0x0322 []
  have reported : SameFields bothLogFields (s.contShown m) u := .ite (.refl _ _) (State.logMet_fields _ _ _)
  refine ⟨u.releaseMadc, exec_stripContDone_of_cont opens running, ?_, ?_, ?_⟩
  · rw [State.releaseMadc_fields _ _ (by decide), reported _ (by decide), State.contShown, State.raise_eq,
      State.rd_wr_ne _ _ (by decide)]
    exact s.rd_wr_of_lt (f := R.STRIP.CONT.TAP_OPEN) (maskOf_lt 9 _)
  · rw [State.releaseMadc_fields _ _ (by decide), reported _ (by decide)]
    exact State.rd_raise_self _ (by decide)
  · rw [(State.releaseMadc_turns u).1]
    simp [u, apply_ite State.madcQueue, State.contShown, State.raise_eq]

/-! ### Aborts -/

/-- An abort stores what was read before it and withdraws the jobs of its scanner. -/
theorem exec_stripAbort_of_busy {s : State} (cells : List Reading) (busy : s.flag R.STRIP.STATUS.BUSY = true) :
    ∃ u : State, exec (.stripAbort cells) s = .next ((u.raise R.STRIP.STATUS.ABORTED).withdrawMadc MetJob.isStrip) :=
  ⟨_, if_neg (by simp [busy])⟩

theorem exec_ptAbort_of_busy {s : State} (reads : List Reading) (busy : s.flag R.PT.STATUS.BUSY = true) :
    ∃ u : State, exec (.ptAbort reads) s = .next ((u.raise R.PT.STATUS.ABORTED).withdrawMadc MetJob.isPt) :=
  ⟨_, if_neg (by simp [busy])⟩

/-- Settles O26, clause by clause: a start is `State.submitMadc`, an abort `State.withdrawMadc`, and the end of a scan is read
back through the fields that its last steps leave alone. -/
theorem stripAndPtScans : Obligations.StripAndPtScans := by
  unfold Obligations.StripAndPtScans
  refine ⟨?stripStart, ?scanned, ?noCurrent, ?bare, ?contStart, ?contDone, ?stripAbort, ?ptStart, ?ptDone, ?ptOpen, ?ptAbort,
    ?chopZero, ?plain, ?chop⟩
  case stripStart =>
    intro s runs free
    obtain ⟨valid, impl⟩ := s.rd_scanCleared
    have kept := s.scanCleared.submitMadc_fields s.stripScan
    exact ⟨_, exec_stripStart_of_free runs free, s.scanCleared.submitMadc_jobs s.stripScan,
      State.rd_stripBusy_submitMadc _ rfl, (kept _ (by decide)).trans valid, (kept _ (by decide)).trans impl⟩
  case scanned =>
    intro current n sa ch cells spans taps s running _ bound flows leads
    exact completes_stripScanDone_of_current cells spans taps running bound flows leads
  case noCurrent =>
    intro current n sa ch cells spans taps s running _ bound low
    obtain ⟨t, command, isLow, impl, done, fault, run, -⟩ :=
      completes_stripScanDone_of_low cells spans taps running bound (.inr low)
    exact ⟨t, command, isLow, impl, done, fault, run⟩
  case bare =>
    intro current n sa ch cells spans taps s running _ bound bare
    obtain ⟨t, command, isLow, -, done, fault, -, third⟩ :=
      completes_stripScanDone_of_low (current := current) cells spans taps running bound (.inl bare)
    exact ⟨t, command, isLow, third bare, done, fault⟩
  case contStart =>
    intro s runs free
    exact ⟨_, exec_stripCont_of_free runs free, s.submitMadc_jobs _, s.rd_stripBusy_submitMadc rfl⟩
  case contDone =>
    intro n opens s running
    exact completes_stripContDone opens running
  case stripAbort =>
    intro cells s busy
    obtain ⟨u, command⟩ := exec_stripAbort_of_busy cells busy
    exact ⟨_, command, (State.withdrawMadc_fields _ _ _ (by decide)).trans (State.rd_raise_self _ (by decide)),
      State.rd_stripBusy_withdrawMadc _, State.withdrawMadc_jobs _ _⟩
  case ptStart =>
    intro s runs free
    exact ⟨_, exec_ptStart_of_free runs free, s.submitMadc_jobs _, s.rd_ptBusy_submitMadc rfl⟩
  case ptDone =>
    intro current readA readB chA chB s running flows
    exact completes_ptScanDone_of_current readA readB running flows
  case ptOpen =>
    intro current readA readB chA chB s running loop
    exact completes_ptScanDone_of_open readA readB running loop
  case ptAbort =>
    intro reads s busy
    obtain ⟨u, command⟩ := exec_ptAbort_of_busy reads busy
    exact ⟨_, command, (State.withdrawMadc_fields _ _ _ (by decide)).trans (State.rd_raise_self _ (by decide)),
      State.rd_ptBusy_withdrawMadc _, State.withdrawMadc_jobs _ _⟩
  case chopZero =>
    intro r ch chop ref1 ref2 zero1 zero2
    rw [readingCode_of_chop r chop, convCode_of_zero _ ref1 zero1, convCode_of_zero _ ref2 zero2]
    decide
  case plain =>
    intro r ch plain ref
    rw [readingCode_of_plain r plain, convCode_of_ref _ ref]
    exact ⟨rfl, bne_iff_ne⟩
  case chop =>
    intro r ch chop
    rw [readingCode_of_chop r chop]
    exact ⟨rfl, fun unclipped => by simpa using (Bool.or_eq_false_iff.1 unclipped).1⟩

end Sys2Proof.Machine
end
